-- ==== Sys2Proof/Word.lean ====
section
/-! DEFINITION. The bit vectors of the AV16: the bytes of the two lines, the two-byte fields of the
records, the readings of the return clock, and the pin sets. -/

namespace Sys2Proof

/-- A byte of the desk link or of the station bus (R170, R186). -/
abbrev Byte := BitVec 8

/-- A field of two bytes (R186). -/
abbrev Word := BitVec 16

/-- A reading of the return clock: tenths of a second, wrapping after 4,294,967,295 (R135). -/
abbrev Reading := BitVec 32

/-- A set of pins; bit n - 1 stands for pin n, as in the two-byte pin set of R186. -/
abbrev PinSet := BitVec 10

/-- A lane of the sixteen. Index i is lane i + 1 (Conventions of 00_scope.md). -/
abbrev LaneIx := Fin 16

/-- A pair of the eight, which is also a station address. Index p is pair p + 1. -/
abbrev PairIx := Fin 8

end Sys2Proof
end

