-- ==== Sys2Proof/Syntax.lean ====
section
/-! DEFINITION. The commands the AV16 takes: one constructor of Instr for each row of
spec/opcode_table.json, with the fields the command carries. Requests whose BODY layout the manual
gives (an empty BODY, SET_LINK, RESET) are read from the bytes in the receive slot. Every other request
carries its fields as operands: agrees says whether the BODY's length agrees with the kind's fields. -/

namespace Sys2Proof

/-- The reading of one pin position of a deck (R91). -/
inductive PinState where
  | standing
  | down
  | unsettled
  deriving DecidableEq, Repr

/-- The two lanes of a pair, as a station names them (R91). -/
inductive Side where
  | a
  | b
  deriving DecidableEq, Repr

/-- The two generations of pair station (R83). -/
inductive StationClass where
  | class1
  | class2
  deriving DecidableEq, Repr

/-- The fitted lanes of a station (R83). -/
inductive Fitted where
  | both
  | aOnly
  | bOnly
  deriving DecidableEq, Repr

/-- A power state or a power order (R90, R91). -/
inductive Power where
  | off
  | on
  deriving DecidableEq, Repr

/-- The cause a station gives with MACHINE_JAM (R91). -/
inductive JamSource where
  | motor
  | pinFeed
  | sweep
  | elevator
  deriving DecidableEq, Repr

/-- The contents of one station event (R91). Pins are in the station's own order (R98): place n of a
deck image, and bit n - 1 of a pin set, is pin n of a class-2 station and position wn of a class-1 one. -/
inductive BusEvent where
  | ballAtDeck (side : Side)
  | foul (side : Side)
  | deckImage (side : Side) (seq : Byte) (pins : Vector PinState 10)
  | cycleDone (side : Side) (seq : Byte) (pins : PinSet)
  | machineJam (side : Side) (cause : JamSource)
  | ballAtRack
  | ballTaken
  deriving DecidableEq, Repr

/-- A station event with its sequence number (R91). -/
structure StationEvent where
  seq : Byte
  event : BusEvent
  deriving DecidableEq, Repr

/-- A HELLO answer (R91). -/
structure HelloAnswer where
  address : Nat
  cls : StationClass
  fitted : Fitted
  rackCount : BitVec 4
  powerA : Power
  powerB : Power
  deriving DecidableEq, Repr

/-- A STATUS answer (R91). -/
structure StatusAnswer where
  address : Nat
  echoA : Byte
  echoB : Byte
  eventsLost : Bool
  event : Option StationEvent
  deriving DecidableEq, Repr

/-- The two pair modes (chapter 2). -/
inductive PairMode where
  | separate
  | alternate
  deriving DecidableEq, Repr

/-- The two day classes (R153). -/
inductive DayClass where
  | weekday
  | weekend
  deriving DecidableEq, Repr

/-- The health policy of a lane (R131). -/
inductive Policy where
  | report
  | remove
  deriving DecidableEq, Repr

/-- One tariff band as SET_TARIFF carries it (R154). The rates' fields hold no number above 65,535. -/
structure BandField where
  start : Nat
  gameRate : Word
  hourRate : Word
  deriving DecidableEq, Repr

/-- One roster entry as OPEN_SESSION carries it (section 1.3). -/
structure RosterField where
  name : List Byte
  average : Nat
  fixed : Option Nat
  deriving DecidableEq, Repr

/-- The fields of OPEN_SESSION (section 1.3). The billing mode is the code of R186. -/
structure OpenFields where
  lane : Nat
  mode : Nat
  allowance : Nat
  gamesPlanned : Nat
  leagueFee : Word
  basis : Nat
  percent : Nat
  cap : Nat
  penalty : Nat
  roster : List RosterField
  deriving DecidableEq, Repr

/-- The fields of ADD_BOWLER (R37). -/
structure AddBowlerFields where
  lane : Nat
  name : List Byte
  average : Nat
  fixed : Option Nat
  deriving DecidableEq, Repr

/-- The return flag of SET_BOWLER (R38). -/
inductive ReturnFlag where
  | yes
  | no
  | other
  deriving DecidableEq, Repr

/-- The fields of SET_BOWLER (R38). -/
structure SetBowlerFields where
  lane : Nat
  slot : Nat
  average : Nat
  fixed : Option Nat
  ret : ReturnFlag
  deriving DecidableEq, Repr

/-- The bowler's record that GET_GAME, ACK_CHECK and CORRECT_FRAME name (R74). -/
structure RecordName where
  lane : Nat
  slot : Nat
  game : Nat
  deriving DecidableEq, Repr

/-- One ball of CORRECT_FRAME (R75). -/
structure BallField where
  pinfall : Nat
  foul : Bool
  deriving DecidableEq, Repr

/-- The fields of SET_CLOCK (R151). -/
structure ClockFields where
  year : Nat
  month : Nat
  day : Nat
  hour : Nat
  minute : Nat
  second : Nat
  deriving DecidableEq, Repr

/-- The fields of SET_BILLING (R157). A mask entry is none where its value is neither day class; the
mask runs from MONDAY to SUNDAY. -/
structure BillingFields where
  grace : Nat
  partialThreshold : Nat
  minCharge : Nat
  warningLead : Nat
  mask : Vector (Option DayClass) 7
  deriving DecidableEq, Repr

/-- The fields of SET_MACHINE (R122). -/
structure MachineFields where
  pair : Nat
  settle : Nat
  cycleTimeout : Nat
  warmUp : Nat
  minOnTime : Nat
  standbyCode : Nat
  deriving DecidableEq, Repr

/-- A policy field of SET_HEALTH; other is a value that names no policy (R132). -/
inductive PolicyField where
  | report
  | remove
  | other
  deriving DecidableEq, Repr

/-- The fields of SET_HEALTH, each optional (R132). -/
structure HealthFields where
  lane : Nat
  policy : Option PolicyField
  cycleTimeThreshold : Option Nat
  jamWindowThreshold : Option Nat
  respotMissThreshold : Option Nat
  cyclesThreshold : Option Nat
  returnTimeThreshold : Option Word
  cyclesPreload : Option Nat
  cycleTimePreload : Option Nat
  returnTimePreload : Option Word
  deriving DecidableEq, Repr

/-- Where in its frame a byte with a bad stop bit stands: before LEN is taken; after LEN and before TAG; or after
TAG. Where LEN is taken, left is how many bytes of the frame are still to come after it (R170, R171). -/
inductive FaultPlace where
  | start
  | head (left : Nat)
  | body (tag : Byte) (left : Nat)
  deriving DecidableEq, Repr

/-- The steps of the AV16, one constructor for each row of spec/opcode_table.json, in its order. -/
inductive Instr where
  | powerOn (rate1 rate0 : Bool)
  | resetLine (rate1 rate0 : Bool)
  | frameReceived (kind tag : Byte) (body : List Byte) (check : Byte)
  | byteFault (place : FaultPlace)
  | lengthFault (len : Byte)
  | gapFault (tag : Option Byte)
  | transmitFrameStart
  | transmitFrameEnd
  | unknownKind
  | ping
  | status
  | peek
  | resetCentre
  | resetLink
  | setLink
  | getLink
  | setClock (agrees : Bool) (fields : ClockFields)
  | getClock
  | setTariff (agrees : Bool) (weekday weekend : List BandField)
  | getTariff
  | setBilling (agrees : Bool) (fields : BillingFields)
  | openSession (agrees : Bool) (fields : OpenFields)
  | closeSession (agrees : Bool) (lane : Nat)
  | addBowler (agrees : Bool) (fields : AddBowlerFields)
  | setBowler (agrees : Bool) (fields : SetBowlerFields)
  | withdrawBowler (agrees : Bool) (lane slot : Nat)
  | markBlind (agrees : Bool) (lane slot : Nat)
  | skipTurn (agrees : Bool) (lane : Nat)
  | pairMode (agrees : Bool) (pair : Nat) (mode : Option PairMode)
  | holdLane (agrees : Bool) (lane : Nat)
  | releaseLane (agrees : Bool) (lane : Nat)
  | laneStatus (agrees : Bool) (lane : Nat)
  | getGame (agrees : Bool) (name : RecordName)
  | correctFrame (agrees : Bool) (name : RecordName) (frame : Nat) (balls : List BallField)
  | certifyGame (agrees : Bool) (lane game : Nat)
  | ackCheck (agrees : Bool) (name : RecordName) (frame : Nat) (ball : Option Nat)
  | getTeam (agrees : Bool) (lane game : Nat)
  | getAccount (agrees : Bool) (lane : Nat)
  | addCredit (agrees : Bool) (lane amount : Nat)
  | machinePowerOn (agrees : Bool) (lane : Nat) (valid : Bool)
  | machinePowerOff (agrees : Bool) (lane : Nat) (valid : Bool)
  | clearJam (agrees : Bool) (lane : Nat)
  | serviceOut (agrees : Bool) (lane : Nat) (valid : Bool)
  | serviceIn (agrees : Bool) (lane : Nat) (valid : Bool)
  | setMachine (agrees : Bool) (fields : MachineFields)
  | getHealth (agrees : Bool) (lane : Nat)
  | setHealth (agrees : Bool) (fields : HealthFields)
  | stationReset (agrees : Bool) (pair : Nat) (hold : Byte)
  | returnStatus (agrees : Bool) (pair : Nat) (threshold timeout : Option Nat)
  | clearReturnJam (agrees : Bool) (pair balls : Nat)
  | secondEvent
  | minuteEvent
  | playMinute (lane : LaneIx)
  | prepaidMinute (lane : LaneIx)
  | deskSilenceExpiry
  | idleTimerExpiry (lane : LaneIx)
  | onTimeElapsed (lane : LaneIx)
  | oldestEntryExpiry (pair : PairIx)
  | settleExpiry (lane : LaneIx)
  | rereadSettleExpiry (lane : LaneIx)
  | readTimeout (lane : LaneIx)
  | cycleTimeout (lane : LaneIx)
  | warmUpExpiry (lane : LaneIx)
  | paceTimerExpiry
  | resetHoldExpiry (pair : PairIx)
  | sendPoll
  | sendProbe
  | sendResetPoll
  | answerWindowExpiry
  | helloAnswer (answer : HelloAnswer)
  | statusAnswer (answer : StatusAnswer)
  | huntStartByte (byte : Byte)
  | resetLineAsserted
  deriving DecidableEq, Repr

end Sys2Proof
end

