-- ==== Sys2Proof/Decode.lean ====
section
/-! DEFINITION. The commands that a word spells. spec/opcode_table.json gives bits to no row: the commands of
the part are frames, events and timers, so no word spells one. -/

namespace Sys2Proof

/-- The command a word of nbits bits spells: none, since the table gives no row any bits. -/
def decodeTableWord (_nbits _w : Nat) : Option Instr := none

end Sys2Proof
end

