-- ==== Sys2Proof/Config.lean ====
section
/-! DEFINITION. The quantities the manual fixes for the part: capacities, limits, defaults and
identification. The manual leaves no result value of an operation open, so there is no free value. -/

namespace Sys2Proof.Config

/-- Reports held for the desk (R176). -/
abbrev reportCapacity : Nat := 48

/-- LINK_FAULT frames the fault list holds (R172). -/
abbrev faultCapacity : Nat := 4

/-- Receive slots of the DLC (R173). -/
abbrev slotCapacity : Nat := 2

/-- The limit of the faults-dropped count (R172). -/
abbrev faultsDroppedMax : Nat := 255

/-- Entries of a pair's track queue (R135). -/
abbrev trackCapacity : Nat := 8

/-- The track queue length at which RETURN_BACKLOG stands (R138). -/
abbrev backlogLevel : Nat := 7

/-- Places of the rack past the rack threshold (R135). -/
abbrev rackSpare : Nat := 2

/-- The largest travel time taken as a sample (R128). -/
abbrev travelMax : Nat := 65535

/-- Cycle outcomes of one health window (R127). -/
abbrev windowSize : Nat := 256

/-- The value at which CYCLES holds (R124). -/
abbrev cyclesMax : Nat := 16777215

/-- The limit of an accrued charge, in cents (R166). -/
abbrev chargeMax : Nat := 9999999

/-- The limit of the session, play and down seconds (R158). -/
abbrev secondsMax : Nat := 4294967295

/-- The limit of used, the episode count and the games charged (R158). -/
abbrev countMax : Nat := 65535

/-- The read timeout in tenths (R104). -/
abbrev readTimeout : Nat := 20

/-- The re-read settle in tenths (R104). -/
abbrev rereadSettle : Nat := 5

/-- The reads of one ball (R104). -/
abbrev readsMax : Nat := 3

/-- Consecutive missed answers that make a station LOST (R95). -/
abbrev missedLimit : Nat := 3

/-- Seconds at which the on-time count holds (R115). -/
abbrev onTimeMax : Nat := 600

/-- The last game number a session plays (R31). -/
abbrev lastGame : Nat := 255

/-- Bowlers of one roster (R66). -/
abbrev rosterMax : Nat := 8

/-- Game records kept for one bowler (R67). -/
abbrev gameSlots : Nat := 4

/-- Characters of a stored name (R5). -/
abbrev nameMax : Nat := 12

/-- The largest BODY of a frame (R170). -/
abbrev bodyMax : Nat := 240

/-- The START byte of a frame (R170). -/
abbrev startByte : Byte := 0xC3

/-- Tenths between two second events (R150). -/
abbrev secondTenths : Nat := 10

/-- The default desk timeout in seconds (R179). -/
abbrev deskTimeout : Nat := 60

/-- The family code of PING, POWER_UP and RESET_LINE (R179). -/
abbrev familyCode : Nat := 0x0A

/-- The part number of PING, POWER_UP and RESET_LINE (R179). -/
abbrev partNumber : Nat := 16

/-- The revision of PING, POWER_UP and RESET_LINE (R179). -/
abbrev revision : Nat := 1

end Sys2Proof.Config
end

