-- ==== Sys2Proof/Machine/State.lean ====
section
/-! DEFINITION. The state of the AV16 as plain data: the records of the eight blocks, the two lines, the
centre clock, and the queue of commands that wait. INVENTORY.md lists each field with its rule. -/

namespace Sys2Proof.Machine

/-- A date and time of the centre clock (R149). -/
structure DateTime where
  year : Nat
  month : Nat
  day : Nat
  hour : Nat
  minute : Nat
  second : Nat
  deriving DecidableEq, Repr

/-! ### Turns and sessions (TSC) -/

/-- A turn (R23). -/
structure Turn where
  home : LaneIx
  slot : Nat
  game : Nat
  frame : Nat
  deriving DecidableEq, Repr

/-- The session state of a lane (R2). -/
inductive SessionState where
  | closed
  | open_
  | seriesDone
  deriving DecidableEq, Repr

/-- The boundary mark of a lane (R24). -/
inductive Boundary where
  | unmarked
  | reached
  deriving DecidableEq, Repr

/-- The cause of PAIR_MODE_CHANGED (R33). -/
inductive ModeCause where
  | request
  | boundary
  | seriesEnd
  | laneClosed
  deriving DecidableEq, Repr

/-! ### Rosters and game records (SCE) -/

/-- The mark of a frame (R69). -/
inductive Mark where
  | noBall
  | incomplete
  | strike
  | spare
  | open_
  deriving DecidableEq, Repr

/-- The check flag of a ball (R70). -/
inductive CheckFlag where
  | clear
  | open_
  | acknowledged
  deriving DecidableEq, Repr

/-- A ball record (R70). -/
structure Ball where
  pinfall : Nat
  foul : Bool
  before : Option PinSet
  after : Option PinSet
  split : Bool
  check : CheckFlag
  reads : Option Nat
  deriving DecidableEq, Repr

/-- A frame record (R69). -/
structure Frame where
  balls : List Ball
  mark : Mark
  score : Option Nat
  cumulative : Option Nat
  lane : Option LaneIx
  corrected : Bool
  deriving DecidableEq, Repr

/-- The state of a game record (R71). -/
inductive GameState where
  | inProgress
  | finished
  | blind
  | withdrawn
  | certified
  deriving DecidableEq, Repr

/-- A game record (R68). -/
structure Game where
  number : Nat
  state : GameState
  certifiedFrom : Option GameState
  startLane : LaneIx
  handicap : Nat
  blindScore : Option Nat
  frames : Vector Frame 10
  deriving DecidableEq, Repr

/-- The state of a bowler (R66). -/
inductive BowlerState where
  | active
  | waiting
  | blind
  | withdrawn
  deriving DecidableEq, Repr

/-- A roster entry (R66). The slot is the entry's place in the roster, from 1. -/
structure Bowler where
  name : List Byte
  average : Nat
  applied : Nat
  fixed : Option Nat
  state : BowlerState
  removedThrough : Nat
  games : List Game
  deriving DecidableEq, Repr

/-- The settings of a session that SCE holds (R2). -/
structure ScoreSettings where
  basis : Nat
  percent : Nat
  cap : Nat
  penalty : Nat
  deriving DecidableEq, Repr

/-- The need of a deck: the deck need of R53, or the standing need of R54. -/
inductive Need where
  | frameOver
  | newFrame
  | fresh
  | nextBall (set : PinSet)
  deriving DecidableEq, Repr

/-! ### Accounts (BLM) -/

/-- The billing mode of a session (R2). -/
inductive BillingMode where
  | free
  | perGame
  | perTime
  | prepaidTime
  | prepaidGames
  | league
  deriving DecidableEq, Repr

/-- A bowler entry of an account (R158). -/
structure BowlerEntry where
  slot : Nat
  lastCounted : Nat
  bowled : Bool
  deriving DecidableEq, Repr

/-- The account of a session (R158). -/
structure Account where
  lane : LaneIx
  mode : BillingMode
  allowance : Nat
  leagueFee : Nat
  used : Nat
  sessionSeconds : Nat
  playSeconds : Nat
  downSeconds : Nat
  episode : Nat
  accrued : Nat
  carry : Nat
  gamesCharged : Nat
  feeCount : Nat
  warned : Bool
  allowanceOut : Bool
  saturated : Bool
  isFinal : Bool
  closeTime : Option DateTime
  entries : List BowlerEntry
  deriving DecidableEq, Repr

/-- A tariff band (R153). -/
structure Band where
  start : Nat
  gameRate : Nat
  hourRate : Nat
  deriving DecidableEq, Repr

/-- A tariff table (R153). -/
structure Tariff where
  weekday : List Band
  weekend : List Band
  deriving DecidableEq, Repr

/-- A band with its day class, as BAND_CHANGE and the band noted give it (R155). -/
structure BandNote where
  day : DayClass
  band : Band
  deriving DecidableEq, Repr

/-- The billing settings with the day-class mask, MONDAY to SUNDAY (R157). -/
structure BillingSettings where
  grace : Nat
  partialThreshold : Nat
  minCharge : Nat
  warningLead : Nat
  mask : Vector DayClass 7
  deriving DecidableEq, Repr

/-- The tariffs and settings of BLM (R153, R155, R157). -/
structure Meter where
  installed : Option Tariff
  pendingTable : Option Tariff
  bandNoted : Option BandNote
  settings : BillingSettings
  deriving DecidableEq, Repr

/-! ### Machines and gates (PSV) -/

/-- The twelve machine states (R100). -/
inductive MachineState where
  | poweredDown
  | waking
  | deckEmpty
  | waiting
  | ready
  | ballDown
  | reading
  | cycling
  | standby
  | jammed
  | linkLost
  | outOfService
  deriving DecidableEq, Repr

/-- The deck record (R101). -/
inductive Deck where
  | empty
  | full
  | set (pins : PinSet)
  | unknown
  deriving DecidableEq, Repr

/-- The class of a full rack (R101). -/
inductive RackClass where
  | newFrame
  | midFrame
  | rerack
  deriving DecidableEq, Repr

/-- A cycle of a pinsetter (R13). -/
inductive Cycle where
  | fullRack (cls : RackClass)
  | respot (set : PinSet)
  | sweep
  | recover
  deriving DecidableEq, Repr

/-- A machine operation in flight: a deck read with its reissue spent or in hand (R105), or a cycle. -/
inductive Operation where
  | readDeck (reissued : Bool)
  | cycle (c : Cycle)
  deriving DecidableEq, Repr

/-- The command in flight (R101). The turn and the need for which a cycle was issued are kept for the
comparison of R110. -/
structure InFlight where
  op : Operation
  issued : Reading
  timeout : Nat
  turn : Option Turn
  need : Option Need
  deriving DecidableEq, Repr

/-- The pending cycle (R101). served marks a cycle that a deck already serving stands in for (R108). The turn
and the need for which it was chosen are kept for its issue (R110). -/
structure PendingCycle where
  cycle : Cycle
  served : Bool
  turn : Option Turn
  need : Option Need
  deriving DecidableEq, Repr

/-- The ball-pending record (R101). onReturn marks a ball whose read was issued on a station's return
(R120). -/
structure PendingBall where
  turn : Turn
  foul : Bool
  reads : Nat
  rerack : Bool
  orphan : Bool
  onReturn : Bool
  deriving DecidableEq, Repr

/-- The rerack mark (R101). -/
inductive RerackMark where
  | unmarked
  | due
  | set
  deriving DecidableEq, Repr

/-- The service field (R101). -/
inductive Service where
  | in_
  | out
  deriving DecidableEq, Repr

/-- The removal pending (R101). -/
inductive Removal where
  | unordered
  | desk
  | health
  deriving DecidableEq, Repr

/-- The machine timers that run apart from a command in flight (R102, R104, R114). -/
inductive TimerKind where
  | settle
  | reread
  | warmUp
  deriving DecidableEq, Repr

/-- A machine timer: the reading at its start and its length in tenths. -/
structure MachineTimer where
  kind : TimerKind
  start : Reading
  length : Nat
  deriving DecidableEq, Repr

/-- The machine record of a lane (R100, R101). -/
structure MachineRec where
  state : MachineState
  deck : Deck
  inFlight : Option InFlight
  pendingCycle : Option PendingCycle
  ball : Option PendingBall
  armedFoul : Bool
  rerack : RerackMark
  jamStanding : Bool
  service : Service
  removal : Removal
  warmed : Bool
  onTime : Nat
  powerOffPending : Bool
  idle : Nat
  timer : Option MachineTimer
  returnPower : Power
  deriving DecidableEq, Repr

/-- The machine settings of a pair (R122). -/
structure MachineSettings where
  settle : Nat
  cycleTimeout : Nat
  warmUp : Nat
  minOnTime : Nat
  standbyCode : Nat
  deriving DecidableEq, Repr

/-- The gate reasons (section 1.6). -/
inductive Reason where
  | noSession
  | billing
  | returnJam
  | deskHold
  | returnBacklog
  deriving DecidableEq, Repr

/-- The class of a gate reason (section 1.6). -/
inductive ReasonClass where
  | freshRack
  | cycle
  deriving DecidableEq, Repr

/-- The lane gate: for each reason, the time raised while the reason is present (R12). -/
structure Gate where
  noSession : Option DateTime
  billing : Option DateTime
  returnJam : Option DateTime
  deskHold : Option DateTime
  returnBacklog : Option DateTime
  deriving DecidableEq, Repr

/-- A gate entry as LANE_STATUS gives it (R12). -/
structure GateEntry where
  reason : Reason
  cls : ReasonClass
  raised : DateTime
  deriving DecidableEq, Repr

/-- The cause of a jam (R111). -/
inductive JamCause where
  | station (source : JamSource)
  | timeout
  | read
  deriving DecidableEq, Repr

/-- The cause of STRAY_BALL (R121). -/
inductive StrayCause where
  | notReady
  | noTurn
  | sessionClosed
  deriving DecidableEq, Repr

/-! ### Health (HMN) -/

/-- The attributes (R124). -/
inductive Attribute where
  | cycleTime
  | jamWindow
  | respotMiss
  | cycles
  | returnTime
  deriving DecidableEq, Repr

/-- The class of an attribute (R124). -/
inductive AttributeClass where
  | prefailure
  | advisory
  deriving DecidableEq, Repr

/-- The alert state of an attribute (R129). -/
inductive AlertState where
  | armed
  | alerted
  | disabled
  deriving DecidableEq, Repr

/-- The value, threshold and alert state of one attribute (R124). -/
structure Attr where
  value : Nat
  threshold : Nat
  alert : AlertState
  deriving DecidableEq, Repr

/-- The health record of a lane (R124). -/
structure LaneHealth where
  cycleTime : Attr
  sampled : Bool
  jamWindow : Attr
  respotMiss : Attr
  cycles : Attr
  windowCount : Nat
  windowJams : Nat
  windowMisses : Nat
  policy : Policy
  deriving DecidableEq, Repr

/-- The health record of a pair (R124). -/
structure PairHealth where
  returnTime : Attr
  sampled : Bool
  deriving DecidableEq, Repr

/-! ### Ball return (BRM) -/

/-- The kind of a ball on the track (R135). -/
inductive BallKind where
  | scored
  | stray
  deriving DecidableEq, Repr

/-- A track queue entry (R135). -/
structure TrackEntry where
  seq : Byte
  origin : Side
  entry : Reading
  kind : BallKind
  deriving DecidableEq, Repr

/-- A written-off or listed entry, with its age in tenths (R144, R146, R147). -/
structure TrackView where
  seq : Byte
  lane : LaneIx
  kind : BallKind
  age : Nat
  deriving DecidableEq, Repr

/-- The oldest entry of a jammed track, with its age in tenths (R143). -/
structure JamEntry where
  seq : Byte
  origin : Side
  age : Nat
  deriving DecidableEq, Repr

/-- The lift state (R136). -/
inductive LiftState where
  | idle
  | lifting
  | paused
  | jammed
  deriving DecidableEq, Repr

/-- The lift order (R83, R135). -/
inductive LiftOrder where
  | run
  | pause
  deriving DecidableEq, Repr

/-- The return record of a pair (R135). Its lift order is the one of the station table entry. -/
structure ReturnRec where
  track : List TrackEntry
  rack : Nat
  jamStanding : Bool
  outOfReach : Bool
  oldest : Nat
  nextSeq : Byte
  threshold : Nat
  timeout : Nat
  deriving DecidableEq, Repr

/-! ### Station bus (SBM) -/

/-- The state of a station table entry (R84). -/
inductive StationState where
  | absent
  | attached
  | dark
  | lost
  | resetting
  deriving DecidableEq, Repr

/-- A machine command as the bus carries it (R90). -/
inductive BusCommand where
  | readDeck
  | fullRack
  | respot (set : PinSet)
  | sweep
  | recover
  deriving DecidableEq, Repr

/-- The command field of a lane in the station table entry (R83, R92). -/
structure CommandField where
  seq : Nat
  command : BusCommand
  echoed : Bool
  deriving DecidableEq, Repr

/-- A station table entry (R83). probeOwed stands while the station's events are lost and its probe is not
yet answered (R94), holding while a reset hold runs (R96), ordersOwed until the first attachment after a
reset line or RESET CENTRE (R134). -/
structure Station where
  state : StationState
  cls : StationClass
  fitted : Fitted
  missed : Nat
  holdRemaining : Nat
  holding : Bool
  lastEvent : Option Byte
  commandA : Option CommandField
  commandB : Option CommandField
  powerA : Power
  powerB : Power
  lift : LiftOrder
  nextSeqA : Nat
  nextSeqB : Nat
  probeOwed : Bool
  ordersOwed : Bool
  deriving DecidableEq, Repr

/-- Why a PROBE is sent: the discovery pass (R85), a re-probe (R87), events lost (R94), or the end of a
reset hold (R96). -/
inductive ProbeReason where
  | discovery
  | reprobe
  | eventsLost
  | afterHold
  deriving DecidableEq, Repr

/-- An exchange due outside the round-robin (R88). -/
inductive DueKind where
  | probe (reason : ProbeReason)
  | darkPoll
  | resetPoll (hold : Nat)
  deriving DecidableEq, Repr

/-- An exchange due, with its station (R88). -/
structure DueExchange where
  pair : PairIx
  kind : DueKind
  deriving DecidableEq, Repr

/-- The kind of the exchange whose answer window is open (R88). -/
inductive ExchangeKind where
  | poll
  | probe (reason : ProbeReason)
  deriving DecidableEq, Repr

/-- The exchange whose answer window is open (R88). -/
structure Exchange where
  pair : PairIx
  kind : ExchangeKind
  deriving DecidableEq, Repr

/-- A command as a POLL carries it: its sequence and, with the pins in the station's order, the command
(R90, R98). -/
structure PollCommand where
  seq : Nat
  command : BusCommand
  deriving DecidableEq, Repr

/-- A frame SBM has sent (R90). -/
inductive BusFrame where
  | probe (pair : PairIx)
  | poll (pair : PairIx) (ack : Option Byte) (commandA commandB : Option PollCommand) (powerA powerB : Power)
      (lift : LiftOrder) (settle : Nat)
  | reset (pair : PairIx) (hold : Nat)
  deriving DecidableEq, Repr

/-- The cause of STATION_LOST (R95, R96). -/
inductive LostCause where
  | missedPolls
  | noAnswerAfterReset
  deriving DecidableEq, Repr

/-- The cause of STATION_BACK (R87). -/
inductive BackCause where
  | lateAnswer
  | return_
  | resetDone
  | eventsLost
  | restart
  deriving DecidableEq, Repr

/-- The bus master outside the station table: the discovery pass, the pace timer (tenths run since its
last expiry, and the expiry count), the exchanges due and the one in progress, the station last polled
in the round-robin, and the frame last sent. -/
structure Bus where
  passing : Bool
  paceTenths : Nat
  paceCount : Nat
  due : List DueExchange
  exchange : Option Exchange
  lastPolled : PairIx
  lastSent : Option BusFrame
  deriving DecidableEq, Repr

/-! ### Reports -/

/-- The report classes, from most to least urgent (R176). -/
inductive ReportClass where
  | alarm
  | play
  | account
  | notice
  deriving DecidableEq, Repr

/-- The scope of HEALTH_ALERT (R130). -/
inductive HealthScope where
  | lane (lane : LaneIx)
  | pair (pair : PairIx)
  deriving DecidableEq, Repr

/-- A check cause (R49). -/
structure CheckCauses where
  thirdRead : Bool
  rerack : Bool
  phantom : Bool
  deriving DecidableEq, Repr

/-- An entry of the resolved list (R56), and of a correction's frames where the optional parts stand. -/
structure Resolved where
  frame : Nat
  score : Nat
  cumulative : Nat
  deriving DecidableEq, Repr

/-- The BALL_RESULT report (R56). -/
structure BallResult where
  lane : LaneIx
  home : LaneIx
  slot : Nat
  game : Nat
  frame : Nat
  ball : Nat
  pinfall : Nat
  foul : Bool
  after : PinSet
  split : Bool
  check : CheckFlag
  mark : Mark
  frameOver : Bool
  resolved : List Resolved
  deriving DecidableEq, Repr

/-- A bowler of TEAM_GAME_DONE (R72). -/
structure TeamGameEntry where
  slot : Nat
  state : GameState
  total : Nat
  deriving DecidableEq, Repr

/-- A report with its fields (R56, R72, R95, R111, R121, R130, R137, R139, R143, R146, R155, R162, R166,
R181, R184). -/
inductive Report where
  | machineJam (lane : LaneIx) (cause : JamCause) (command : Option Operation) (dropped : Bool)
  | stationLost (pair : PairIx) (cause : LostCause)
  | returnJam (pair : PairIx) (oldest : Option JamEntry) (depth rack : Nat)
  | trackOverflow (pair : PairIx) (origin : Side) (kind : BallKind)
  | rackOverflow (pair : PairIx) (rack threshold : Nat)
  | healthAlert (scope : HealthScope) (attr : Attribute) (value threshold : Nat) (policy : Policy) (removal : Bool)
  | deskLost (entered : DateTime) (timeout : Nat)
  | ballResult (result : BallResult)
  | turnUp (lane : LaneIx) (turn : Turn) (name : List Byte)
  | gameDone (home : LaneIx) (slot game scratch handicap total : Nat)
  | teamGameDone (lane : LaneIx) (game : Nat) (bowlers : List TeamGameEntry) (total : Nat)
  | gameCorrected (home : LaneIx) (slot game frame scratch handicap total : Nat)
  | scoreCheck (lane home : LaneIx) (slot game frame ball pinfall : Nat) (causes : CheckCauses)
  | pairModeChanged (pair : PairIx) (mode : PairMode) (cause : ModeCause)
  | allowanceWarning (lane : LaneIx) (used allowance lead : Nat)
  | allowanceOut (lane : LaneIx) (mode : BillingMode) (used allowance : Nat)
  | accountSaturated (lane : LaneIx) (accrued : Nat)
  | sessionEnded (lane : LaneIx) (account : Option Account)
  | machineState (lane : LaneIx) (entered left : MachineState)
  | strayBall (lane : LaneIx) (state : MachineState) (cause : StrayCause)
  | lateFoul (lane : LaneIx) (state : MachineState)
  | respotMiss (lane : LaneIx) (commanded reported : PinSet)
  | unexpectedBall (pair : PairIx) (rack : Nat)
  | unaccounted (pair : PairIx) (writtenOff : List TrackView)
  | bandChange (note : BandNote)
  | stationBack (pair : PairIx) (cause : BackCause) (cls : StationClass) (fitted : Fitted)
  | deskBack (entered ended : DateTime)
  | powerUp (family part revision rate : Nat)
  | resetLine (family part revision rate : Nat)
  deriving DecidableEq, Repr

/-! ### Replies -/

/-- The statuses of replies (R185). -/
inductive Status where
  | ok
  | noChange
  | adjusted
  | unknownKind
  | badLength
  | badLane
  | badValue
  | notConfigured
  | sessionOpen
  | noSession
  | frameOpen
  | machineBusy
  | wrongState
  | certified
  | gameUnknown
  | rosterFull
  | notFitted
  | checkOpen
  | notFinished
  deriving DecidableEq, Repr

/-- A set of report classes (R177). -/
structure ClassSet where
  alarm : Bool
  play : Bool
  account : Bool
  notice : Bool
  deriving DecidableEq, Repr

/-- The reply body of STATUS and PEEK (R178). -/
structure LinkStatus where
  reportsLost : Bool
  lostClasses : ClassSet
  deskWasLost : Bool
  faultsDropped : Nat
  stations : List StationState
  lifts : List LiftState
  attention : List LaneIx
  queueDepth : Nat
  faultDepth : Nat
  clockValid : Bool
  tariffLoaded : Bool
  tariffPending : Bool
  deriving DecidableEq, Repr

/-- The reply body of GET_CLOCK and SET_CLOCK (R152). The day of week counts from MONDAY, 0. -/
structure ClockView where
  time : DateTime
  dayOfWeek : Fin 7
  dayClass : DayClass
  valid : Bool
  band : Option Band
  tablePending : Bool
  deriving DecidableEq, Repr

/-- The settings of a session as OPEN_SESSION's reply and LANE_STATUS carry them (R2). -/
structure SessionSettings where
  mode : Option BillingMode
  allowance : Nat
  gamesPlanned : Nat
  leagueFee : Nat
  scores : ScoreSettings
  deriving DecidableEq, Repr

/-- A roster slot of OPEN_SESSION's reply (R5). -/
structure SlotView where
  name : List Byte
  average : Nat
  fixed : Option Nat
  deriving DecidableEq, Repr

/-- The reply body of GET_ACCOUNT and ADD_CREDIT (R168). The bowler entries of the account are not sent. -/
structure AccountView where
  account : Account
  session : SessionState
  band : Option Band
  billingHeld : Bool
  deriving DecidableEq, Repr

/-- The reply body of LANE_STATUS (R20). -/
structure LaneView where
  lane : LaneIx
  session : SessionState
  lastRoster : Bool
  settings : SessionSettings
  game : Nat
  mode : PairMode
  pendingMode : Option PairMode
  machine : MachineState
  deck : Deck
  pendingCycle : Option Cycle
  gate : List GateEntry
  queue : List Turn
  attention : Bool
  deriving DecidableEq, Repr

/-- The reply body of GET_GAME (R80). -/
structure GameView where
  home : LaneIx
  slot : Nat
  name : List Byte
  bowler : BowlerState
  game : Game
  scratch : Option Nat
  soFar : Nat
  total : Nat
  deriving DecidableEq, Repr

/-- A frame of CORRECT_FRAME's reply (R77). -/
structure FrameView where
  frame : Nat
  score : Option Nat
  cumulative : Option Nat
  deriving DecidableEq, Repr

/-- A bowler of CERTIFY_GAME's reply (R79). -/
structure CertifiedEntry where
  slot : Nat
  certifiedFrom : Option GameState
  total : Nat
  deriving DecidableEq, Repr

/-- A bowler of GET_TEAM's reply (R81). -/
structure TeamEntry where
  slot : Nat
  name : List Byte
  state : GameState
  certifiedFrom : Option GameState
  handicap : Nat
  scratch : Nat
  total : Nat
  deriving DecidableEq, Repr

/-- The reply body of GET_TEAM (R81). -/
structure TeamView where
  lane : LaneIx
  game : Nat
  bowlers : List TeamEntry
  total : Nat
  boundaryReached : Bool
  incomplete : Bool
  deriving DecidableEq, Repr

/-- A lane attribute of GET_HEALTH's reply (R133). -/
structure AttrView where
  name : Attribute
  cls : AttributeClass
  attr : Attr
  deriving DecidableEq, Repr

/-- The reply body of GET_HEALTH and SET_HEALTH (R133). -/
structure HealthView where
  lane : LaneIx
  pair : PairIx
  policy : Policy
  attributes : List AttrView
  sampled : Bool
  windowCount : Nat
  windowJams : Nat
  windowMisses : Nat
  returnTime : PairHealth
  deriving DecidableEq, Repr

/-- The reply body of RETURN_STATUS (R147). -/
structure ReturnView where
  pair : PairIx
  outOfReach : Bool
  lift : LiftState
  order : LiftOrder
  rack : Nat
  threshold : Nat
  timeout : Nat
  oldest : Option Nat
  nextSeq : Byte
  backlog : Bool
  jam : Bool
  track : List TrackView
  deriving DecidableEq, Repr

/-- The body of a reply after its status. A refusal carries the status alone. -/
inductive ReplyBody where
  | bare
  | identity (family part revision rate : Nat)
  | link (status : LinkStatus)
  | resetCentre (ended : Nat)
  | resetLink
  | deskTimeout (timeout : Nat)
  | linkSettings (timeout rate silence : Nat)
  | clock (view : ClockView)
  | tariff (table : Tariff)
  | tariffs (installed pending : Option Tariff) (mask : Vector DayClass 7)
  | billing (settings : BillingSettings)
  | opened (settings : SessionSettings) (roster : List SlotView) (game : Nat)
  | finalAccount (account : Option Account)
  | account (view : AccountView)
  | gate (entries : List GateEntry)
  | lane (view : LaneView)
  | bowler (slot : Nat) (name : Option (List Byte)) (average : Nat) (fixed : Option Nat) (state : BowlerState)
  | withdrawn (slot : Nat) (state : BowlerState) (record : Option GameState)
  | blind (slot : Nat) (state : BowlerState) (record : Option (Nat × Nat))
  | queue (turns : List Turn)
  | pairMode (pair : PairIx) (mode : PairMode) (pending : Option PairMode)
  | game (view : GameView)
  | checks (home : LaneIx) (slot game frame : Nat) (flags : List CheckFlag)
  | corrected (home : LaneIx) (slot game frame : Nat) (frames : List FrameView) (scratch : Option Nat) (total : Nat)
  | certified (lane : LaneIx) (game : Nat) (bowlers : List CertifiedEntry) (total : Nat)
  | team (view : TeamView)
  | power (lane : LaneIx) (state : MachineState) (order : Power) (offPending : Bool)
  | jam (lane : LaneIx) (state : MachineState) (pending : Option Cycle)
  | service (lane : LaneIx) (field : Service) (state : MachineState) (removal : Removal)
  | machine (settings : MachineSettings) (settleInForce : Nat)
  | health (view : HealthView)
  | station (pair : PairIx) (hold : Nat) (state : StationState)
  | ballReturn (view : ReturnView)
  | returnCleared (pair : PairIx) (writtenOff : List TrackView) (rack : Nat) (lift : LiftState) (order : LiftOrder)
  deriving DecidableEq, Repr

/-- A reply built by the DLC (R174). -/
structure Reply where
  kind : Byte
  tag : Byte
  status : Status
  body : ReplyBody
  deriving DecidableEq, Repr

/-! ### Desk link (DLC) -/

/-- The causes of a LINK_FAULT (R171, R173). -/
inductive FaultCause where
  | byte
  | gap
  | length
  | check
  | overrun
  deriving DecidableEq, Repr

/-- An entry of the fault list (R172). -/
structure LinkFault where
  tag : Byte
  cause : FaultCause
  deriving DecidableEq, Repr

/-- The mode of the receiver (R171). In skip the bytes left of a frame with a BYTE fault are spent; with none,
where LEN was not taken, they run to the first gap. -/
inductive Receiver where
  | hunt
  | frame
  | skip (left : Option Nat)
  deriving DecidableEq, Repr

/-- A receive slot; built is set once its reply stands in the reply order (R173, R174). -/
structure Slot where
  kind : Byte
  tag : Byte
  body : List Byte
  built : Bool
  deriving DecidableEq, Repr

/-- The frame being sent on TXD (R175). -/
inductive TxFrame where
  | reply (r : Reply)
  | fault (f : LinkFault)
  | report (r : Report)
  deriving DecidableEq, Repr

/-- The desk link controller (R170 to R184). lost holds the time entered while the desk-lost state
stands. -/
structure Link where
  rate : Nat
  timeout : Nat
  receiver : Receiver
  slots : List Slot
  replies : List Reply
  faults : List LinkFault
  faultsDropped : Nat
  reports : List Report
  reportsLost : Bool
  lostClasses : ClassSet
  lost : Option DateTime
  wasLost : Bool
  silence : Nat
  tx : Option TxFrame
  deriving DecidableEq, Repr

/-! ### The part -/

/-- What the eight blocks hold for one lane. -/
structure Lane where
  session : SessionState
  gamesPlanned : Nat
  lastRoster : Bool
  game : Nat
  startLane : LaneIx
  boundary : Boundary
  queue : List Turn
  settings : ScoreSettings
  roster : List Bowler
  account : Option Account
  head : Option Turn
  machine : MachineRec
  gate : Gate
  health : LaneHealth
  deriving DecidableEq, Repr

/-- What the eight blocks hold for one pair. -/
structure Pair where
  mode : PairMode
  pendingMode : Option PairMode
  settings : MachineSettings
  ret : ReturnRec
  health : PairHealth
  station : Station
  deriving DecidableEq, Repr

/-- The steps a second event has made due and that are not yet taken: the minute part (R155), the play
minutes (R161, R162), and the expiries of the counts the second event advanced (R113, R115, R142, R180). -/
structure DueSteps where
  minute : Bool
  playMinutes : List LaneIx
  prepaidMinutes : List LaneIx
  deskSilence : Bool
  onTime : List LaneIx
  idle : List LaneIx
  oldest : List PairIx
  deriving DecidableEq, Repr

/-- The state of the AV16 and the queue of commands that wait. held is set while RESET_N is LOW;
sinceSecond is the crystal count of the second, in tenths (R151). -/
structure State where
  pending : List Instr
  held : Bool
  due : DueSteps
  returnClock : Reading
  sinceSecond : Nat
  clock : DateTime
  clockValid : Bool
  meter : Meter
  lanes : Vector Lane 16
  pairs : Vector Pair 8
  hold : Bool
  bus : Bus
  link : Link
  deriving DecidableEq, Repr

/-- The reasons to stop with a fault. There is none: the manual gives every step of the part an effect. -/
inductive Fault where
  deriving DecidableEq, Repr

/-- The reasons to refuse a command. -/
inductive Refusal where
  /-- A row of the table that has no meaning yet, refused by exec's arm (safe). No arm answers with it. -/
  | notModelled (mnemonic : String)
  deriving DecidableEq, Repr

/-! ### Reset values -/

/-- The empty set of due steps. -/
def DueSteps.clear : DueSteps :=
  { minute := false, playMinutes := [], prepaidMinutes := [], deskSilence := false, onTime := [], idle := [], oldest := [] }

/-- The centre clock after power-on (R149). -/
def DateTime.epoch : DateTime := { year := 2000, month := 1, day := 1, hour := 0, minute := 0, second := 0 }

/-- A machine record after a reset (R123). -/
def MachineRec.initial : MachineRec :=
  { state := .poweredDown, deck := .unknown, inFlight := none, pendingCycle := none, ball := none, armedFoul := false,
    rerack := .unmarked, jamStanding := false, service := .in_, removal := .unordered, warmed := false, onTime := 0,
    powerOffPending := false, idle := 0, timer := none, returnPower := .off }

/-- The machine settings after power-on and the reset line (R122). -/
def MachineSettings.initial : MachineSettings :=
  { settle := 25, cycleTimeout := 120, warmUp := 80, minOnTime := 60, standbyCode := 20 }

/-- The gate of a lane with no session and no other reason (R21). -/
def Gate.onlyNoSession (t : Option DateTime) : Gate :=
  { noSession := t, billing := none, returnJam := none, deskHold := none, returnBacklog := none }

/-- The health record of a lane after power-on (R134). -/
def LaneHealth.initial : LaneHealth :=
  { cycleTime := { value := 0, threshold := 90, alert := .armed }, sampled := false,
    jamWindow := { value := 0, threshold := 6, alert := .armed },
    respotMiss := { value := 0, threshold := 10, alert := .armed },
    cycles := { value := 0, threshold := 500000, alert := .armed },
    windowCount := 0, windowJams := 0, windowMisses := 0, policy := .report }

/-- The health record of a pair after power-on (R134). -/
def PairHealth.initial : PairHealth :=
  { returnTime := { value := 0, threshold := 150, alert := .armed }, sampled := false }

/-- The return record of a pair after power-on and the reset line (R148). -/
def ReturnRec.initial : ReturnRec :=
  { track := [], rack := 0, jamStanding := false, outOfReach := true, oldest := 0, nextSeq := 0, threshold := 8, timeout := 20 }

/-- A station table entry after power-on (R85, R99). -/
def Station.initial : Station :=
  { state := .absent, cls := .class2, fitted := .both, missed := 0, holdRemaining := 0, holding := false, lastEvent := none,
    commandA := none, commandB := none, powerA := .off, powerB := .off, lift := .run, nextSeqA := 1, nextSeqB := 1,
    probeOwed := false, ordersOwed := false }

/-- The settings a lane holds before its first session (R20). -/
def ScoreSettings.zero : ScoreSettings := { basis := 0, percent := 0, cap := 0, penalty := 0 }

/-- A lane after a reset, with its health record and the time NO_SESSION was raised (R21, R43, R65, R82,
R123, R169). -/
def Lane.initial (l : LaneIx) (raised : DateTime) (health : LaneHealth) : Lane :=
  { session := .closed, gamesPlanned := 0, lastRoster := false, game := 0, startLane := l, boundary := .unmarked, queue := [],
    settings := .zero, roster := [], account := none, head := none, machine := .initial,
    gate := .onlyNoSession (some raised), health := health }

/-- A pair after a reset, with its health record; ordersOwed after the reset line (R43, R99, R122, R134,
R148). -/
def Pair.initial (health : PairHealth) (ordersOwed : Bool) : Pair :=
  { mode := .separate, pendingMode := none, settings := .initial, ret := .initial, health := health,
    station := { Station.initial with ordersOwed := ordersOwed } }

/-- The billing settings after power-on and the reset line (R157). -/
def BillingSettings.initial : BillingSettings :=
  { grace := 60, partialThreshold := 30, minCharge := 0, warningLead := 5,
    mask := #v[.weekday, .weekday, .weekday, .weekday, .weekday, .weekend, .weekend] }

/-- The tariffs and settings after power-on and the reset line (R169). -/
def Meter.initial : Meter := { installed := none, pendingTable := none, bandNoted := none, settings := .initial }

/-- The lost-class set with no class in it (R184). -/
def ClassSet.empty : ClassSet := { alarm := false, play := false, account := false, notice := false }

/-- The exchanges due at the start of a discovery pass: one PROBE to each address in order (R85). -/
def discoveryProbes : List DueExchange :=
  [⟨0, .probe .discovery⟩, ⟨1, .probe .discovery⟩, ⟨2, .probe .discovery⟩, ⟨3, .probe .discovery⟩,
   ⟨4, .probe .discovery⟩, ⟨5, .probe .discovery⟩, ⟨6, .probe .discovery⟩, ⟨7, .probe .discovery⟩]

/-- The bus master at the start of a discovery pass (R85, R99). DESIGN CHOICE (log 6): the round-robin
begins at address 1. -/
def Bus.initial : Bus :=
  { passing := true, paceTenths := 0, paceCount := 0, due := discoveryProbes, exchange := none, lastPolled := 7, lastSent := none }

/-- The link controller after power-on or the reset line, with the link rate and its one report (R184). -/
def Link.initial (rate : Nat) (report : Report) : Link :=
  { rate := rate, timeout := Config.deskTimeout, receiver := .hunt, slots := [], replies := [], faults := [], faultsDropped := 0,
    reports := [report], reportsLost := false, lostClasses := .empty, lost := none, wasLost := false, silence := 0, tx := none }

/-- The link rate code of the straps: 0 to 3 for 19,200 to 115,200 bit/s (R179, 00_scope.md). -/
def strapRate (rate1 rate0 : Bool) : Nat := 2 * rate1.toNat + rate0.toNat

/-- The part after power-on with the straps read as given, with nothing waiting. -/
def State.powerOn (rate1 rate0 : Bool) : State :=
  { pending := [], held := false, due := .clear, returnClock := 0, sinceSecond := 0, clock := .epoch, clockValid := false,
    meter := .initial,
    lanes := #v[.initial 0 .epoch .initial, .initial 1 .epoch .initial, .initial 2 .epoch .initial, .initial 3 .epoch .initial,
      .initial 4 .epoch .initial, .initial 5 .epoch .initial, .initial 6 .epoch .initial, .initial 7 .epoch .initial,
      .initial 8 .epoch .initial, .initial 9 .epoch .initial, .initial 10 .epoch .initial, .initial 11 .epoch .initial,
      .initial 12 .epoch .initial, .initial 13 .epoch .initial, .initial 14 .epoch .initial, .initial 15 .epoch .initial],
    pairs := Vector.replicate 8 (.initial .initial false),
    hold := false, bus := .initial,
    link := .initial (strapRate rate1 rate0)
      (.powerUp Config.familyCode Config.partNumber Config.revision (strapRate rate1 rate0)) }

/-- The part right after power-on. DESIGN CHOICE (log 1): both rate straps are read LOW. -/
def State.reset : State := State.powerOn false false

end Sys2Proof.Machine
end

