-- ==== Sys2Proof/Machine/Ops.lean ====
section
/-! DEFINITION. The named operations over the state that every block shares: lanes and pairs, the record
updates, the report queue, the passing of time, and the DARK test. -/

namespace Sys2Proof.Machine

/-! ### Lanes and pairs -/

/-- The sixteen lanes in ascending order. -/
def allLanes : List LaneIx := [0, 1, 2, 3, 4, 5, 6, 7, 8, 9, 10, 11, 12, 13, 14, 15]

/-- The eight pairs in ascending order. -/
def allPairs : List PairIx := [0, 1, 2, 3, 4, 5, 6, 7]

/-- The pair of a lane: pair p holds lanes 2p - 1 and 2p. -/
def pairOf (l : LaneIx) : PairIx := ⟨l.val / 2, by omega⟩

/-- The A lane of a pair. -/
def laneA (p : PairIx) : LaneIx := ⟨2 * p.val, by omega⟩

/-- The B lane of a pair. -/
def laneB (p : PairIx) : LaneIx := ⟨2 * p.val + 1, by omega⟩

/-- A lane of a pair by its side. -/
def laneOf (p : PairIx) : Side → LaneIx
  | .a => laneA p
  | .b => laneB p

/-- The side of its pair on which a lane stands. -/
def sideOf (l : LaneIx) : Side := if l.val % 2 = 0 then .a else .b

/-- The other lane of a lane's pair. -/
def partner (l : LaneIx) : LaneIx := if l.val % 2 = 0 then laneB (pairOf l) else laneA (pairOf l)

/-- The sixteen lane records, each replaced by f of its lane and record. -/
def mapLanes (f : LaneIx → Lane → Lane) (v : Vector Lane 16) : Vector Lane 16 :=
  #v[f 0 v[0], f 1 v[1], f 2 v[2], f 3 v[3], f 4 v[4], f 5 v[5], f 6 v[6], f 7 v[7],
     f 8 v[8], f 9 v[9], f 10 v[10], f 11 v[11], f 12 v[12], f 13 v[13], f 14 v[14], f 15 v[15]]

/-- The eight pair records, each replaced by f of its pair and record. -/
def mapPairs (f : PairIx → Pair → Pair) (v : Vector Pair 8) : Vector Pair 8 :=
  #v[f 0 v[0], f 1 v[1], f 2 v[2], f 3 v[3], f 4 v[4], f 5 v[5], f 6 v[6], f 7 v[7]]

/-! ### Records of the state -/

/-- The record of lane l. -/
def State.lane (s : State) (l : LaneIx) : Lane := s.lanes[l]

/-- The record of pair p. -/
def State.pair (s : State) (p : PairIx) : Pair := s.pairs[p]

/-- The machine record of lane l. -/
def State.machine (s : State) (l : LaneIx) : MachineRec := (s.lane l).machine

/-- The gate of lane l. -/
def State.gate (s : State) (l : LaneIx) : Gate := (s.lane l).gate

/-- The station table entry of pair p. -/
def State.station (s : State) (p : PairIx) : Station := (s.pair p).station

/-- The return record of pair p. -/
def State.ret (s : State) (p : PairIx) : ReturnRec := (s.pair p).ret

/-- s with lane l's record x. -/
def State.setLane (s : State) (l : LaneIx) (x : Lane) : State := { s with lanes := s.lanes.set l x }

/-- s with pair p's record x. -/
def State.setPair (s : State) (p : PairIx) (x : Pair) : State := { s with pairs := s.pairs.set p x }

/-- Lane l's record changed by f. -/
def State.modLane (l : LaneIx) (f : Lane → Lane) (s : State) : State := s.setLane l (f (s.lane l))

/-- Pair p's record changed by f. -/
def State.modPair (p : PairIx) (f : Pair → Pair) (s : State) : State := s.setPair p (f (s.pair p))

/-- Lane l's machine record changed by f. -/
def State.modMachine (l : LaneIx) (f : MachineRec → MachineRec) (s : State) : State :=
  s.modLane l fun x => { x with machine := f x.machine }

/-- Lane l's account, where there is one, changed by f. -/
def State.modAccount (l : LaneIx) (f : Account → Account) (s : State) : State :=
  s.modLane l fun x => { x with account := x.account.map f }

/-- Pair p's station table entry changed by f. -/
def State.modStation (p : PairIx) (f : Station → Station) (s : State) : State :=
  s.modPair p fun x => { x with station := f x.station }

/-- Pair p's return record changed by f. -/
def State.modReturn (p : PairIx) (f : ReturnRec → ReturnRec) (s : State) : State :=
  s.modPair p fun x => { x with ret := f x.ret }

/-- The link controller changed by f. -/
def State.modLink (f : Link → Link) (s : State) : State := { s with link := f s.link }

/-- The bus master changed by f. -/
def State.modBus (f : Bus → Bus) (s : State) : State := { s with bus := f s.bus }

/-- f applied for each element in order. -/
def State.each {α : Type} (xs : List α) (f : α → State → State) (s : State) : State :=
  xs.foldl (fun s x => f x s) s

/-- f applied where c holds. -/
def State.when (c : Bool) (f : State → State) (s : State) : State := if c then f s else s

/-! ### The report queue (R176, R177) -/

/-- The class of an attribute's alert report (R130). -/
def Attribute.reportClass : Attribute → ReportClass
  | .cycleTime => .alarm
  | .jamWindow => .alarm
  | .respotMiss => .notice
  | .cycles => .notice
  | .returnTime => .notice

/-- The class of a report (R176, section 10.9). -/
def Report.cls : Report → ReportClass
  | .machineJam .. => .alarm
  | .stationLost .. => .alarm
  | .returnJam .. => .alarm
  | .trackOverflow .. => .alarm
  | .rackOverflow .. => .alarm
  | .healthAlert _ a _ _ _ _ => a.reportClass
  | .deskLost .. => .alarm
  | .ballResult .. => .play
  | .turnUp .. => .play
  | .gameDone .. => .play
  | .teamGameDone .. => .play
  | .gameCorrected .. => .play
  | .scoreCheck .. => .play
  | .pairModeChanged .. => .play
  | .allowanceWarning .. => .account
  | .allowanceOut .. => .account
  | .accountSaturated .. => .account
  | .sessionEnded .. => .account
  | .machineState .. => .notice
  | .strayBall .. => .notice
  | .lateFoul .. => .notice
  | .respotMiss .. => .notice
  | .unexpectedBall .. => .notice
  | .unaccounted .. => .notice
  | .bandChange .. => .notice
  | .stationBack .. => .notice
  | .deskBack .. => .notice
  | .powerUp .. => .notice
  | .resetLine .. => .notice

/-- The place of a class from most urgent, 0, to least urgent, 3 (R176). -/
def ReportClass.rank : ReportClass → Nat
  | .alarm => 0
  | .play => 1
  | .account => 2
  | .notice => 3

/-- A report's place by its class. -/
def Report.rank (r : Report) : Nat := r.cls.rank

/-- The queue with r behind the last report of its class (R176). -/
def insertReport : List Report → Report → List Report
  | [], r => [r]
  | q :: qs, r => if q.rank ≤ r.rank then q :: insertReport qs r else r :: q :: qs

/-- A class added to the lost-class set (R177). -/
def ClassSet.add (c : ReportClass) (k : ClassSet) : ClassSet :=
  match c with
  | .alarm => { k with alarm := true }
  | .play => { k with play := true }
  | .account => { k with account := true }
  | .notice => { k with notice := true }

/-- The flag and the set a dropped report leaves (R177). -/
def Link.lose (c : ReportClass) (k : Link) : Link := { k with reportsLost := true, lostClasses := k.lostClasses.add c }

/-- A report arriving at the queue. With 48 held, the last of the queue is the most recent report of the
least urgent class present: it gives way to a more urgent report, and any other is dropped (R176, R177). -/
def Link.queue (r : Report) (k : Link) : Link :=
  if k.reports.length < Config.reportCapacity then { k with reports := insertReport k.reports r }
  else
    match k.reports.getLast? with
    | none => k
    | some last =>
      if r.rank < last.rank then ({ k with reports := insertReport k.reports.dropLast r }).lose last.cls
      else k.lose r.cls

/-- A report queued for the desk (R176). -/
def State.report (r : Report) (s : State) : State := s.modLink (Link.queue r)

/-! ### Time -/

/-- The tenths since a reading of the return clock, modulo 4,294,967,296 (R135). -/
def State.elapsed (s : State) (since : Reading) : Nat := (s.returnClock - since).toNat

/-- The passing of n tenths. The return clock runs on through every reset but power-on (R148); the pace
timer runs outside the discovery pass (R87) and a reset hold is counted down while RESETTING (R96), neither
while RESET_N is LOW. -/
def State.advance (n : Nat) (s : State) : State :=
  { s with
    returnClock := s.returnClock + BitVec.ofNat 32 n
    sinceSecond := min Config.secondTenths (s.sinceSecond + n)
    bus := if s.held || s.bus.passing then s.bus
      else { s.bus with paceTenths := min Config.secondTenths (s.bus.paceTenths + n) }
    pairs := if s.held then s.pairs
      else mapPairs (fun _ x => { x with station :=
        if x.station.state = .resetting then { x.station with holdRemaining := x.station.holdRemaining - n }
        else x.station }) s.pairs }

/-- The tenths a timer of the given start and length has still to run. -/
def State.remaining (s : State) (start : Reading) (length : Nat) : Nat := length - s.elapsed start

/-! ### The station table -/

/-- The lane is among the fitted lanes (R83). -/
def fittedHas : Fitted → Side → Bool
  | .both, _ => true
  | .aOnly, .a => true
  | .aOnly, .b => false
  | .bOnly, .a => false
  | .bOnly, .b => true

/-- The fitted lanes of a pair's station, lane A first. -/
def State.fittedLanes (s : State) (p : PairIx) : List LaneIx :=
  ([Side.a, Side.b].filter (fittedHas (s.station p).fitted)).map (laneOf p)

/-- The state of pair p's station changed to st. -/
def State.setStation (p : PairIx) (st : StationState) (s : State) : State :=
  s.modStation p fun t => { t with state := st }

/-- The machine states of a lane that count as dark (R89). -/
def MachineState.dark : MachineState → Bool
  | .poweredDown => true
  | .outOfService => true
  | _ => false

/-- The three conditions of R89: sessions CLOSED, machines dark, and the track queue empty. -/
def State.darkNow (s : State) (p : PairIx) : Bool :=
  (s.fittedLanes p).all (fun l => (s.lane l).session = .closed && (s.machine l).state.dark) && (s.ret p).track.isEmpty

/-- The DARK test of R89. -/
def State.darkTest (p : PairIx) (s : State) : State :=
  match (s.station p).state with
  | .attached => if s.darkNow p then s.setStation p .dark else s
  | .dark => if s.darkNow p then s else s.setStation p .attached
  | _ => s

/-- The command field of a lane (R83). -/
def Station.command (t : Station) : Side → Option CommandField
  | .a => t.commandA
  | .b => t.commandB

/-- The power order of a lane (R83). -/
def Station.power (t : Station) : Side → Power
  | .a => t.powerA
  | .b => t.powerB

/-- The power order of lane l at SBM. -/
def State.powerOrder (s : State) (l : LaneIx) : Power := (s.station (pairOf l)).power (sideOf l)

/-- Lane l's power order set (R90). -/
def State.setPower (l : LaneIx) (order : Power) (s : State) : State :=
  s.modStation (pairOf l) fun t =>
    match sideOf l with
    | .a => { t with powerA := order }
    | .b => { t with powerB := order }

/-- The next command sequence after n, wrapping from 255 to 1 (R92). -/
def nextCommandSeq (n : Nat) : Nat := if 255 ≤ n then 1 else n + 1

/-- A command written into a lane's command field with the lane's next sequence (R92). -/
def Station.write (side : Side) (c : BusCommand) (t : Station) : Station :=
  match side with
  | .a => { t with commandA := some ⟨t.nextSeqA, c, false⟩, nextSeqA := nextCommandSeq t.nextSeqA }
  | .b => { t with commandB := some ⟨t.nextSeqB, c, false⟩, nextSeqB := nextCommandSeq t.nextSeqB }

/-- A station that is polled (R84, R89). -/
def StationState.polled : StationState → Bool
  | .attached => true
  | .dark => true
  | _ => false

/-- A machine command handed by PSV for lane l. It is discarded for a station that is not polled and for
a lane not fitted (R92). -/
def State.handCommand (l : LaneIx) (c : BusCommand) (s : State) : State :=
  let t := s.station (pairOf l)
  if t.state.polled && fittedHas t.fitted (sideOf l) then s.modStation (pairOf l) (Station.write (sideOf l) c) else s

/-- The settle time in force of a pair: the stored value, rounded up to a multiple of 5 tenths for a
class-1 station (R97). -/
def State.settleInForce (s : State) (p : PairIx) : Nat :=
  let stored := (s.pair p).settings.settle
  if (s.station p).state = .absent then stored
  else
    match (s.station p).cls with
    | .class2 => stored
    | .class1 => max 10 (min 40 ((stored + 4) / 5 * 5))

/-! ### Sessions and queues -/

/-- Lane l's session state changed, with the DARK test of R89. -/
def State.setSession (l : LaneIx) (st : SessionState) (s : State) : State :=
  (s.modLane l fun x => { x with session := st }).darkTest (pairOf l)

/-- Lane l's up queue changed. A change of the queue sets the idle count to 0 (R113). -/
def State.setQueue (l : LaneIx) (q : List Turn) (s : State) : State :=
  s.modLane l fun x =>
    if x.queue = q then x else { x with queue := q, machine := { x.machine with idle := 0 } }

/-- The head turn of lane l's up queue (R23). -/
def State.headTurn (s : State) (l : LaneIx) : Option Turn := (s.lane l).queue.head?

/-- The session of the lane is OPEN or SERIES_DONE. -/
def SessionState.running : SessionState → Bool
  | .closed => false
  | .open_ => true
  | .seriesDone => true

end Sys2Proof.Machine
end

