-- ==== Sys2Proof/Machine/Calendar.lean ====
section
/-! DEFINITION. The centre clock: the calendar of R149, the day classes and the band in force (R153). -/

namespace Sys2Proof.Machine

/-- A leap year of 2000 to 2099 (R149). -/
def leapYear (year : Nat) : Bool := year % 4 = 0

/-- The days of a month (R149). -/
def daysInMonth (year month : Nat) : Nat :=
  match month with
  | 4 | 6 | 9 | 11 => 30
  | 2 => if leapYear year then 29 else 28
  | _ => 31

/-- The days of a year before its month (R149). -/
def daysBefore (year : Nat) : Nat → Nat
  | 0 => 0
  | 1 => 0
  | m + 2 => daysBefore year (m + 1) + daysInMonth year (m + 1)

/-- Days since 2000-01-01. -/
def DateTime.dayNumber (t : DateTime) : Nat :=
  (t.year - 2000) * 365 + (t.year - 2000 + 3) / 4 + daysBefore t.year t.month + (t.day - 1)

/-- The day of week, MONDAY 0 to SUNDAY 6; 2000-01-01 is a SATURDAY (R149). -/
def DateTime.dayOfWeek (t : DateTime) : Fin 7 := ⟨(t.dayNumber + 5) % 7, by omega⟩

/-- The minute of the day, 0 to 1439 (R153). -/
def DateTime.minuteOfDay (t : DateTime) : Nat := t.hour * 60 + t.minute

/-- The next day (R149). -/
def DateTime.nextDay (t : DateTime) : DateTime :=
  if t.day < daysInMonth t.year t.month then { t with day := t.day + 1 }
  else if t.month < 12 then { t with month := t.month + 1, day := 1 }
  else if t.year < 2099 then { t with year := t.year + 1, month := 1, day := 1 }
  else { t with year := 2000, month := 1, day := 1 }

/-- The next second (R149). -/
def DateTime.tick (t : DateTime) : DateTime :=
  if t.second < 59 then { t with second := t.second + 1 }
  else if t.minute < 59 then { t with minute := t.minute + 1, second := 0 }
  else if t.hour < 23 then { t with hour := t.hour + 1, minute := 0, second := 0 }
  else ({ t with hour := 0, minute := 0, second := 0 } : DateTime).nextDay

/-- The last second the clock counts before it rolls over (R149). -/
def DateTime.last : DateTime := { year := 2099, month := 12, day := 31, hour := 23, minute := 59, second := 59 }

/-- The clock advanced by one second; the rollover of 2099 clears the valid flag (R149). -/
def State.tickClock (s : State) : State :=
  { s with clock := s.clock.tick, clockValid := s.clockValid && s.clock ≠ .last }

/-- The date and time are ones the clock can hold (R151). -/
def clockInRange (f : ClockFields) : Bool :=
  2000 ≤ f.year && f.year ≤ 2099 && 1 ≤ f.month && f.month ≤ 12 && 1 ≤ f.day && f.day ≤ daysInMonth f.year f.month
    && f.hour ≤ 23 && f.minute ≤ 59 && f.second ≤ 59

/-- The day class of a time by the mask (R153). -/
def BillingSettings.dayClass (b : BillingSettings) (t : DateTime) : DayClass := b.mask[t.dayOfWeek]

/-- The bands of a day class (R153). -/
def Tariff.bands (t : Tariff) : DayClass → List Band
  | .weekday => t.weekday
  | .weekend => t.weekend

/-- The band in force at the clock's time with its day class (R153). -/
def State.bandInForce (s : State) : Option BandNote :=
  match s.meter.installed with
  | none => none
  | some table =>
    let day := s.meter.settings.dayClass s.clock
    match ((table.bands day).filter (fun b => b.start ≤ s.clock.minuteOfDay)).getLast? with
    | none => none
    | some band => some ⟨day, band⟩

/-- The hour rate in force, 0 while no band is in force. DESIGN CHOICE (log 26). -/
def State.hourRate (s : State) : Nat := (s.bandInForce.map (·.band.hourRate)).getD 0

/-- The game rate in force, 0 while no band is in force. DESIGN CHOICE (log 26). -/
def State.gameRate (s : State) : Nat := (s.bandInForce.map (·.band.gameRate)).getD 0

/-- The clock as GET_CLOCK reads it (R152). -/
def State.clockView (s : State) : ClockView :=
  { time := s.clock, dayOfWeek := s.clock.dayOfWeek, dayClass := s.meter.settings.dayClass s.clock, valid := s.clockValid,
    band := s.bandInForce.map (·.band), tablePending := s.meter.pendingTable.isSome }

end Sys2Proof.Machine
end

