-- ==== Sys2Proof/Machine/Scores.lean ====
section
/-! DEFINITION. The arithmetic of the Scoring Engine: standing sets and pinfall, frame rules, frame
scores, splits, handicaps, blind scores and totals (R44 to R64), and the records they are kept in (R66 to
R70). -/

namespace Sys2Proof.Machine

/-! ### Pin sets -/

/-- The full rack (R45). -/
def fullRack : PinSet := 0x3FF#10

/-- The number of pins of a set. -/
def pinCount (s : PinSet) : Nat := ((List.range 10).filter (fun i => s.getLsbD i)).length

/-- The set of the pins numbered in a list. -/
def pinsOf (pins : List Nat) : PinSet := pins.foldl (fun s n => s ||| (1#10 <<< (n - 1))) 0#10

/-- The pins that touch pin i + 1 (R60). -/
def touching : Nat → PinSet
  | 0 => pinsOf [2, 3, 5]
  | 1 => pinsOf [1, 4, 5, 8]
  | 2 => pinsOf [1, 5, 6, 9]
  | 3 => pinsOf [2, 7, 8]
  | 4 => pinsOf [1, 2, 3, 8, 9]
  | 5 => pinsOf [3, 9, 10]
  | 6 => pinsOf [4]
  | 7 => pinsOf [2, 4, 5]
  | 8 => pinsOf [3, 5, 6]
  | 9 => pinsOf [6]
  | _ => 0#10

/-- The pins of s reached from r, with r, by at most one touching step for each pin in turn (R60). -/
def reachStep (s r : PinSet) : PinSet :=
  (List.range 10).foldl (fun r i => if r.getLsbD i then r ||| (touching i &&& s) else r) r

/-- The pins of s reached from r by n rounds of steps. -/
def reach (s : PinSet) : Nat → PinSet → PinSet
  | 0, r => r
  | n + 1, r => reach s n (reachStep s r)

/-- The lowest pin of s, as a set. -/
def lowestPin (s : PinSet) : PinSet :=
  match (List.range 10).find? (fun i => s.getLsbD i) with
  | none => 0#10
  | some i => 1#10 <<< i

/-- The pins of s form one group under the touch relation (R60). -/
def oneGroup (s : PinSet) : Bool := reach s 10 (lowestPin s) = s

/-- The split flag of a ball bowled on the set due and leaving the set after (R60). -/
def isSplit (due : PinSet) (foul : Bool) (after : PinSet) : Bool :=
  due = fullRack && !foul && !after.getLsbD 0 && 2 ≤ pinCount after && !oneGroup after

/-- The pins of a deck image in the state given (R44, R104). -/
def pinsIn (st : PinState) (image : Vector PinState 10) : PinSet :=
  (List.range 10).foldl (fun s i => if image.toList[i]? = some st then s ||| (1#10 <<< i) else s) 0#10

/-! ### Frames -/

/-- The set a ball left: its standing set after. A ball entered by correction has none; its frame is
complete and asks for no further ball. -/
def Ball.left (b : Ball) : PinSet := b.after.getD 0#10

/-- The ball cleared its set (R45). -/
def Ball.cleared (b : Ball) : Bool := b.left = 0#10

/-- The set due for the next ball of a frame, none where no further ball is due (R45, R51, R52). -/
def nextDue (frame : Nat) (balls : List Ball) : Option PinSet :=
  if frame < 10 then
    match balls with
    | [] => some fullRack
    | [a] => if a.cleared then none else some a.left
    | _ => none
  else
    match balls with
    | [] => some fullRack
    | [a] => if a.cleared then some fullRack else some a.left
    | [a, b] =>
      if a.cleared then (if b.cleared then some fullRack else some b.left)
      else if b.cleared then some fullRack else none
    | _ => none

/-- The mark of a frame after its balls (R51, R52). -/
def markOf (frame : Nat) (balls : List Ball) : Mark :=
  match balls with
  | [] => .noBall
  | a :: rest =>
    if (nextDue frame balls).isSome then .incomplete
    else if a.cleared then .strike
    else
      match rest with
      | [] => .incomplete
      | b :: _ => if b.cleared then .spare else .open_

/-- The frame is complete (R69). -/
def Mark.complete : Mark → Bool
  | .noBall => false
  | .incomplete => false
  | .strike => true
  | .spare => true
  | .open_ => true

/-- The need for the next ball of a frame, by its set due (R53, R54). -/
def needOfDue : Option PinSet → Need
  | none => .frameOver
  | some t => if t = fullRack then .fresh else .nextBall t

/-- The deck need after a ball of a frame, by the tables of R52 and R53. A foul on the partial set of ball 2 of the
tenth frame completes it there, and the need is FRAME_OVER, not the NEXT_BALL of R53's closing text. DEDUCED (log
32). -/
def deckNeed (frame : Nat) (f : Frame) : Need :=
  if f.mark.complete then .frameOver else needOfDue (nextDue frame f.balls)

/-- The standing need of a turn's frame (R54). -/
def frameNeed (frame : Nat) (f : Frame) : Need :=
  if f.balls = [] then .newFrame else deckNeed frame f

/-- The sum of the balls' pinfalls. -/
def pinfallSum (balls : List Ball) : Nat := (balls.map (·.pinfall)).sum

/-- The score of frame i + 1 from the balls of the game as they stand, none while a ball it needs is
missing (R57, R58). -/
def scoreOf (frames : List Frame) (i : Nat) : Option Nat :=
  match frames[i]? with
  | none => none
  | some f =>
    if i = 9 then (if f.mark.complete then some (pinfallSum f.balls) else none)
    else
      match f.mark, (frames.drop (i + 1)).flatMap (·.balls) with
      | .strike, a :: b :: _ => some (10 + a.pinfall + b.pinfall)
      | .spare, a :: _ => some (10 + a.pinfall)
      | .open_, _ => some (pinfallSum f.balls)
      | _, _ => none

/-- The cumulative total of frame i + 1, none where a frame up to it has no score (R59). -/
def cumulativeOf (frames : List Frame) (i : Nat) : Option Nat :=
  (frames.take (i + 1)).foldl (fun t f => match t, f.score with | some a, some b => some (a + b) | _, _ => none) (some 0)

/-- The ten frames, each replaced by f of its index and record. -/
def mapFrames (f : Nat → Frame → Frame) (v : Vector Frame 10) : Vector Frame 10 :=
  #v[f 0 v[0], f 1 v[1], f 2 v[2], f 3 v[3], f 4 v[4], f 5 v[5], f 6 v[6], f 7 v[7], f 8 v[8], f 9 v[9]]

/-- Frames e to 10 re-resolved and their cumulative totals refilled (R58, R59, R77). -/
def resolveFrom (e : Nat) (frames : Vector Frame 10) : Vector Frame 10 :=
  let scored := mapFrames (fun i f => if i + 1 < e then f else { f with score := scoreOf frames.toList i }) frames
  mapFrames (fun i f => if i + 1 < e then f else { f with cumulative := cumulativeOf scored.toList i }) scored

/-- The first frame that a change of frame f can resolve: the greater of 1 and f - 2 (R58, R77). -/
def firstTouched (frame : Nat) : Nat := max 1 (frame - 2)

/-- A frame record at the start of a game (R68). -/
def Frame.initial : Frame := { balls := [], mark := .noBall, score := none, cumulative := none, lane := none, corrected := false }

/-! ### Game records -/

/-- The frame numbered n, 1 to 10, of a record. -/
def Game.frame (g : Game) (n : Nat) : Frame := (g.frames.toList[n - 1]?).getD .initial

/-- Frame n of a record replaced by f of it. -/
def Game.modFrame (n : Nat) (f : Frame → Frame) (g : Game) : Game :=
  { g with frames := mapFrames (fun i x => if i + 1 = n then f x else x) g.frames }

/-- The scratch total of a record's frames: the cumulative total of frame 10 (R59). -/
def Game.scratch (g : Game) : Option Nat := (g.frame 10).cumulative

/-- The cumulative so far: that of the highest-numbered frame that has one, or 0 (R59). -/
def Game.soFar (g : Game) : Nat := (g.frames.toList.filterMap (·.cumulative)).getLast?.getD 0

/-- The state whose total a record carries: the state certified from where it is certified (R64). -/
def Game.basisState (g : Game) : GameState :=
  match g.state, g.certifiedFrom with
  | .certified, some st => st
  | st, _ => st

/-- The scratch total a reading of the record carries: the blind score of a BLIND record, and otherwise
the scratch total of R59, which a game not bowled to its end does not have (R63, R68). -/
def Game.scratchTotal (g : Game) : Option Nat := if g.basisState = .blind then g.blindScore else g.scratch

/-- The total a record adds before its handicap (R64). -/
def Game.countedTotal (g : Game) : Nat :=
  match g.basisState with
  | .finished => g.scratch.getD g.soFar
  | .blind => g.blindScore.getD 0
  | .inProgress => g.soFar
  | .withdrawn => g.soFar
  | .certified => g.soFar

/-- The handicapped total (R64). -/
def Game.handicapped (g : Game) : Nat := g.countedTotal + g.handicap

/-- The game has ended: FINISHED, BLIND, WITHDRAWN or CERTIFIED (R29). -/
def GameState.ended : GameState → Bool
  | .inProgress => false
  | .finished => true
  | .blind => true
  | .withdrawn => true
  | .certified => true

/-- The balls recorded in a record. -/
def Game.balls (g : Game) : List Ball := g.frames.toList.flatMap (·.balls)

/-- Some ball of the record carries an OPEN check. -/
def Game.checkOpen (g : Game) : Bool := g.balls.any (fun b => b.check = .open_)

/-- The handicap of a record at its start (R61). -/
def handicapOf (c : ScoreSettings) (applied : Nat) (fixed : Option Nat) : Nat :=
  match fixed with
  | some h => min h c.cap
  | none => if c.basis ≤ applied then 0 else min ((c.basis - applied) * c.percent / 100) c.cap

/-- The blind score of a record (R63). -/
def blindScoreOf (c : ScoreSettings) (applied : Nat) : Nat := applied - c.penalty

/-- A record at its start: IN_PROGRESS, or BLIND with its blind score (R61, R63, R68). -/
def Game.start (c : ScoreSettings) (number : Nat) (startLane : LaneIx) (applied : Nat) (fixed : Option Nat) (blind : Bool) :
    Game :=
  { number := number, state := if blind then .blind else .inProgress, certifiedFrom := none, startLane := startLane,
    handicap := handicapOf c applied fixed, blindScore := if blind then some (blindScoreOf c applied) else none,
    frames := #v[.initial, .initial, .initial, .initial, .initial, .initial, .initial, .initial, .initial, .initial] }

/-! ### Bowlers -/

/-- A record added to the game slots; a fifth removes the oldest, whose number becomes removed-through
(R67). -/
def Bowler.addGame (g : Game) (b : Bowler) : Bowler :=
  if b.games.length < Config.gameSlots then { b with games := b.games ++ [g] }
  else
    match b.games with
    | [] => { b with games := [g] }
    | old :: rest => { b with games := rest ++ [g], removedThrough := old.number }

/-- A game started for a bowler: the stored average is copied into the applied average, and the record
begins with its handicap, and its blind score where the bowler is BLIND (R62, R67). -/
def Bowler.startGame (c : ScoreSettings) (number : Nat) (startLane : LaneIx) (b : Bowler) : Bowler :=
  Bowler.addGame (Game.start c number startLane b.average b.fixed (b.state = BowlerState.blind)) { b with applied := b.average }

/-- The bowler's record of a game number (R67). -/
def Bowler.game (b : Bowler) (number : Nat) : Option Game := b.games.find? (fun g => g.number = number)

/-- The bowler's record of a game number is gone (R67). -/
def Bowler.gone (b : Bowler) (number : Nat) : Bool := number ≤ b.removedThrough && (b.game number).isNone

/-- The bowler's record of a game number replaced by f of it. -/
def Bowler.modGame (number : Nat) (f : Game → Game) (b : Bowler) : Bowler :=
  { b with games := b.games.map fun g => if g.number = number then f g else g }

/-- The bowler in a slot of a roster, slots counted from 1 (R66). -/
def bowlerAt (roster : List Bowler) (slot : Nat) : Option Bowler := if slot = 0 then none else roster[slot - 1]?

/-- The bowler in a slot replaced by f of it. -/
def modBowler (slot : Nat) (f : Bowler → Bowler) (roster : List Bowler) : List Bowler :=
  if slot = 0 then roster else roster.modify (slot - 1) f

/-- The roster's bowlers with their slots. -/
def slotted (roster : List Bowler) : List (Nat × Bowler) := roster.zipIdx.map fun x => (x.2 + 1, x.1)

/-- The roster's records of a game number with their slots and bowlers, in slot order. -/
def recordsOf (roster : List Bowler) (number : Nat) : List (Nat × Bowler × Game) :=
  (slotted roster).filterMap fun x => (x.2.game number).map fun g => (x.1, x.2, g)

/-- The team total of a roster for a game number (R64). -/
def teamTotal (roster : List Bowler) (number : Nat) : Nat := ((recordsOf roster number).map (·.2.2.handicapped)).sum

end Sys2Proof.Machine
end

