-- ==== Sys2Proof/Machine/Flags.lean ====
section
/-! DEFINITION. The conditions read from the state and stored nowhere: the conditions of play (R25), the
gate law (R13), the lift state (R136), the downtime condition (R160), the forbidden head (R17, R164) and the
attention of a lane (R19). -/

namespace Sys2Proof.Machine

/-! ### Play -/

/-- The bowler of a turn. -/
def State.bowler (s : State) (home : LaneIx) (slot : Nat) : Option Bowler := bowlerAt (s.lane home).roster slot

/-- The game record of a turn. -/
def State.gameOf (s : State) (t : Turn) : Option Game := (s.bowler t.home t.slot).bind (·.game t.game)

/-- The standing need of a turn (R54). -/
def State.standingNeed (s : State) (t : Turn) : Need :=
  match s.gameOf t with
  | none => .newFrame
  | some g => frameNeed t.frame (g.frame t.frame)

/-- The standing need of the head turn of a lane, where there is a head. -/
def State.headNeed (s : State) (l : LaneIx) : Option Need := (s.headTurn l).map s.standingNeed

/-- PSV holds a ball-pending record for the turn (R25). -/
def State.ballPendingFor (s : State) (t : Turn) : Bool :=
  allLanes.any fun l => ((s.machine l).ball.map (·.turn)) = some t

/-- The frame the turn names has a ball recorded and is not complete (R25). -/
def State.frameStarted (s : State) (t : Turn) : Bool :=
  match s.gameOf t with
  | none => false
  | some g => (g.frame t.frame).balls ≠ [] && !(g.frame t.frame).mark.complete

/-- The bowler holding the turn is mid-frame (R25). DEDUCED (log 13). -/
def State.midFrame (s : State) (t : Turn) : Bool := s.frameStarted t || s.ballPendingFor t

/-- The turn that a bowler holds in the up queues of the home lane's pair (R23). -/
def State.turnOf (s : State) (home : LaneIx) (slot : Nat) : Option Turn :=
  ((s.lane (laneA (pairOf home))).queue ++ (s.lane (laneB (pairOf home))).queue).find? fun t => t.home = home ∧ t.slot = slot

/-- The head turn of the lane is absent or not mid-frame (R118). -/
def State.headIdle (s : State) (l : LaneIx) : Bool :=
  match s.headTurn l with
  | none => true
  | some t => !s.midFrame t

/-- The lane has bowled in its current game (R25). DEDUCED (log 13). -/
def State.hasBowled (s : State) (l : LaneIx) : Bool :=
  (recordsOf (s.lane l).roster (s.lane l).game).any (fun x => x.2.2.balls ≠ [])
    || allLanes.any fun k =>
      match (s.machine k).ball with
      | none => false
      | some b => b.turn.home = l && b.turn.game = (s.lane l).game

/-- Every record of the lane's current game has ended (R29). -/
def State.gameEnded (s : State) (l : LaneIx) : Bool :=
  (recordsOf (s.lane l).roster (s.lane l).game).all fun x => x.2.2.state.ended

/-- The lane's series ends at its boundary (R31). -/
def State.seriesEnds (s : State) (l : LaneIx) : Bool :=
  let x := s.lane l
  (x.gamesPlanned ≠ 0 && x.game = x.gamesPlanned) || Config.lastGame ≤ x.game
    || x.roster.all fun b => b.state = .blind || b.state = .withdrawn

/-! ### The gate -/

/-- The class of a reason (section 1.6). -/
def Reason.cls : Reason → ReasonClass
  | .noSession => .freshRack
  | .billing => .freshRack
  | .returnJam => .freshRack
  | .deskHold => .cycle
  | .returnBacklog => .cycle

/-- The reasons in the order of the table of section 1.6. -/
def allReasons : List Reason := [.noSession, .billing, .returnJam, .deskHold, .returnBacklog]

/-- The time a reason was raised, where it is present (R12). -/
def Gate.raisedAt (g : Gate) : Reason → Option DateTime
  | .noSession => g.noSession
  | .billing => g.billing
  | .returnJam => g.returnJam
  | .deskHold => g.deskHold
  | .returnBacklog => g.returnBacklog

/-- The reason is present. -/
def Gate.has (g : Gate) (r : Reason) : Bool := (g.raisedAt r).isSome

/-- A reason's entry replaced. -/
def Gate.put (r : Reason) (t : Option DateTime) (g : Gate) : Gate :=
  match r with
  | .noSession => { g with noSession := t }
  | .billing => { g with billing := t }
  | .returnJam => { g with returnJam := t }
  | .deskHold => { g with deskHold := t }
  | .returnBacklog => { g with returnBacklog := t }

/-- The entries of the gate in the order of the table of section 1.6 (R12). -/
def Gate.entries (g : Gate) : List GateEntry :=
  allReasons.filterMap fun r => (g.raisedAt r).map fun t => ⟨r, r.cls, t⟩

/-- Some reason of a class is present. -/
def Gate.hasClass (g : Gate) (c : ReasonClass) : Bool := allReasons.any fun r => r.cls = c && g.has r

/-- The gate blocks the cycle (R13): a cycle reason blocks every cycle, a fresh-rack reason the full rack
for a new frame. -/
def Gate.blocks (g : Gate) (c : Cycle) : Bool :=
  g.hasClass .cycle || (c = .fullRack .newFrame && g.hasClass .freshRack)

/-! ### The return -/

/-- The lift state of a pair (R136). -/
def State.liftState (s : State) (p : PairIx) : LiftState :=
  if (s.ret p).jamStanding then .jammed
  else if (s.station p).lift = .pause then .paused
  else if (s.ret p).track.isEmpty then .idle
  else .lifting

/-- An entry as a list of entries gives it, with its age (R144, R146, R147). -/
def State.trackView (s : State) (p : PairIx) (e : TrackEntry) : TrackView :=
  { seq := e.seq, lane := laneOf p e.origin, kind := e.kind, age := s.elapsed e.entry }

/-! ### Accounts -/

/-- A mode metered by time (R160). -/
def BillingMode.timed : BillingMode → Bool
  | .perTime => true
  | .prepaidTime => true
  | _ => false

/-- A mode that needs a valid clock and an installed tariff to open (R4). -/
def BillingMode.needsTariff : BillingMode → Bool
  | .free => false
  | .league => false
  | _ => true

/-- The machine states that are downtime (R160). -/
def MachineState.down : MachineState → Bool
  | .jammed => true
  | .outOfService => true
  | .linkLost => true
  | _ => false

/-- The downtime condition of a lane (R160). -/
def Lane.downtime (x : Lane) : Bool := x.machine.state.down || x.gate.has .deskHold || x.gate.has .returnJam

/-- The bowler entry of a slot (R158). -/
def Account.entry (a : Account) (slot : Nat) : Option BowlerEntry := a.entries.find? (fun e => e.slot = slot)

/-- The last game counted on the account for a slot (R163). -/
def Account.lastCounted (a : Account) (slot : Nat) : Nat := ((a.entry slot).map (·.lastCounted)).getD 0

/-- The turn is forbidden by its account (R17, R164). -/
def State.forbidden (s : State) (t : Turn) : Bool :=
  match (s.lane t.home).account with
  | none => false
  | some a =>
    match a.mode with
    | .prepaidTime => a.allowanceOut
    | .prepaidGames => a.used = a.allowance && a.lastCounted t.slot < t.game
    | _ => false

/-! ### Machines -/

/-- The minimum on-time of a lane has elapsed (R115). -/
def State.minOnElapsed (s : State) (l : LaneIx) : Bool :=
  (s.machine l).warmed && (s.pair (pairOf l)).settings.minOnTime ≤ (s.machine l).onTime

/-- The standby time of a standby code, in seconds (R113). -/
def standbyTime (code : Nat) : Nat := if code = 0 then 900 else code * 30

/-- The idle timer of a lane runs (R113). -/
def Lane.idleRuns (x : Lane) : Bool :=
  x.machine.state = .deckEmpty || (x.machine.state = .ready && x.queue.isEmpty)

/-- The states in which a pending power-off can be carried out (R115). -/
def MachineState.atRest : MachineState → Bool
  | .deckEmpty => true
  | .waiting => true
  | .ready => true
  | _ => false

/-! ### Attention -/

/-- The machine states that put a lane in attention (R19). -/
def MachineState.attends : MachineState → Bool
  | .jammed => true
  | .linkLost => true
  | .outOfService => true
  | _ => false

/-- A ball with an OPEN check lies in a frame of the roster bowled on lane l (R19). -/
def checkBowledOn (l : LaneIx) (roster : List Bowler) : Bool :=
  roster.any fun b => b.games.any fun g => g.frames.toList.any fun f =>
    f.lane = some l && f.balls.any fun x => x.check = .open_

/-- The lane is in attention (R19). -/
def State.attention (s : State) (l : LaneIx) : Bool :=
  let x := s.lane l
  x.machine.state.attends
    || x.roster.any (fun b => b.games.any (·.checkOpen))
    || allLanes.any (fun k => checkBowledOn l (s.lane k).roster)
    || x.gate.has .returnJam || x.gate.has .billing

/-- The attention set (R19). -/
def State.attentionSet (s : State) : List LaneIx := allLanes.filter s.attention

end Sys2Proof.Machine
end

