-- ==== Sys2Proof/Machine/Operands.lean ====
section
/-! DEFINITION. The operand forms of the requests: the receive slot a request is taken from and the reply
it is given (R173, R174), the lane, pair and length checks (R1), and the bringing of values into range
(R5). -/

namespace Sys2Proof.Machine

/-- The request kinds of R185. -/
inductive RequestKind where
  | ping | status | peek | reset | setLink | getLink | setClock | getClock | setTariff | getTariff | setBilling
  | openSession | closeSession | addBowler | setBowler | withdrawBowler | markBlind | skipTurn | pairMode | holdLane
  | releaseLane | laneStatus | getGame | correctFrame | certifyGame | ackCheck | getTeam | getAccount | addCredit
  | machinePower | clearJam | service | setMachine | getHealth | setHealth | stationReset | returnStatus | clearReturnJam
  deriving DecidableEq, Repr

/-- The request codes of R185. -/
def RequestKind.code : RequestKind → Byte
  | .ping => 0x01
  | .status => 0x02
  | .peek => 0x03
  | .reset => 0x04
  | .setLink => 0x05
  | .getLink => 0x06
  | .setClock => 0x08
  | .getClock => 0x09
  | .setTariff => 0x0A
  | .getTariff => 0x0B
  | .setBilling => 0x0C
  | .openSession => 0x10
  | .closeSession => 0x11
  | .addBowler => 0x12
  | .setBowler => 0x13
  | .withdrawBowler => 0x14
  | .markBlind => 0x15
  | .skipTurn => 0x16
  | .pairMode => 0x17
  | .holdLane => 0x18
  | .releaseLane => 0x19
  | .laneStatus => 0x1A
  | .getGame => 0x20
  | .correctFrame => 0x21
  | .certifyGame => 0x22
  | .ackCheck => 0x23
  | .getTeam => 0x24
  | .getAccount => 0x28
  | .addCredit => 0x29
  | .machinePower => 0x30
  | .clearJam => 0x32
  | .service => 0x33
  | .setMachine => 0x34
  | .getHealth => 0x35
  | .setHealth => 0x36
  | .stationReset => 0x37
  | .returnStatus => 0x38
  | .clearReturnJam => 0x39

/-- The request kinds in the order of their codes. -/
def allRequestKinds : List RequestKind :=
  [.ping, .status, .peek, .reset, .setLink, .getLink, .setClock, .getClock, .setTariff, .getTariff, .setBilling,
   .openSession, .closeSession, .addBowler, .setBowler, .withdrawBowler, .markBlind, .skipTurn, .pairMode, .holdLane,
   .releaseLane, .laneStatus, .getGame, .correctFrame, .certifyGame, .ackCheck, .getTeam, .getAccount, .addCredit,
   .machinePower, .clearJam, .service, .setMachine, .getHealth, .setHealth, .stationReset, .returnStatus, .clearReturnJam]

/-- KIND is in the request table of section 10.9 (R174). -/
def knownKind (kind : Byte) : Bool := allRequestKinds.any (fun k => k.code = kind)

/-- The KIND of the reply to an unknown request (R174). -/
def unknownReplyKind : Byte := 0xFE

/-- The KIND of a reply: the request's KIND plus 0x80 (R170). -/
def replyKind (kind : Byte) : Byte := kind + 0x80

/-- What a request's owner answers: the state it leaves, the status and the reply body (R174). -/
structure Answer where
  state : State
  status : Status
  body : ReplyBody
  deriving DecidableEq, Repr

/-- A refusal: no state changed, and no body beyond the status (R1, R174). -/
def refuse (st : Status) (s : State) : Answer := ⟨s, st, .bare⟩

/-- The oldest accepted request whose reply is not yet built (R174). -/
def Link.nextRequest (k : Link) : Option Slot := k.slots.find? (fun r => !r.built)

/-- The first slot without a built reply, marked built. -/
def markBuilt : List Slot → List Slot
  | [] => []
  | r :: rs => if r.built then r :: markBuilt rs else { r with built := true } :: rs

/-- A reply placed in the reply order behind any reply not yet sent; its slot stays held (R173, R174). -/
def Link.place (r : Reply) (k : Link) : Link := { k with slots := markBuilt k.slots, replies := k.replies ++ [r] }

/-- The oldest request carried out by f where its KIND is the one given, and its reply placed (R174).
Where no such request is the next to carry out, there is no such step and nothing changes (log 2). -/
def State.carryOut (kind : RequestKind) (f : List Byte → State → Answer) (s : State) : State :=
  match s.link.nextRequest with
  | none => s
  | some r =>
    if r.kind = kind.code then
      let a := f r.body s
      a.state.modLink (Link.place ⟨replyKind r.kind, r.tag, a.status, a.body⟩)
    else s

/-- A body-length check (R174): the request goes on where the length agrees. -/
def checkLength (agrees : Bool) (k : State → Answer) (s : State) : Answer :=
  if agrees then k s else refuse .badLength s

/-- The lane of a lane number (R1). -/
def findLane (n : Nat) : Option LaneIx := if h : 1 ≤ n ∧ n ≤ 16 then some ⟨n - 1, by omega⟩ else none

/-- The pair of a pair number (R1). -/
def findPair (n : Nat) : Option PairIx := if h : 1 ≤ n ∧ n ≤ 8 then some ⟨n - 1, by omega⟩ else none

/-- A lane number (00_scope.md). -/
def laneNumber (l : LaneIx) : Nat := l.val + 1

/-- A pair number (00_scope.md). -/
def pairNumber (p : PairIx) : Nat := p.val + 1

/-- The lane is fitted (R1). -/
def State.laneFitted (s : State) (l : LaneIx) : Bool :=
  (s.station (pairOf l)).state ≠ .absent && fittedHas (s.station (pairOf l)).fitted (sideOf l)

/-- The BAD_LANE and NOT_FITTED checks of a lane request (R1). -/
def checkLane (n : Nat) (k : LaneIx → State → Answer) (s : State) : Answer :=
  match findLane n with
  | none => refuse .badLane s
  | some l => if s.laneFitted l then k l s else refuse .notFitted s

/-- The same checks for the four requests that a lane with a running session takes unfitted (R1). -/
def checkLaneExempt (n : Nat) (k : LaneIx → State → Answer) (s : State) : Answer :=
  match findLane n with
  | none => refuse .badLane s
  | some l => if s.laneFitted l || (s.lane l).session.running then k l s else refuse .notFitted s

/-- The BAD_LANE and NOT_FITTED checks of a pair request (R34, R96, R122, R144, R147). -/
def checkPair (n : Nat) (k : PairIx → State → Answer) (s : State) : Answer :=
  match findPair n with
  | none => refuse .badLane s
  | some p => if (s.station p).state = .absent then refuse .notFitted s else k p s

/-- A value held within its range. -/
def hold (lo hi v : Nat) : Nat := max lo (min hi v)

/-- OK, or ADJUSTED where a value was brought into range. -/
def adjustedOr (adjusted : Bool) (st : Status) : Status := if adjusted then .adjusted else st

/-- The status of a setting request that answers ADJUSTED whether or not a stored value changed (R122, R132).
DEDUCED (log 27). -/
def settingStatus (adjusted changed : Bool) : Status := adjustedOr adjusted (if changed then .ok else .noChange)

/-- The status of a setting request that answers NO_CHANGE wherever no stored value changed (R147, R157). DEDUCED
(log 27). -/
def storedStatus (adjusted changed : Bool) : Status := if changed then adjustedOr adjusted .ok else .noChange

/-- The character '?' (R5). -/
def questionMark : Byte := 0x3F

/-- A name as stored: characters outside 0x20 to 0x7E as '?', cut to 12, and '?' where empty (R5). -/
def storedName (name : List Byte) : List Byte :=
  match (name.map fun c => if 0x20 ≤ c.toNat ∧ c.toNat ≤ 0x7E then c else questionMark).take Config.nameMax with
  | [] => [questionMark]
  | c :: cs => c :: cs

/-- An average, fixed handicap, basis or cap held within 0 to 300 (R5). -/
def hold300 (v : Nat) : Nat := hold 0 300 v

/-- The billing mode of a code (R186). -/
def billingMode : Nat → Option BillingMode
  | 1 => some .free
  | 2 => some .perGame
  | 3 => some .perTime
  | 4 => some .prepaidTime
  | 5 => some .prepaidGames
  | 6 => some .league
  | _ => none

end Sys2Proof.Machine
end

