-- ==== Sys2Proof/Machine/Health.lean ====
section
/-! DEFINITION. The Health Monitor (chapter 7): cycle outcomes, the running averages, the outcome window,
travel times, the alert test and the removal order it hands. -/

namespace Sys2Proof.Machine

/-- The class of an attribute (R124). -/
def Attribute.cls : Attribute → AttributeClass
  | .cycleTime => .prefailure
  | .jamWindow => .prefailure
  | .respotMiss => .advisory
  | .cycles => .advisory
  | .returnTime => .advisory

/-- The lane attributes in the order of the table of section 7.1 (R124). -/
def laneAttributes : List Attribute := [.cycleTime, .jamWindow, .respotMiss, .cycles]

/-- A lane's attribute; RETURN_TIME belongs to the pair (R124). -/
def LaneHealth.attr (h : LaneHealth) : Attribute → Option Attr
  | .cycleTime => some h.cycleTime
  | .jamWindow => some h.jamWindow
  | .respotMiss => some h.respotMiss
  | .cycles => some h.cycles
  | .returnTime => none

/-- A lane's attribute replaced. -/
def LaneHealth.put (h : LaneHealth) (a : Attribute) (x : Attr) : LaneHealth :=
  match a with
  | .cycleTime => { h with cycleTime := x }
  | .jamWindow => { h with jamWindow := x }
  | .respotMiss => { h with respotMiss := x }
  | .cycles => { h with cycles := x }
  | .returnTime => h

/-- The alert state after a test (R129). -/
def Attr.tested (a : Attr) : AlertState :=
  if a.threshold = 0 then .disabled else if a.value ≤ a.threshold then .armed else .alerted

/-- The test raises an alert: the attribute stands above its threshold and was not ALERTED (R129). -/
def Attr.raises (a : Attr) : Bool := a.tested = .alerted && a.alert ≠ .alerted

/-- The attribute after its test (R129). -/
def Attr.test (a : Attr) : Attr := { a with alert := a.tested }

/-- A running average moved by a sample: the first sample is the value, and a later one moves it by an
eighth of the difference, truncated toward zero (R126, R128). -/
def average (sampled : Bool) (value sample : Nat) : Nat :=
  if sampled then
    if value ≤ sample then value + (sample - value) / 8 else value - (value - sample) / 8
  else sample

/-- The attributes of a list whose test raises an alert. -/
def LaneHealth.raised (attrs : List Attribute) (h : LaneHealth) : List Attribute :=
  attrs.filter fun a => ((h.attr a).map Attr.raises).getD false

/-- The lane's record with the attributes of a list tested. -/
def LaneHealth.testAll (attrs : List Attribute) (h : LaneHealth) : LaneHealth :=
  attrs.foldl (fun h a => match h.attr a with | none => h | some x => h.put a x.test) h

/-- The lane attributes whose value differs between two records. -/
def valuesChanged (h k : LaneHealth) : List Attribute :=
  laneAttributes.filter fun a => ((h.attr a).map (·.value)) ≠ ((k.attr a).map (·.value))

/-- A cycle outcome: the cycle, where one was in flight, whether it completed, its duration in tenths and
whether it missed (R110, R111). -/
structure CycleOutcome where
  cycle : Option Cycle
  done : Bool
  duration : Nat
  miss : Bool
  deriving DecidableEq, Repr

/-- The outcome gives a sample of CYCLE_TIME (R125 step 3). -/
def CycleOutcome.samples (o : CycleOutcome) : Bool :=
  o.done && match o.cycle with
    | some (.fullRack _) => true
    | some (.respot _) => true
    | some .sweep => true
    | some .recover => false
    | none => false

/-- CYCLE_TIME moved by a sample (R126). -/
def LaneHealth.sample (n : Nat) (h : LaneHealth) : LaneHealth :=
  { h with cycleTime := { h.cycleTime with value := average h.sampled h.cycleTime.value n }, sampled := true }

/-- The window closed at 256 outcomes (R127). -/
def LaneHealth.closeWindow (h : LaneHealth) : LaneHealth :=
  if Config.windowSize ≤ h.windowCount then
    { h with jamWindow := { h.jamWindow with value := h.windowJams }
             respotMiss := { h.respotMiss with value := h.windowMisses }
             windowCount := 0, windowJams := 0, windowMisses := 0 }
  else h

/-- Steps 1 to 4 of R125. -/
def LaneHealth.take (o : CycleOutcome) (h : LaneHealth) : LaneHealth :=
  let counted := { h with
    cycles := { h.cycles with value := min Config.cyclesMax (h.cycles.value + 1) }
    windowJams := h.windowJams + (!o.done).toNat
    windowMisses := h.windowMisses + (o.done && o.miss).toNat }
  let sampled := if o.samples then counted.sample o.duration else counted
  LaneHealth.closeWindow { sampled with windowCount := sampled.windowCount + 1 }

/-- The first PREFAILURE attribute of a list of alerts. -/
def firstPrefailure (raised : List Attribute) : Option Attribute := raised.find? fun a => a.cls = .prefailure

/-- Alerts raised under REMOVE hand a removal order (R131). -/
def ordersRemoval (policy : Policy) (raised : List Attribute) : Bool := policy = .remove && (firstPrefailure raised).isSome

/-- The HEALTH_ALERT reports of a lane's alerts, in order; the first PREFAILURE alert under REMOVE carries
removal ordered yes (R130, R131). -/
def alertReports (l : LaneIx) (h : LaneHealth) (raised : List Attribute) : List Report :=
  raised.filterMap fun a => (h.attr a).map fun x =>
    .healthAlert (.lane l) a x.value x.threshold h.policy (h.policy = .remove && firstPrefailure raised = some a)

/-- Lane l's health record changed to h with the given attributes tested, and the alerts queued (R129,
R130). -/
def State.testLane (l : LaneIx) (h : LaneHealth) (attrs : List Attribute) (s : State) : State :=
  (s.modLane l fun x => { x with health := h.testAll attrs }).each (alertReports l h (h.raised attrs)) State.report

/-- A cycle outcome taken by HMN (R125). -/
def State.outcome (l : LaneIx) (o : CycleOutcome) (s : State) : State :=
  let h := (s.lane l).health
  s.testLane l (h.take o) (valuesChanged h (h.take o))

/-- The outcome hands PSV a removal order (R131). -/
def State.outcomeOrders (s : State) (l : LaneIx) (o : CycleOutcome) : Bool :=
  let h := (s.lane l).health
  ordersRemoval h.policy ((h.take o).raised (valuesChanged h (h.take o)))

/-- RETURN_TIME of pair p changed to a record and tested, with its alert queued (R128, R129, R130). -/
def State.testPair (p : PairIx) (h : PairHealth) (s : State) : State :=
  (s.modPair p fun x => { x with health := { h with returnTime := h.returnTime.test } }).when h.returnTime.raises
    (State.report (.healthAlert (.pair p) .returnTime h.returnTime.value h.returnTime.threshold .report false))

/-- A travel time taken as a sample of the pair's RETURN_TIME (R128). -/
def State.travel (p : PairIx) (tenths : Nat) (s : State) : State :=
  let h := (s.pair p).health
  let sample := min Config.travelMax tenths
  s.testPair p { returnTime := { h.returnTime with value := average h.sampled h.returnTime.value sample }, sampled := true }

/-- A PREFAILURE attribute of the lane stands ALERTED (R131, R134). -/
def LaneHealth.prefailing (h : LaneHealth) : Bool := h.cycleTime.alert = .alerted || h.jamWindow.alert = .alerted

/-- The lane is to be removed again after a reset (R134). -/
def LaneHealth.removable (h : LaneHealth) : Bool := h.policy = .remove && h.prefailing

end Sys2Proof.Machine
end

