-- ==== Sys2Proof/Machine/Pinsetter.lean ====
section
/-! DEFINITION. The Pinsetter Supervisor (chapter 6) and its lane gate (section 1.6): changes of machine
state, commands, the choice and the start of a cycle, power, service, jams, and the loss and return of a
lane. -/

namespace Sys2Proof.Machine

/-! ### Machine states -/

/-- The states whose entry MACHINE_STATE reports (R121). -/
def MachineState.reportsEntry : MachineState → Bool
  | .poweredDown => true
  | .waking => true
  | .standby => true
  | .waiting => true
  | .linkLost => true
  | .outOfService => true
  | _ => false

/-- The states whose leaving MACHINE_STATE reports (R121). -/
def MachineState.reportsLeaving : MachineState → Bool
  | .jammed => true
  | .linkLost => true
  | .outOfService => true
  | _ => false

/-- Lane l's machine in state st. The idle count is set to 0 (R113); the armed foul is cleared when the
lane leaves READY (R103). -/
def MachineRec.enter (st : MachineState) (m : MachineRec) : MachineRec :=
  if m.state = st then m else { m with state := st, idle := 0, armedFoul := m.armedFoul && m.state ≠ .ready }

/-- Lane l's machine moved to state st without a report, with the DARK test of R89. -/
def State.enterSilent (l : LaneIx) (st : MachineState) (s : State) : State :=
  let old := (s.machine l).state
  (s.modMachine l (MachineRec.enter st)).when (old ≠ st && (old.dark || st.dark)) (State.darkTest (pairOf l))

/-- Lane l's machine moved to state st, with MACHINE_STATE where R121 reports it. -/
def State.enter (l : LaneIx) (st : MachineState) (s : State) : State :=
  let old := (s.machine l).state
  (s.enterSilent l st).when (old ≠ st && (st.reportsEntry || old.reportsLeaving)) (State.report (.machineState l st old))

/-! ### Commands -/

/-- The deck record of a pin set (R104, R110). -/
def deckOf (set : PinSet) : Deck := if set = fullRack then .full else if set = 0#10 then .empty else .set set

/-- The command of a cycle (R109). -/
def Cycle.command : Cycle → BusCommand
  | .fullRack _ => .fullRack
  | .respot t => .respot t
  | .sweep => .sweep
  | .recover => .recover

/-- The set a cycle commands (R110). -/
def Cycle.commanded : Cycle → PinSet
  | .fullRack _ => Sys2Proof.Machine.fullRack
  | .respot t => t
  | .sweep => 0#10
  | .recover => 0#10

/-- A machine timer of lane l started with a length in tenths. -/
def State.startTimer (l : LaneIx) (kind : TimerKind) (length : Nat) (s : State) : State :=
  s.modMachine l fun m => { m with timer := some ⟨kind, s.returnClock, length⟩ }

/-- READ_DECK issued for lane l with its read timeout (R104, R105). -/
def State.issueRead (l : LaneIx) (reissued : Bool) (s : State) : State :=
  (s.modMachine l fun m =>
    { m with inFlight := some ⟨.readDeck reissued, s.returnClock, Config.readTimeout, none, none⟩, timer := none }).handCommand l .readDeck

/-- A cycle issued for lane l: the command in flight keeps the turn and the need it was chosen for, which R110
compares, and the rerack mark becomes NONE unless a rerack is issued (R109). -/
def State.issueCycle (l : LaneIx) (c : Cycle) (turn : Option Turn) (need : Option Need) (s : State) : State :=
  ((s.modMachine l fun m =>
    { m with inFlight := some ⟨.cycle c, s.returnClock, (s.pair (pairOf l)).settings.cycleTimeout, turn, need⟩
             pendingCycle := none
             rerack := if c = .fullRack .rerack then m.rerack else .unmarked }).handCommand l c.command).enter l .cycling

/-- A cycle held by the gate (R14), with the head turn and the need it was chosen for. served marks one that a deck
already serving stands in for (R16, R108). -/
def State.holdCycle (l : LaneIx) (c : Cycle) (served : Bool) (s : State) : State :=
  (s.modMachine l fun m => { m with pendingCycle := some ⟨c, served, s.headTurn l, s.headNeed l⟩ }).enter l .waiting

/-- The lane READY with nothing pending. -/
def State.makeReady (l : LaneIx) (s : State) : State :=
  (s.modMachine l fun m => { m with pendingCycle := none }).enter l .ready

/-- A chosen cycle started against the lane gate (R14, R109). -/
def State.startCycle (l : LaneIx) (c : Cycle) (s : State) : State :=
  if (s.gate l).blocks c then s.holdCycle l c false else s.issueCycle l c (s.headTurn l) (s.headNeed l)

/-- A need served by the deck as it stands, gated as the cycle it replaces (R16, R108). -/
def State.serve (l : LaneIx) (c : Cycle) (s : State) : State :=
  if (s.gate l).blocks c then s.holdCycle l c true else s.makeReady l

/-! ### Power and service -/

/-- The part common to every power-off: POWER_OFF sent, warmed cleared, the pending cycle dropped and the
machine's timers ended (R113, R115, R117). -/
def State.cutPower (l : LaneIx) (s : State) : State :=
  (s.modMachine l fun m => { m with warmed := false, pendingCycle := none, inFlight := none, timer := none }).setPower l .off

/-- The deck record of lane l UNKNOWN. -/
def State.forgetDeck (l : LaneIx) (s : State) : State := s.modMachine l fun m => { m with deck := .unknown }

/-- A pending power-off carried out (R115). -/
def State.powerDown (l : LaneIx) (s : State) : State :=
  (((s.cutPower l).forgetDeck l).modMachine l fun m => { m with powerOffPending := false }).enter l .poweredDown

/-- A power-off by the idle timer (R113). -/
def State.idlePowerOff (l : LaneIx) (s : State) : State :=
  if (s.lane l).session.running then (s.cutPower l).enter l .standby
  else ((s.cutPower l).forgetDeck l).enter l .poweredDown

/-- Service-out applied (R117). -/
def State.serviceOut (l : LaneIx) (s : State) : State :=
  (((s.cutPower l).forgetDeck l).modMachine l fun m =>
    { m with removal := .unordered, powerOffPending := false, armedFoul := false, jamStanding := false }).enter l .outOfService

/-- POWER_ON sent, which sets the lane's power order ON and clears warmed (R90, R101). -/
def State.sendPowerOn (l : LaneIx) (s : State) : State := (s.setPower l .on).modMachine l fun m => { m with warmed := false }

/-- Lane l woken: POWER_ON sent and the warm-up started (R114). The power order stays ON also where
the lane of a station attached already is woken before the discovery pass ends. DEDUCED (log 35). -/
def State.wake (l : LaneIx) (s : State) : State :=
  ((s.sendPowerOn l).startTimer l .warmUp (s.pair (pairOf l)).settings.warmUp).enter l .waking

/-- Lane l woken where a turn stands at its head (R114). -/
def State.wakeForHead (l : LaneIx) (s : State) : State := s.when (s.headTurn l).isSome (State.wake l)

/-- The tests made whenever a lane stands DECK_EMPTY, WAITING or READY: a HEALTH removal whose bowler has left, and
a pending power-off (R115, R118). Where both are ready the removal is applied, which clears the power-off. DEDUCED
(log 17). -/
def State.rest (l : LaneIx) (s : State) : State :=
  let m := s.machine l
  if !m.state.atRest then s
  else if m.removal = .health && s.headIdle l then s.serviceOut l
  else if m.powerOffPending && s.minOnElapsed l && (s.lane l).session = .closed then s.powerDown l
  else s

/-! ### The next cycle -/

/-- What R108 derives. -/
inductive Derived where
  | start (c : Cycle)
  | serve (c : Cycle)
  | deckEmpty
  | ready
  deriving DecidableEq, Repr

/-- The rows of R108. A rerack mark SET is read as NONE. A head whose frame is over does not arise (R54); it is
read as one beginning a frame. DEDUCED (log 16). -/
def derived (need : Option Need) (deck : Deck) (mark : RerackMark) : Derived :=
  match need with
  | some (.nextBall t) =>
    if mark = .due then .start (.fullRack .rerack)
    else if deck = .set t then .serve (.respot t) else .start (.respot t)
  | some .fresh =>
    if mark = .due then .start (.fullRack .rerack)
    else if deck = .full then .serve (.fullRack .midFrame) else .start (.fullRack .midFrame)
  | some .newFrame => if deck = .full then .serve (.fullRack .newFrame) else .start (.fullRack .newFrame)
  | some .frameOver => if deck = .full then .serve (.fullRack .newFrame) else .start (.fullRack .newFrame)
  | none =>
    match deck with
    | .empty => .deckEmpty
    | .full => .ready
    | .set _ => .start .sweep
    | .unknown => .start .sweep

/-- The lane DECK_EMPTY with nothing pending. -/
def State.makeEmpty (l : LaneIx) (s : State) : State :=
  (s.modMachine l fun m => { m with pendingCycle := none }).enter l .deckEmpty

/-- An outcome of R108 taken, and the tests of a lane at rest. -/
def State.follow (l : LaneIx) (d : Derived) (s : State) : State :=
  State.rest l <| match d with
    | .start c => s.startCycle l c
    | .serve c => s.serve l c
    | .deckEmpty => s.makeEmpty l
    | .ready => s.makeReady l

/-- A cycle derived from the standing need of the head turn, or from the empty queue (R108). -/
def State.derive (l : LaneIx) (s : State) : State :=
  s.follow l (derived (s.headNeed l) (s.machine l).deck (s.machine l).rerack)

/-- The cycle chosen once a ball is finished (R107). The deck serves no need. -/
def cycleAfterBall (need : Need) (orphan : Bool) (headNeed : Option Need) (mark : RerackMark) : Cycle :=
  match orphan, need with
  | true, _ => .sweep
  | false, .nextBall t => .respot t
  | false, .fresh => .fullRack .midFrame
  | false, .newFrame => .fullRack .newFrame
  | false, .frameOver =>
    match derived headNeed .unknown mark with
    | .start c => c
    | .serve c => c
    | .deckEmpty => .sweep
    | .ready => .sweep

/-- The lane moved on once the need of a ball has arrived, or an orphan ball is finished (R107, R117, R118).
onReturn is set for a ball read on a station's return, and the power state then reported decides (R120): reported OFF,
the lane goes to POWERED_DOWN with its order OFF (R100). DEDUCED (log 18). -/
def State.afterBall (l : LaneIx) (need : Need) (orphan onReturn : Bool) (s : State) : State :=
  let m := s.machine l
  if m.removal = .desk || (m.removal = .health && (orphan || need = .frameOver)) || (onReturn && m.service = .out) then s.serviceOut l
  else if onReturn && m.returnPower = .off then
    ((((s.modMachine l fun m => { m with warmed := false }).forgetDeck l).setPower l .off).enter l .poweredDown).wakeForHead l
  else (s.startCycle l (cycleAfterBall need orphan (s.headNeed l) m.rerack)).rest l

/-- PSV told lane l's new head turn, or that the queue is empty (R108, R114). A lane WAITING on the cycle chosen after a
ball derives again by the deck that the ball left, which may serve. DEDUCED (log 39). -/
def State.headTold (l : LaneIx) (s : State) : State :=
  match (s.machine l).state with
  | .standby => s.wakeForHead l
  | .poweredDown => s.wakeForHead l
  | .deckEmpty => s.derive l
  | .waiting => s.derive l
  | .ready => (s.modMachine l fun m => { m with armedFoul := false }).derive l
  | _ => s

/-! ### The gate -/

/-- A reason raised on lane l at time t; a reason present stays as it was raised (R12). -/
def State.raiseReason (r : Reason) (t : DateTime) (l : LaneIx) (s : State) : State :=
  if (s.gate l).has r then s else s.modLane l fun x => { x with gate := x.gate.put r (some t) }

/-- A clearing event for PSV: a lane WAITING on a cycle that nothing blocks now is issued it, or made READY
where the deck serves (R15, R16, R108). The cycle is issued for the turn and the need it was chosen for, also where
the clearing comes with a change of head that PSV is yet to be told (R26, R110). -/
def State.release (l : LaneIx) (s : State) : State :=
  match (s.machine l).state, (s.machine l).pendingCycle with
  | .waiting, some p =>
    if (s.gate l).blocks p.cycle then s
    else if p.served then (s.makeReady l).rest l else s.issueCycle l p.cycle p.turn p.need
  | _, _ => s

/-- A reason cleared on lane l; clearing an absent reason changes nothing (R12, R15). -/
def State.clearReason (r : Reason) (l : LaneIx) (s : State) : State :=
  if (s.gate l).has r then (s.modLane l fun x => { x with gate := x.gate.put r none }).release l else s

/-! ### Removal and jams -/

/-- A removal order of HMN taken by PSV (R118). -/
def State.removalOrder (l : LaneIx) (s : State) : State :=
  let m := s.machine l
  if m.state = .outOfService || m.service = .out then s
  else
    let out := s.modMachine l fun m => { m with service := .out }
    let later := out.modMachine l fun m => { m with removal := .health }
    match m.state with
    | .poweredDown | .deckEmpty | .waiting | .ready | .standby | .waking => if s.headIdle l then out.serviceOut l else later
    | .jammed => out.serviceOut l
    | .linkLost => out
    | .ballDown | .reading | .cycling => later
    | .outOfService => s

/-- The machine record on becoming JAMMED: steps 1 to 4 of R111. -/
def MachineRec.jam (m : MachineRec) : MachineRec :=
  { m with inFlight := none, timer := none, pendingCycle := none, armedFoul := false, ball := none, deck := .unknown
           jamStanding := true }

/-- The cycle in flight. -/
def MachineRec.cycleInFlight (m : MachineRec) : Option Cycle :=
  match m.inFlight with
  | some ⟨.cycle c, _, _, _, _⟩ => some c
  | _ => none

/-- Lane l becomes JAMMED (R111): the steps of the rule, then a pending removal, then an order of HMN. A service field
set OUT in LINK_LOST, with no removal pending, is left standing by a jam of the kept ball's read. DEDUCED (log 19). -/
def State.jam (l : LaneIx) (cause : JamCause) (s : State) : State :=
  let m := s.machine l
  let o : CycleOutcome := ⟨m.cycleInFlight, false, 0, false⟩
  let jammed := (s.modMachine l MachineRec.jam).enter l .jammed
  let told := (jammed.outcome l o).report (.machineJam l cause (m.inFlight.map (·.op)) m.ball.isSome)
  (told.when (m.removal ≠ .unordered) (State.serviceOut l)).when (s.outcomeOrders l o) (State.removalOrder l)

/-- The states in which a MACHINE_JAM makes the lane JAMMED (R111). -/
def MachineState.canJam : MachineState → Bool
  | .waking => true
  | .deckEmpty => true
  | .waiting => true
  | .ready => true
  | .ballDown => true
  | .reading => true
  | .cycling => true
  | _ => false

/-- A MACHINE_JAM taken for lane l (R111). -/
def State.machineJam (l : LaneIx) (source : JamSource) (s : State) : State :=
  if (s.machine l).state.canJam then s.jam l (.station source) else s

/-! ### Fouls and completions -/

/-- A FOUL taken for lane l (R103). In BALL_DOWN it sets the foul flag of the ball pending, whose record R106 says was
fixed when opened. DEDUCED (log 40). -/
def State.foul (l : LaneIx) (s : State) : State :=
  match (s.machine l).state, s.headTurn l with
  | .ready, some _ => s.modMachine l fun m => { m with armedFoul := true }
  | .ballDown, _ => s.modMachine l fun m => { m with ball := m.ball.map fun b => { b with foul := true } }
  | st, _ => s.report (.lateFoul l st)

/-- The fields a completed cycle sets (R110 step 4). -/
def MachineRec.complete (c : Cycle) (m : MachineRec) : MachineRec :=
  match c with
  | .fullRack .rerack => { m with rerack := .set }
  | .recover =>
    { m with jamStanding := false, rerack := .due, warmed := true, onTime := if m.warmed then m.onTime else 0 }
  | _ => m

/-- The lane moved on by the cycle completed (R110 step 5). -/
def State.moveOn (l : LaneIx) (c : Cycle) (turn : Option Turn) (need : Option Need) (s : State) : State :=
  match c with
  | .recover => s.derive l
  | .sweep => if (s.headTurn l).isSome then s.derive l else (s.makeEmpty l).rest l
  | _ =>
    if (s.headTurn l).isSome && turn = s.headTurn l && need = s.headNeed l then (s.makeReady l).rest l else s.derive l

/-- A CYCLE_DONE taken for lane l (R110). In any other state it is discarded. The duration is held at the timeout:
DEDUCED (log 11). -/
def State.cycleDone (l : LaneIx) (set : PinSet) (s : State) : State :=
  let m := s.machine l
  match m.state, m.inFlight with
  | .cycling, some f =>
    match f.op with
    | .readDeck _ => s
    | .cycle c =>
      let miss := set ≠ c.commanded
      let o : CycleOutcome := ⟨some c, true, min f.timeout (s.elapsed f.issued), miss⟩
      let ended := s.modMachine l fun m => { m with inFlight := none, deck := deckOf set }
      let told := (ended.when miss (State.report (.respotMiss l c.commanded set))).outcome l o
      let marked := told.modMachine l (MachineRec.complete c)
      (if m.removal = .desk then marked.serviceOut l else marked.moveOn l c f.turn f.need).when (s.outcomeOrders l o)
        (State.removalOrder l)
  | _, _ => s

/-! ### Loss and return -/

/-- Lane l's loss taken by PSV (R119). A loss followed at once by its return is silent (R121). -/
def State.loseLane (silent : Bool) (l : LaneIx) (s : State) : State :=
  let mid := !s.headIdle l
  let torn := s.modMachine l fun m =>
    let m := { m with inFlight := none, timer := none, idle := 0, pendingCycle := none, armedFoul := false }
    if m.ball.isSome then m else { m with deck := .unknown, rerack := if mid then .due else m.rerack }
  if silent then torn.enterSilent l .linkLost else torn.enter l .linkLost

/-- What a lane has in hand dropped: its command in flight, its timer and its pending cycle. -/
def State.dropInHand (l : LaneIx) (s : State) : State :=
  s.modMachine l fun m => { m with inFlight := none, timer := none, pendingCycle := none }

/-- The return of lane l with the power state of the HELLO answer (R120). A lane in LINK_LOST has nothing in
hand (R119); a lane that was not fitted, and so had no loss, gives up what it has (DEDUCED, log 22). READING and JAMMED
have the power order ON (R100): reported OFF, a lane returned to either is sent POWER_ON (DEDUCED, log 34). A head mid-frame gets a
rerack by the mark that the loss left: one that came to the head in LINK_LOST, the mark NONE, gets its own cycle of R108
(DEDUCED, log 36). -/
def State.returnLane (l : LaneIx) (power : Power) (before : State) : State :=
  let s := before.dropInHand l
  let m := s.machine l
  let powered := s.when (power = .off) (State.sendPowerOn l)
  match m.ball with
  | some _ =>
    ((powered.modMachine l fun m => { m with
      ball := m.ball.map fun b => { b with reads := max 1 b.reads, onReturn := true }, returnPower := power }).issueRead l
        false).enter l .reading
  | none =>
    if m.jamStanding then
      ((powered.forgetDeck l).enter l .jammed).when (m.removal ≠ .unordered) (State.serviceOut l)
    else if m.service = .out then s.serviceOut l
    else
      match power, m.warmed with
      | .off, _ =>
        (((s.modMachine l fun m => { m with warmed := false }).forgetDeck l).enter l .poweredDown).wakeForHead l
      | .on, false => s.wake l
      | .on, true => (s.forgetDeck l).derive l

end Sys2Proof.Machine
end

