-- ==== Sys2Proof/Machine/Return.lean ====
section
/-! DEFINITION. The Ball Return Monitor (chapter 8): the track queue, the rack count, the pause test, the
return reasons of both lanes' gates, return jams, and the loss and return of a pair. -/

namespace Sys2Proof.Machine

/-- A reason raised on both lanes of a pair at the clock's time, lane A first (R18). -/
def State.raiseBoth (r : Reason) (p : PairIx) (s : State) : State :=
  (s.raiseReason r s.clock (laneA p)).raiseReason r s.clock (laneB p)

/-- A reason cleared on both lanes of a pair, lane A first (R18). -/
def State.clearBoth (r : Reason) (p : PairIx) (s : State) : State := (s.clearReason r (laneA p)).clearReason r (laneB p)

/-- The most balls the rack of a pair holds: F + 2 (R135). -/
def ReturnRec.rackMax (t : ReturnRec) : Nat := t.threshold + Config.rackSpare

/-- The lift order of a pair set (R141). -/
def State.setLift (p : PairIx) (o : LiftOrder) (s : State) : State := s.modStation p fun t => { t with lift := o }

/-- The pause test (R141). A lift that resumes with balls on the track restarts the oldest-entry count
(R142). -/
def State.pauseTest (p : PairIx) (s : State) : State :=
  let t := s.ret p
  match (s.station p).lift with
  | .run => if t.threshold ≤ t.rack then s.setLift p .pause else s
  | .pause =>
    if t.threshold ≤ t.rack then s
    else (s.setLift p .run).when (!t.track.isEmpty) (State.modReturn p fun t => { t with oldest := 0 })

/-- A ball taken at the deck of lane l, passed on by PSV with its kind (R137). -/
def State.trackAppend (l : LaneIx) (kind : BallKind) (s : State) : State :=
  let p := pairOf l
  let t := s.ret p
  if Config.trackCapacity ≤ t.track.length then s.report (.trackOverflow p (sideOf l) kind)
  else
    let e : TrackEntry := ⟨t.nextSeq, sideOf l, s.returnClock, kind⟩
    let added := s.modReturn p fun t =>
      { t with track := t.track ++ [e], nextSeq := t.nextSeq + 1, oldest := if t.track.isEmpty then 0 else t.oldest }
    (added.when (t.track.length + 1 = Config.backlogLevel) (State.raiseBoth .returnBacklog p)).when t.track.isEmpty (State.darkTest p)

/-- The rack count raised by one ball, held at F + 2 with RACK_OVERFLOW (R139 step 1). -/
def State.rackUp (p : PairIx) (s : State) : State :=
  let t := s.ret p
  if t.rack + 1 ≤ t.rackMax then s.modReturn p fun t => { t with rack := t.rack + 1 }
  else (s.modReturn p fun t => { t with rack := t.rackMax }).report (.rackOverflow p t.rackMax t.threshold)

/-- A BALL_AT_RACK taken for a pair: a delivery of the oldest entry, or an unexpected ball (R139). -/
def State.ballAtRack (p : PairIx) (s : State) : State :=
  match (s.ret p).track with
  | [] =>
    let up := (s.rackUp p).pauseTest p
    up.report (.unexpectedBall p (up.ret p).rack)
  | e :: rest =>
    let removed := (s.modReturn p fun t => { t with track := rest }).rackUp p
    let tested := (removed.travel p (s.elapsed e.entry)).pauseTest p
    let cleared := tested.when (rest.length + 1 = Config.backlogLevel) (State.clearBoth .returnBacklog p)
    if rest.isEmpty then cleared.darkTest p else cleared.modReturn p fun t => { t with oldest := 0 }

/-- A BALL_TAKEN for a pair (R140). -/
def State.ballTaken (p : PairIx) (s : State) : State :=
  if (s.ret p).rack = 0 then s else (s.modReturn p fun t => { t with rack := t.rack - 1 }).pauseTest p

/-- The oldest-entry timer runs while the lift is LIFTING and the pair is in reach (R142). -/
def State.oldestRuns (s : State) (p : PairIx) : Bool := s.liftState p = .lifting && !(s.ret p).outOfReach

/-- The oldest entry as RETURN_JAM carries it (R143). -/
def State.jamEntry (s : State) (e : TrackEntry) : JamEntry := ⟨e.seq, e.origin, s.elapsed e.entry⟩

/-- A return jam declared (R143). -/
def State.declareReturnJam (p : PairIx) (s : State) : State :=
  let t := s.ret p
  ((s.modReturn p fun t => { t with jamStanding := true }).raiseBoth .returnJam p).report
    (.returnJam p (t.track.head?.map s.jamEntry) t.track.length t.rack)

/-- The written-off list of a pair's track queue (R144, R146). -/
def State.writtenOff (s : State) (p : PairIx) : List TrackView := (s.ret p).track.map (s.trackView p)

/-- The track queue written off, with RETURN_BACKLOG cleared (R144 steps 1 and 2, R146). -/
def State.writeOff (p : PairIx) (s : State) : State :=
  (s.modReturn p fun t => { t with track := [] }).clearBoth .returnBacklog p

/-- BRM taking the loss of a pair (R145). -/
def State.losePair (p : PairIx) (s : State) : State := s.modReturn p fun t => { t with outOfReach := true }

/-- BRM taking the contents of a HELLO answer with its rack count (R146). -/
def State.seedReturn (p : PairIx) (rack : Nat) (s : State) : State :=
  let t := s.ret p
  let told := s.when (!t.track.isEmpty) (State.report (.unaccounted p (s.writtenOff p)))
  let off := (told.writeOff p).when t.jamStanding (State.clearBoth .returnJam p)
  let seeded := off.modReturn p fun t =>
    { t with jamStanding := false, rack := min t.rackMax rack, outOfReach := false, oldest := 0 }
  (seeded.pauseTest p).when (!t.track.isEmpty) (State.darkTest p)

/-- An accepted CLEAR_RETURN_JAM carried out with the rack count applied (R144). -/
def State.clearJamOfReturn (p : PairIx) (rack : Nat) (s : State) : State :=
  let held := (s.ret p).track
  let set := (s.writeOff p).modReturn p fun t => { t with rack := rack, jamStanding := false, oldest := 0 }
  ((set.clearBoth .returnJam p).pauseTest p).when (!held.isEmpty) (State.darkTest p)

end Sys2Proof.Machine
end

