-- ==== Sys2Proof/Machine/Meter.lean ====
section
/-! DEFINITION. The Billing Meter (chapter 9): charges, the minute part, play minutes, first-ball notices,
the BILLING evaluation, and the opening, counting and finalising of an account. -/

namespace Sys2Proof.Machine

/-! ### Charges -/

/-- An addition to lane l's accrued charge, held at 9,999,999 with ACCOUNT_SATURATED once (R166). -/
def State.charge (l : LaneIx) (cents : Nat) (s : State) : State :=
  match (s.lane l).account with
  | none => s
  | some a =>
    if a.accrued + cents ≤ Config.chargeMax then s.modAccount l fun a => { a with accrued := a.accrued + cents }
    else
      (s.modAccount l fun a => { a with accrued := Config.chargeMax, saturated := true }).when (!a.saturated)
        (State.report (.accountSaturated l Config.chargeMax))

/-- One minute charged at an hour rate through the carry (R161 steps 3 and 4). -/
def State.chargeMinute (l : LaneIx) (rate : Nat) (s : State) : State :=
  match (s.lane l).account with
  | none => s
  | some a =>
    (s.modAccount l fun a => { a with carry := (a.carry + rate) % 60 }).charge l ((a.carry + rate) / 60)

/-! ### BILLING -/

/-- BILLING evaluated for a lane from the head turn BLM was last told (R164). -/
def State.evaluateBilling (l : LaneIx) (s : State) : State :=
  match (s.lane l).head with
  | none => s.clearReason .billing l
  | some t => if s.forbidden t then s.raiseReason .billing s.clock l else s.clearReason .billing l

/-- BILLING evaluated for every lane whose head turn belongs to the account of a home lane, lane A first
(R164). -/
def State.evaluateAccount (home : LaneIx) (s : State) : State :=
  s.each [laneA (pairOf home), laneB (pairOf home)] fun l s =>
    s.when (((s.lane l).head.map (·.home)) = some home) (State.evaluateBilling l)

/-! ### The minute part and the play minutes -/

/-- The minute part of a minute event (R155). -/
def State.minutePart (s : State) : State :=
  let installed := match s.meter.pendingTable with
    | none => s
    | some t => { s with meter := { s.meter with installed := some t, pendingTable := none } }
  match installed.bandInForce with
  | none => installed
  | some note =>
    if installed.meter.bandNoted = some note then installed
    else ({ installed with meter := { installed.meter with bandNoted := some note } } : State).report (.bandChange note)

/-- A play minute completed in PER_TIME (R161). -/
def State.perTimeMinute (l : LaneIx) (s : State) : State :=
  (s.modAccount l fun a => { a with used := min Config.countMax (a.used + 1) }).chargeMinute l s.hourRate

/-- The warning test (R162 step 3). -/
def Account.warns (lead : Nat) (a : Account) : Bool :=
  lead ≠ 0 && !a.warned && a.allowance - lead ≤ a.used && a.used < a.allowance

/-- The out test (R162 step 4, R163 step 4). -/
def Account.runsOut (a : Account) : Bool := a.used = a.allowance && !a.allowanceOut

/-- ALLOWANCE_OUT set and queued for lane l's account (R162, R163). -/
def State.allowanceOut (l : LaneIx) (a : Account) (s : State) : State :=
  (s.modAccount l fun a => { a with allowanceOut := true }).report (.allowanceOut l a.mode a.used a.allowance)

/-- A play minute completed in PREPAID_TIME (R162). -/
def State.prepaidTimeMinute (l : LaneIx) (s : State) : State :=
  match (s.lane l).account with
  | none => s
  | some before =>
    let a := { before with used := min Config.countMax (before.used + 1) }
    let lead := s.meter.settings.warningLead
    let counted := s.modAccount l fun a => { a with used := min Config.countMax (a.used + 1) }
    let charged := counted.when (a.allowance < a.used) (State.chargeMinute l s.hourRate)
    let warned := charged.when (a.warns lead) fun s =>
      (s.modAccount l fun a => { a with warned := true }).report (.allowanceWarning l a.used a.allowance lead)
    warned.when a.runsOut fun s => (s.allowanceOut l a).evaluateAccount l

/-! ### Games -/

/-- A bowler entry of an account replaced by f of it. -/
def Account.modEntry (slot : Nat) (f : BowlerEntry → BowlerEntry) (a : Account) : Account :=
  { a with entries := a.entries.map fun e => if e.slot = slot then f e else e }

/-- A first-ball notice taken by BLM (R163). A final account takes no notice (R167). -/
def State.firstBall (home : LaneIx) (slot game : Nat) (s : State) : State :=
  match (s.lane home).account with
  | none => s
  | some before =>
    if before.isFinal then s
    else
      let bowled := s.modAccount home (Account.modEntry slot fun e => { e with bowled := true })
      if game ≤ before.lastCounted slot then bowled
      else
        let started := bowled.modAccount home (Account.modEntry slot fun e => { e with lastCounted := game })
        let a := { before with used := min Config.countMax (before.used + 1) }
        match before.mode with
        | .perGame =>
          ((started.modAccount home fun a => { a with used := min Config.countMax (a.used + 1) }).charge home s.gameRate).modAccount
            home fun a => { a with gamesCharged := min Config.countMax (a.gamesCharged + 1) }
        | .prepaidGames =>
          let counted := started.modAccount home fun a => { a with used := min Config.countMax (a.used + 1) }
          (counted.when a.runsOut (State.allowanceOut home a)).evaluateAccount home
        | .free | .perTime | .prepaidTime | .league => started

/-! ### Counting, opening and finalising -/

/-- One counted second of an account, with the downtime condition of its lane and the grace (R160). -/
def Account.countSecond (down : Bool) (grace : Nat) (a : Account) : Account :=
  let a := { a with sessionSeconds := min Config.secondsMax (a.sessionSeconds + 1) }
  if a.mode.timed then
    let episode := if down then min Config.countMax (a.episode + 1) else 0
    if down && grace < episode then { a with episode := episode, downSeconds := min Config.secondsMax (a.downSeconds + 1) }
    else { a with episode := episode, playSeconds := min Config.secondsMax (a.playSeconds + 1) }
  else a

/-- An account that a second event counts: that of a lane OPEN or SERIES_DONE (R160). -/
def Lane.metered (x : Lane) : Bool := x.session.running && ((x.account.map fun a => !a.isFinal).getD false)

/-- A lane's account after one second event (R160). -/
def Lane.countSecond (grace : Nat) (x : Lane) : Lane :=
  if x.metered then { x with account := x.account.map (Account.countSecond x.downtime grace) } else x

/-- The second completed a play minute of the mode: play seconds rose to a multiple of 60 (R160). -/
def minuteDone (mode : BillingMode) (before after : Lane) : Bool :=
  match before.account, after.account with
  | some a, some b => a.mode = mode && a.playSeconds < b.playSeconds && b.playSeconds % 60 = 0
  | _, _ => false

/-- An account as OPEN_SESSION opens it, with one bowler entry for each roster slot (R159). -/
def Account.opened (l : LaneIx) (mode : BillingMode) (allowance leagueFee bowlers : Nat) : Account :=
  { lane := l, mode := mode, allowance := allowance, leagueFee := leagueFee, used := 0, sessionSeconds := 0, playSeconds := 0
    downSeconds := 0, episode := 0, accrued := 0, carry := 0, gamesCharged := 0, feeCount := 0, warned := false
    allowanceOut := false, saturated := false, isFinal := false, closeTime := none
    entries := (List.range bowlers).map fun i => ⟨i + 1, 0, false⟩ }

/-- The partial minute at close is charged (R167 step 2). -/
def Account.partialDue (threshold : Nat) (a : Account) : Bool :=
  0 < a.playSeconds % 60 && threshold ≤ a.playSeconds % 60
    && (a.mode = .perTime || (a.mode = .prepaidTime && a.allowance ≤ a.used))

/-- The bowler entries charged the league fee (R167 step 3). -/
def feesDue (roster : List Bowler) (a : Account) : Nat :=
  (a.entries.filter fun e => ((bowlerAt roster e.slot).map (·.state)) ≠ some .withdrawn || e.bowled).length

/-- The account of lane l finalised; an episode standing ends with it (R167). -/
def State.finalise (l : LaneIx) (s : State) : State :=
  match (s.lane l).account with
  | none => s
  | some a =>
    let minute := s.when (a.partialDue s.meter.settings.partialThreshold) (State.chargeMinute l s.hourRate)
    let fees := feesDue (s.lane l).roster a
    let league := minute.when (a.mode = .league) fun s =>
      (s.each (List.replicate fees a.leagueFee) (State.charge l)).modAccount l fun a => { a with feeCount := fees }
    let accrued := ((league.lane l).account.map (·.accrued)).getD 0
    let raised := league.when (a.mode ≠ .free && accrued < s.meter.settings.minCharge)
      (State.charge l (s.meter.settings.minCharge - accrued))
    raised.modAccount l fun a => { a with episode := 0, isFinal := true, closeTime := some s.clock }

end Sys2Proof.Machine
end

