-- ==== Sys2Proof/Machine/Turns.lean ====
section
/-! DEFINITION. The Turn Scheduler (chapter 2): the hand-offs of a head change, the end of a frame, game
boundaries, game starts and series ends, the pair modes, and the turns of a closing lane. -/

namespace Sys2Proof.Machine

/-! ### Heads -/

/-- The stored name of a turn's bowler. -/
def State.nameOf (s : State) (t : Turn) : List Byte := ((s.bowler t.home t.slot).map (·.name)).getD []

/-- TURN_UP queued for lane l's head, where it has one (R26 step 1). -/
def State.reportHead (l : LaneIx) (s : State) : State :=
  match s.headTurn l with
  | none => s
  | some t => s.report (.turnUp l t (s.nameOf t))

/-- BLM told lane l's head (R26 step 2, R164). -/
def State.tellMeter (l : LaneIx) (s : State) : State :=
  (s.modLane l fun x => { x with head := x.queue.head? }).evaluateBilling l

/-- The hand-offs of a head change of lane l to BLM and then to PSV (R26 steps 2 and 3). -/
def State.handHead (l : LaneIx) (s : State) : State := (s.tellMeter l).headTold l

/-- The three hand-offs of a head change of lane l (R26). -/
def State.headChanged (l : LaneIx) (s : State) : State := (s.reportHead l).handHead l

/-- The hand-offs made, in the order given, for each lane whose head differs from the one before (R26). -/
def State.handOffs (s before : State) (ls : List LaneIx) : State :=
  s.each (ls.filter fun l => s.headTurn l ≠ before.headTurn l) State.headChanged

/-! ### Games -/

/-- A bowler taken into a game (R30 step 2). -/
def Bowler.joinGame (c : ScoreSettings) (number : Nat) (startLane : LaneIx) (b : Bowler) : Bowler :=
  match b.state with
  | .active => b.startGame c number startLane
  | .waiting => Bowler.startGame c number startLane { b with state := .active }
  | .blind => b.startGame c number startLane
  | .withdrawn => b

/-- The frame-1 turns of the IN_PROGRESS records of a game number, in slot order (R30 step 3). -/
def frameOneTurns (home : LaneIx) (roster : List Bowler) (number : Nat) : List Turn :=
  (recordsOf roster number).filterMap fun x => if x.2.2.state = .inProgress then some ⟨home, x.1, number, 1⟩ else none

/-- Game g + 1 of lane l started on a start lane, without the hand-offs (R30). -/
def State.beginGame (l start : LaneIx) (s : State) : State :=
  let x := s.lane l
  let roster := x.roster.map (Bowler.joinGame x.settings (x.game + 1) start)
  let begun := s.modLane l fun x => { x with game := x.game + 1, startLane := start, boundary := .unmarked, roster := roster }
  begun.setQueue start ((begun.lane start).queue ++ frameOneTurns l roster (x.game + 1))

/-- The series of lane l ended (R31). -/
def State.endSeries (l : LaneIx) (s : State) : State :=
  (s.modLane l fun x => { x with boundary := .unmarked }).setSession l .seriesDone

/-! ### Boundaries -/

/-- A SEPARATE lane at its boundary: its series ends, it is held, or its next game starts at home (R30,
R31, R32). -/
def State.startAlone (l : LaneIx) (s : State) : State :=
  if (s.lane l).boundary ≠ .reached then s
  else if s.seriesEnds l then s.endSeries l
  else if s.hold then s
  else (s.beginGame l l).handOffs s [l]

/-- Both lanes of a pair as SEPARATE lanes at their boundaries, lane A first. -/
def State.startEach (p : PairIx) (s : State) : State := (s.startAlone (laneA p)).startAlone (laneB p)

/-- Both lanes started in ALTERNATE, each team on the lane opposite its last start, with the hand-offs of
lane A first (R30). -/
def State.startBoth (p : PairIx) (s : State) : State :=
  ((s.beginGame (laneA p) (partner (s.lane (laneA p)).startLane)).beginGame (laneB p) (partner (s.lane (laneB p)).startLane)).handOffs
    s [laneA p, laneB p]

/-- A change of the mode in force, with PAIR_MODE_CHANGED; the pending mode is cleared (R33). -/
def State.changeMode (p : PairIx) (mode : PairMode) (cause : ModeCause) (s : State) : State :=
  (s.modPair p fun x => { x with mode := mode, pendingMode := none }).report (.pairModeChanged p mode cause)

/-- The pending mode of a pair dropped without a report. -/
def State.dropPending (p : PairIx) (s : State) : State := s.modPair p fun x => { x with pendingMode := none }

/-- The series of either lane of a pair ends at its boundary (R31). -/
def State.eitherEnds (s : State) (p : PairIx) : Bool := s.seriesEnds (laneA p) || s.seriesEnds (laneB p)

/-- Both lanes of a pair are REACHED. -/
def State.bothReached (s : State) (p : PairIx) : Bool :=
  (s.lane (laneA p)).boundary = .reached && (s.lane (laneB p)).boundary = .reached

/-- The pair game boundary, both lanes REACHED (R31, R32, R35). DEDUCED (log 15). -/
def State.pairBoundary (p : PairIx) (s : State) : State :=
  match (s.pair p).mode, (s.pair p).pendingMode with
  | .separate, some .alternate =>
    if s.eitherEnds p then (s.dropPending p).startEach p
    else if s.hold then s
    else (s.changeMode p .alternate .boundary).startBoth p
  | .separate, _ => s.startEach p
  | .alternate, some .separate =>
    if !s.hold then (s.changeMode p .separate .boundary).startEach p
    else if s.eitherEnds p then (s.changeMode p .separate .seriesEnd).startEach p
    else s
  | .alternate, _ =>
    if s.eitherEnds p then (s.changeMode p .separate .seriesEnd).startEach p
    else if s.hold then s
    else s.startBoth p

/-- A lane waits, REACHED, for its partner (R29, R35). -/
def State.needsPartner (s : State) (p : PairIx) : Bool := (s.pair p).mode = .alternate || (s.pair p).pendingMode = some .alternate

/-- Lane l taken on from its boundary, where it is REACHED (R29, R30, R35). -/
def State.takeBoundary (l : LaneIx) (s : State) : State :=
  if (s.lane l).boundary ≠ .reached then s
  else if s.needsPartner (pairOf l) then (if s.bothReached (pairOf l) then s.pairBoundary (pairOf l) else s)
  else s.startAlone l

/-- Both lanes of a pair taken on from their boundaries, lane A first (R32). -/
def State.retakePair (p : PairIx) (s : State) : State := (s.takeBoundary (laneA p)).takeBoundary (laneB p)

/-- The next-game hold cleared, with each held boundary taken in ascending lane order (R32). -/
def State.clearHold (s : State) : State := State.each allPairs State.retakePair { s with hold := false }

/-- The TEAM_GAME_DONE report of lane l's game (R72). -/
def State.teamDone (s : State) (l : LaneIx) : Report :=
  let x := s.lane l
  .teamGameDone l x.game ((recordsOf x.roster x.game).map fun r => ⟨r.1, r.2.2.state, r.2.2.handicapped⟩) (teamTotal x.roster x.game)

/-- The boundary test of a home lane (R29). -/
def State.testBoundary (l : LaneIx) (s : State) : State :=
  if (s.lane l).session = .open_ && (s.lane l).boundary = .unmarked && s.gameEnded l then
    ((s.modLane l fun x => { x with boundary := .reached }).report (s.teamDone l)).takeBoundary l
  else s

/-! ### Frames -/

/-- The frame of lane l's head turn is over (R27, R28). -/
def State.frameOver (l : LaneIx) (s : State) : State :=
  match (s.lane l).queue with
  | [] => s
  | t :: rest =>
    if t.frame < 10 then
      let target := match (s.pair (pairOf l)).mode with
        | .separate => l
        | .alternate => partner l
      let removed := s.setQueue l rest
      (removed.setQueue target ((removed.lane target).queue ++ [{ t with frame := t.frame + 1 }])).handOffs s [l, partner l]
    else ((s.setQueue l rest).handOffs s [l]).testBoundary t.home

/-! ### Requests -/

/-- The turn of a bowler removed from whichever queue of the pair holds it, with the hand-offs of a head
(R39, R40). -/
def State.removeTurn (home : LaneIx) (slot : Nat) (s : State) : State :=
  let keep (t : Turn) : Bool := !(t.home = home && t.slot = slot)
  ((s.setQueue home ((s.lane home).queue.filter keep)).setQueue (partner home) ((s.lane (partner home)).queue.filter keep)).handOffs s
    [home, partner home]

/-- The start lane of a team's current game records changed to the home lane (R34, R68). A CERTIFIED record never
changes (R79). DEDUCED (log 14). -/
def homeRecords (home : LaneIx) (game : Nat) (roster : List Bowler) : List Bowler :=
  roster.map (Bowler.modGame game fun g => if g.state = .certified then g else { g with startLane := home })

/-- Team l's frame-1 turns brought from its partner's queue to the tail of its own, where its start lane is
the partner (R34). -/
def State.bringHome (l : LaneIx) (s : State) : State :=
  if (s.lane l).startLane = l then s
  else
    let away := (s.lane (partner l)).queue
    let moved := (s.setQueue (partner l) (away.filter fun t => t.home ≠ l)).setQueue l
      ((s.lane l).queue ++ away.filter fun t => t.home = l)
    moved.modLane l fun x => { x with startLane := l, roster := homeRecords l x.game x.roster }

/-- An immediate change of the pair mode (R34), and the lanes then waiting REACHED taken on (R35). DEDUCED (log
14). -/
def State.changeModeNow (p : PairIx) (mode : PairMode) (s : State) : State :=
  let changed := s.changeMode p mode .request
  let moved := match mode with
    | .alternate => changed
    | .separate => (changed.bringHome (laneA p)).bringHome (laneB p)
  (moved.handOffs s [laneA p, laneB p]).retakePair p

/-- Step 1 of R7 for lane c, the pair SEPARATE or ALTERNATE (R42). Of an ALTERNATE pair the partner's bowlers play on
at home, so its start lane at TSC becomes the partner itself, as on any SEPARATE lane; their records keep theirs.
DEDUCED (log 31). -/
def State.closeTurns (c : LaneIx) (s : State) : State :=
  let p := pairOf c
  let o := partner c
  let others (q : List Turn) : List Turn := q.filter fun t => t.home ≠ c
  let dropped := s.modLane c fun x => { x with boundary := .unmarked }
  let reverted := match (s.pair p).mode with
    | .separate =>
      ((dropped.setQueue c (others (s.lane c).queue)).setQueue o (others (s.lane o).queue)).dropPending p
    | .alternate =>
      let moved := (dropped.setQueue o (others (s.lane o).queue ++ others (s.lane c).queue)).setQueue c []
      (moved.modLane o fun x => { x with startLane := o }).changeMode p .separate .laneClosed
  (reverted.handOffs s [c, o]).takeBoundary o

end Sys2Proof.Machine
end

