-- ==== Sys2Proof/Machine/BallFlow.lean ====
section
/-! DEFINITION. A ball through the part: its detection (R102), its reads (R104, R105), its record in the
Scoring Engine (R44 to R56) and the order in which R55 finishes it, and the timers of a lane's machine. -/

namespace Sys2Proof.Machine

/-! ### The Scoring Engine -/

/-- The ball handed to SCE (R44). -/
structure BallIn where
  lane : LaneIx
  turn : Turn
  image : PinSet
  reads : Nat
  foul : Bool
  rerack : Bool
  deriving DecidableEq, Repr

/-- The standing set before the next ball of a frame (R45). -/
def setBefore (frame : Nat) (f : Frame) : PinSet := (nextDue frame f.balls).getD fullRack

/-- The standing set after a ball (R46). -/
def setAfter (before image : PinSet) (foul : Bool) : PinSet := if foul then before else before &&& image

/-- The phantom pins of an image (R48). -/
def phantomPins (before image : PinSet) (foul : Bool) : PinSet := if foul then 0#10 else image &&& ~~~before

/-- The causes of a check on a ball (R49, R50). -/
def checkCauses (b : BallIn) (before : PinSet) : CheckCauses :=
  { thirdRead := b.reads = 3, rerack := b.rerack && before ≠ fullRack, phantom := phantomPins before b.image b.foul ≠ 0#10 }

/-- Some cause holds. -/
def CheckCauses.any (c : CheckCauses) : Bool := c.thirdRead || c.rerack || c.phantom

/-- The ball record of a ball handed (R46, R49, R60, R70). -/
def ballRecord (b : BallIn) (before : PinSet) : Ball :=
  let after := setAfter before b.image b.foul
  { pinfall := pinCount before - pinCount after, foul := b.foul, before := some before, after := some after
    split := isSplit before b.foul after, check := if (checkCauses b before).any then .open_ else .clear, reads := some b.reads }

/-- A frame with a ball recorded in it: the lane bowled on is set by the first, and the mark follows (R44,
R51, R52). -/
def Frame.addBall (frame : Nat) (lane : LaneIx) (ball : Ball) (f : Frame) : Frame :=
  { f with balls := f.balls ++ [ball], mark := markOf frame (f.balls ++ [ball]), lane := if f.balls = [] then some lane else f.lane }

/-- A game record with a ball recorded and its frames resolved (R44, R58, R59). -/
def Game.addBall (b : BallIn) (g : Game) : Game :=
  let ball := ballRecord b (setBefore b.turn.frame (g.frame b.turn.frame))
  let added := g.modFrame b.turn.frame (Frame.addBall b.turn.frame b.lane ball)
  { added with frames := resolveFrom (firstTouched b.turn.frame) added.frames }

/-- The frames whose score a change resolved (R56). -/
def resolvedBy (before after : Game) : List Resolved :=
  (List.range 10).filterMap fun i =>
    match (before.frame (i + 1)).score, (after.frame (i + 1)).score, (after.frame (i + 1)).cumulative with
    | none, some sc, some c => some ⟨i + 1, sc, c⟩
    | _, _, _ => none

/-- The BALL_RESULT report of a ball (R56). -/
def ballResult (b : BallIn) (before after : Game) : BallResult :=
  let f := after.frame b.turn.frame
  let ball := ballRecord b (setBefore b.turn.frame (before.frame b.turn.frame))
  { lane := b.lane, home := b.turn.home, slot := b.turn.slot, game := b.turn.game, frame := b.turn.frame, ball := f.balls.length
    pinfall := ball.pinfall, foul := ball.foul, after := setAfter (setBefore b.turn.frame (before.frame b.turn.frame)) b.image b.foul
    split := ball.split, check := ball.check, mark := f.mark, frameOver := f.mark.complete, resolved := resolvedBy before after }

/-- A bowler's game record replaced by f of it. -/
def State.modGame (home : LaneIx) (slot number : Nat) (f : Game → Game) (s : State) : State :=
  s.modLane home fun x => { x with roster := modBowler slot (Bowler.modGame number f) x.roster }

/-- SCORE_CHECK queued for a ball that raised a check (R49). -/
def State.reportCheck (b : BallIn) (r : BallResult) (causes : CheckCauses) (s : State) : State :=
  s.when causes.any (State.report (.scoreCheck b.lane r.home r.slot r.game r.frame r.ball r.pinfall causes))

/-- The record FINISHED, with GAME_DONE (R55 step 5, R72). -/
def State.finishGame (t : Turn) (g : Game) (s : State) : State :=
  let done := { g with state := .finished }
  (s.modGame t.home t.slot t.game fun g => { g with state := .finished }).report
    (.gameDone t.home t.slot t.game (done.scratch.getD done.soFar) done.handicap done.handicapped)

/-- A ball recorded and finished through steps 1 to 6 of R55. -/
def State.recordBall (b : BallIn) (before : Game) (s : State) : State :=
  let t := b.turn
  let after := before.addBall b
  let r := ballResult b before after
  let recorded := s.modGame t.home t.slot t.game (Game.addBall b)
  let noticed := recorded.when (before.balls = []) (State.firstBall t.home t.slot t.game)
  let reported := (noticed.report (.ballResult r)).reportCheck b r
    (checkCauses b (setBefore t.frame (before.frame t.frame)))
  let finished := reported.when (r.frameOver && t.frame = 10) (State.finishGame t after)
  finished.when r.frameOver (State.frameOver b.lane)

/-! ### The end of a ball at PSV -/

/-- The ball-pending record of lane l closed. -/
def State.closeBall (l : LaneIx) (s : State) : State := s.modMachine l fun m => { m with ball := none }

/-- The ball of lane l finished with its final image (R106). The standing need of the turn after the ball
is the deck need of R53. An orphan ball was detected in READY (R102), which its STRAY_BALL carries (R121). -/
def State.finishBall (l : LaneIx) (image : PinSet) (s : State) : State :=
  match (s.machine l).ball with
  | none => s
  | some b =>
    let closed := s.closeBall l
    if b.orphan then (closed.report (.strayBall l .ready .sessionClosed)).afterBall l .frameOver true b.onReturn
    else
      match s.gameOf b.turn with
      | none => closed.afterBall l .frameOver false b.onReturn
      | some g =>
        let handed : BallIn := ⟨l, b.turn, image, b.reads, b.foul, b.rerack⟩
        (closed.recordBall handed g).afterBall l (deckNeed b.turn.frame ((g.addBall handed).frame b.turn.frame)) false b.onReturn

/-- A DECK_IMAGE taken for lane l, in pin numbers (R104). -/
def State.deckImage (l : LaneIx) (image : Vector PinState 10) (s : State) : State :=
  let m := s.machine l
  match m.state, m.inFlight, m.ball with
  | .reading, some f, some b =>
    match f.op with
    | .cycle _ => s
    | .readDeck _ =>
      let answered := s.modMachine l fun m => { m with inFlight := none }
      if pinsIn .unsettled image ≠ 0#10 && b.reads < Config.readsMax then answered.startTimer l .reread Config.rereadSettle
      else
        let set := pinsIn .standing image ||| pinsIn .unsettled image
        (answered.modMachine l fun m => { m with deck := deckOf set }).finishBall l set
  | _, _, _ => s

/-! ### A ball at the deck -/

/-- A BALL_AT_DECK taken for lane l (R102). -/
def State.ballAtDeck (l : LaneIx) (s : State) : State :=
  let m := s.machine l
  match m.state, s.headTurn l with
  | .ready, some t =>
    (((s.modMachine l fun m =>
      { m with ball := some ⟨t, m.armedFoul, 0, m.rerack = .set, false, false⟩, armedFoul := false, rerack := .unmarked }).startTimer l
        .settle (s.settleInForce (pairOf l))).enter l .ballDown).trackAppend l .scored
  | .ready, none => (s.trackAppend l .stray).report (.strayBall l .ready .noTurn)
  | st, _ => (s.trackAppend l .stray).report (.strayBall l st .notReady)

/-! ### The machine timers of a lane -/

/-- Time passed until a timer of the given start and length runs out. DEDUCED (log 11). -/
def State.runOut (start : Reading) (length : Nat) (s : State) : State := s.advance (s.remaining start length)

/-- READ_DECK issued for the next read number (R104). -/
def State.nextRead (l : LaneIx) (s : State) : State :=
  (s.modMachine l fun m => { m with ball := m.ball.map fun b => { b with reads := b.reads + 1 } }).issueRead l false

/-- The settle runs out in BALL_DOWN (R104). -/
def State.settleOut (l : LaneIx) (s : State) : State :=
  match (s.machine l).state, (s.machine l).timer with
  | .ballDown, some ⟨.settle, start, length⟩ => ((s.runOut start length).nextRead l).enter l .reading
  | _, _ => s

/-- The re-read settle runs out in READING (R104). -/
def State.rereadOut (l : LaneIx) (s : State) : State :=
  match (s.machine l).state, (s.machine l).timer with
  | .reading, some ⟨.reread, start, length⟩ => (s.runOut start length).nextRead l
  | _, _ => s

/-- A read timeout runs out in READING: the one reissue, or a jam (R105). -/
def State.readOut (l : LaneIx) (s : State) : State :=
  match (s.machine l).state, (s.machine l).inFlight with
  | .reading, some ⟨.readDeck reissued, start, length, _, _⟩ =>
    if reissued then (s.runOut start length).jam l .read else (s.runOut start length).issueRead l true
  | _, _ => s

/-- A cycle timeout runs out in CYCLING (R111). -/
def State.cycleOut (l : LaneIx) (s : State) : State :=
  match (s.machine l).state, (s.machine l).inFlight with
  | .cycling, some ⟨.cycle _, start, length, _, _⟩ => (s.runOut start length).jam l .timeout
  | _, _ => s

/-- The warm-up runs out in WAKING (R114). -/
def State.warmUpOut (l : LaneIx) (s : State) : State :=
  match (s.machine l).state, (s.machine l).timer with
  | .waking, some ⟨.warmUp, start, length⟩ =>
    ((s.runOut start length).modMachine l fun m => { m with warmed := true, onTime := 0, timer := none }).derive l
  | _, _ => s

end Sys2Proof.Machine
end

