-- ==== Sys2Proof/Machine/Stations.lean ====
section
/-! DEFINITION. The Station Bus Master (chapter 5): the exchanges and what they send, attachment, loss and
return, missed answers, the events taken, and the class-1 conversion of pin orders. -/

namespace Sys2Proof.Machine

/-! ### Class-1 pin order (R98) -/

/-- The pin of each wiring position w1 to w10 (R98). -/
def wiringPins : Vector Nat 10 := #v[7, 8, 9, 10, 4, 5, 6, 2, 3, 1]

/-- The wiring position of each pin 1 to 10 (R98). -/
def pinWires : Vector Nat 10 := #v[10, 8, 9, 5, 6, 7, 1, 2, 3, 4]

/-- A pin set with position i + 1 taken from position order[i]. -/
def reorderSet (order : Vector Nat 10) (set : PinSet) : PinSet :=
  (List.range 10).foldl (fun s i => if set.getLsbD (order.toList.getD i 1 - 1) then s ||| (1#10 <<< i) else s) 0#10

/-- A deck image with position i + 1 taken from position order[i]. -/
def reorderImage (order : Vector Nat 10) (image : Vector PinState 10) : Vector PinState 10 :=
  order.map fun n => image.toList.getD (n - 1) .down

/-- A pin set sent to a station: in wiring order for class 1 (R98). -/
def setToStation : StationClass → PinSet → PinSet
  | .class1, set => reorderSet wiringPins set
  | .class2, set => set

/-- A pin set taken from a station, in pin numbers (R98). -/
def setFromStation : StationClass → PinSet → PinSet
  | .class1, set => reorderSet pinWires set
  | .class2, set => set

/-- A deck image taken from a station, in pin numbers (R98). -/
def imageFromStation : StationClass → Vector PinState 10 → Vector PinState 10
  | .class1, image => reorderImage pinWires image
  | .class2, image => image

/-- A command as a POLL to a station of the class carries it (R90, R98). -/
def BusCommand.toStation (cls : StationClass) : BusCommand → BusCommand
  | .respot t => .respot (setToStation cls t)
  | .readDeck => .readDeck
  | .fullRack => .fullRack
  | .sweep => .sweep
  | .recover => .recover

/-! ### What is sent -/

/-- A command field as a POLL carries it: while it is not echoed (R90, R92). -/
def CommandField.carried (cls : StationClass) (f : CommandField) : Option PollCommand :=
  if f.echoed then none else some ⟨f.seq, f.command.toStation cls⟩

/-- The POLL of a station as it stands (R90). -/
def State.pollFrame (s : State) (p : PairIx) : BusFrame :=
  let t := s.station p
  .poll p t.lastEvent (t.commandA.bind (CommandField.carried t.cls)) (t.commandB.bind (CommandField.carried t.cls)) t.powerA t.powerB
    t.lift (s.settleInForce p)

/-- An exchange with an answer opened: its frame sent and its answer window begun (R88). -/
def State.openExchange (p : PairIx) (kind : ExchangeKind) (frame : BusFrame) (s : State) : State :=
  s.modBus fun b => { b with exchange := some ⟨p, kind⟩, lastSent := some frame }

/-- The exchange due first taken off. -/
def Bus.popDue (b : Bus) : Bus := { b with due := b.due.tail }

/-- Exchanges that became due (R88). -/
def State.schedule (ds : List DueExchange) (s : State) : State := s.modBus fun b => { b with due := b.due ++ ds }

/-- A station the round-robin polls: ATTACHED, and not awaiting its probe for events lost (R88, R94). -/
def State.inRoundRobin (s : State) (p : PairIx) : Bool := (s.station p).state = .attached && !(s.station p).probeOwed

/-- The next station of the round-robin above p, wrapping from 8 to 1 (R88). -/
def State.nextPolled (s : State) (p : PairIx) : Option PairIx := (allPairs.map fun i => p + 1 + i).find? s.inRoundRobin

/-- SBM sends a POLL: the DARK poll due first, or, with nothing due and no discovery pass, the next of the
round-robin (R85, R88, R89, R90). A DARK poll still due is sent to a station that has since become ATTACHED, and
dropped unsent where its station is polled no longer. DEDUCED (log 20). -/
def State.sendPoll (s : State) : State :=
  if s.bus.exchange.isSome then s
  else
    match s.bus.due with
    | ⟨p, .darkPoll⟩ :: _ =>
      let popped := s.modBus Bus.popDue
      if (s.station p).state.polled then popped.openExchange p .poll (s.pollFrame p) else popped
    | [] =>
      if s.bus.passing then s
      else
        match s.nextPolled s.bus.lastPolled with
        | none => s
        | some p => (s.openExchange p .poll (s.pollFrame p)).modBus fun b => { b with lastPolled := p }
    | _ => s

/-- SBM sends the PROBE due first (R85, R87, R94, R96). -/
def State.sendProbe (s : State) : State :=
  if s.bus.exchange.isSome then s
  else
    match s.bus.due with
    | ⟨p, .probe reason⟩ :: _ => (s.modBus Bus.popDue).openExchange p (.probe reason) (.probe p)
    | _ => s

/-- SBM sends the RESET poll due first and waits for no answer (R96). -/
def State.sendReset (s : State) : State :=
  if s.bus.exchange.isSome then s
  else
    match s.bus.due with
    | ⟨p, .resetPoll hold⟩ :: _ => s.modBus fun b => { b.popDue with lastSent := some (.reset p hold) }
    | _ => s

/-- The exchange in progress ended. -/
def State.closeExchange (s : State) : State := s.modBus fun b => { b with exchange := none }

/-! ### Loss -/

/-- The table entry of a station that is no longer attached: missed polls 0, both commands cleared, the last
event absent (R95, R96). -/
def Station.detach (st : StationState) (t : Station) : Station :=
  { t with state := st, missed := 0, commandA := none, commandB := none, lastEvent := none, probeOwed := false }

/-- The loss of each fitted lane handed to PSV, lane A first, and of the pair to BRM (R94, R95, R96). -/
def State.handLoss (silent : Bool) (p : PairIx) (s : State) : State :=
  (s.each (s.fittedLanes p) (State.loseLane silent)).losePair p

/-- A station made LOST by its third missed answer (R95). -/
def State.loseStation (p : PairIx) (s : State) : State :=
  ((s.modStation p (Station.detach .lost)).handLoss false p).report (.stationLost p .missedPolls)

/-- A missed answer that counts (R94, R95). -/
def State.missAnswer (p : PairIx) (s : State) : State :=
  if Config.missedLimit ≤ (s.station p).missed + 1 then s.loseStation p
  else s.modStation p fun t => { t with missed := t.missed + 1 }

/-- The PROBE for events lost due at a station whose probe is owed (R94). -/
def State.probeAgain (p : PairIx) (s : State) : State :=
  s.when (s.station p).probeOwed (State.schedule [⟨p, .probe .eventsLost⟩])

/-! ### Attachment -/

/-- Steps 1 to 4 of R86 before the DARK test. -/
def Station.attach (a : HelloAnswer) (pass : Bool) (t : Station) : Station :=
  { t with cls := a.cls, fitted := a.fitted, missed := 0, lastEvent := none, commandA := none, commandB := none, nextSeqA := 1
           nextSeqB := 1, lift := .run, powerA := if pass then .off else a.powerA, powerB := if pass then .off else a.powerB
           state := .attached, holdRemaining := 0, holding := false, probeOwed := false }

/-- The power state a HELLO answer reports for a lane (R91). -/
def reportedPower (a : HelloAnswer) : Side → Power
  | .a => a.powerA
  | .b => a.powerB

/-- The removal orders HMN hands for lanes at the end of a pass or at a late first attachment (R134). DEDUCED (log
20). -/
def State.resetOrders (ls : List LaneIx) (s : State) : State :=
  s.each (ls.filter fun l => (s.lane l).health.removable) State.removalOrder

/-- The orders of a station's first attachment after a reset, where they are owed (R134). -/
def State.lateOrders (p : PairIx) (s : State) : State :=
  s.when (s.station p).ordersOwed fun s =>
    (s.resetOrders [laneA p, laneB p]).modStation p fun t => { t with ordersOwed := false }

/-- A station attached in a discovery pass, silently and with its machines left as the reset left them (R85,
R86). -/
def State.attachInPass (p : PairIx) (a : HelloAnswer) (s : State) : State :=
  ((s.modStation p (Station.attach a true)).darkTest p).seedReturn p a.rackCount.toNat

/-- A station attached outside a discovery pass, with the loss of R94 where the station never left attachment (R86,
R87). DEDUCED (log 21). The removal orders of R134 come after the returns of step 6 and before the STATION_BACK of
step 7. DEDUCED (log 33). -/
def State.attach (p : PairIx) (a : HelloAnswer) (withLoss : Bool) (cause : BackCause) (s : State) : State :=
  let written := (s.modStation p (Station.attach a false)).darkTest p
  let lost := written.when withLoss (State.handLoss true p)
  let seeded := lost.seedReturn p a.rackCount.toNat
  let returned := seeded.each (seeded.fittedLanes p) fun l s => s.returnLane l (reportedPower a (sideOf l))
  (returned.lateOrders p).report (.stationBack p cause a.cls a.fitted)

/-- The end of the discovery pass: the pace timer starts with its count 0, and HMN orders the removals of
R134 on the stations attached in the pass. A lane they take out queues its MACHINE_STATE, the pass being over. DEDUCED
(log 38). -/
def State.endPass (s : State) : State :=
  let ended := s.modBus fun b => { b with passing := false, paceTenths := 0, paceCount := 0 }
  let attached := allPairs.filter fun p => (s.station p).state ≠ .absent && (s.station p).ordersOwed
  State.each attached State.lateOrders ended

/-- The discovery pass ends with the exchange to address 8 (R85). -/
def State.passOver (e : Exchange) (s : State) : State :=
  s.when (e.kind = .probe .discovery && e.pair = 7) State.endPass

/-- The pass begun: every entry ABSENT with its commands and orders cleared, one PROBE due to each address,
and no exchange in progress (R85, R99). -/
def Station.rediscover (owed : Bool) (t : Station) : Station :=
  { t with state := .absent, missed := 0, holdRemaining := 0, holding := false, lastEvent := none, commandA := none
           commandB := none, powerA := .off, powerB := .off, lift := .run, nextSeqA := 1, nextSeqB := 1, probeOwed := false
           ordersOwed := owed }

/-! ### Answers -/

/-- The answer window ends with no valid answer (R85, R87, R94, R95, R96). -/
def State.missed (e : Exchange) (s : State) : State :=
  let t := s.station e.pair
  match e.kind with
  | .poll => if t.state.polled then s.missAnswer e.pair else s
  | .probe .discovery => s
  | .probe .reprobe => s
  | .probe .eventsLost => if t.state.polled && t.probeOwed then (s.missAnswer e.pair).probeAgain e.pair else s
  | .probe .afterHold =>
    if t.state = .resetting && !t.holding then
      (s.modStation e.pair (Station.detach .lost)).report (.stationLost e.pair .noAnswerAfterReset)
    else s

/-- A HELLO answer taken in an exchange (R86, R87, R94, R96). -/
def State.hello (e : Exchange) (a : HelloAnswer) (s : State) : State :=
  let t := s.station e.pair
  match e.kind with
  | .poll => if t.state.polled then s.attach e.pair a true .restart else s
  | .probe .discovery => if t.state = .absent then s.attachInPass e.pair a else s
  | .probe .reprobe =>
    match t.state with
    | .absent => s.attach e.pair a false .lateAnswer
    | .lost => s.attach e.pair a false .return_
    | .attached | .dark | .resetting => s
  | .probe .eventsLost => if t.state.polled && t.probeOwed then s.attach e.pair a true .eventsLost else s
  | .probe .afterHold => if t.state = .resetting && !t.holding then s.attach e.pair a false .resetDone else s

/-- A command field marked echoed where the echo is its sequence (R92). -/
def CommandField.mark (echo : Byte) (f : CommandField) : CommandField := { f with echoed := f.echoed || f.seq = echo.toNat }

/-- The table entry with an answer's command echoes marked and its missed polls 0 (R88, R92). -/
def Station.answered (a : StatusAnswer) (t : Station) : Station :=
  { t with missed := 0, commandA := t.commandA.map (CommandField.mark a.echoA), commandB := t.commandB.map (CommandField.mark a.echoB) }

/-- The lane of an event, where its kind has one (R91). -/
def eventSide : BusEvent → Option Side
  | .ballAtDeck side => some side
  | .foul side => some side
  | .deckImage side _ _ => some side
  | .cycleDone side _ _ => some side
  | .machineJam side _ => some side
  | .ballAtRack => none
  | .ballTaken => none

/-- A completion is stale: its sequence is not that of the lane's command field (R93). -/
def Station.stale (t : Station) (side : Side) (seq : Byte) : Bool := ((t.command side).map (·.seq)) ≠ some seq.toNat

/-- An event handed to its owner, in pin numbers (R91, R93, R98). -/
def State.handEvent (p : PairIx) (e : BusEvent) (s : State) : State :=
  let t := s.station p
  match e with
  | .ballAtDeck side => s.ballAtDeck (laneOf p side)
  | .foul side => s.foul (laneOf p side)
  | .deckImage side seq pins => if t.stale side seq then s else s.deckImage (laneOf p side) (imageFromStation t.cls pins)
  | .cycleDone side seq pins => if t.stale side seq then s else s.cycleDone (laneOf p side) (setFromStation t.cls pins)
  | .machineJam side cause => s.machineJam (laneOf p side) cause
  | .ballAtRack => s.ballAtRack p
  | .ballTaken => s.ballTaken p

/-- An event taken: a repeat is discarded, and one that names a lane not fitted is acknowledged and
discarded (R93). -/
def State.takeEvent (p : PairIx) (e : StationEvent) (s : State) : State :=
  if (s.station p).lastEvent = some e.seq then s
  else
    let taken := s.modStation p fun t => { t with lastEvent := some e.seq }
    let fits := match eventSide e.event with
      | none => true
      | some side => fittedHas (s.station p).fitted side
    if fits then taken.handEvent p e.event else taken

/-- Events lost: the event is discarded and the station's PROBE is due, its next exchange (R94). A DARK poll of it still
due gives way to the probe. DEDUCED (log 20). -/
def State.eventsLost (p : PairIx) (s : State) : State :=
  if (s.station p).probeOwed then s
  else
    let owed := s.modStation p fun t => { t with probeOwed := true }
    (owed.modBus fun b => { b with due := b.due.filter (· ≠ ⟨p, .darkPoll⟩) }).probeAgain p

/-- A STATUS answer taken from a station that is polled (R92, R93, R94). -/
def State.statusTaken (p : PairIx) (a : StatusAnswer) (s : State) : State :=
  let marked := s.modStation p (Station.answered a)
  if a.eventsLost then marked.eventsLost p
  else
    match a.event with
    | none => marked
    | some e => marked.takeEvent p e

/-! ### Timers of the bus -/

/-- What a pace timer expiry makes due for a station; tenth marks the expiry that probes the ABSENT ones
(R87, R89). -/
def Station.paceDue (tenth : Bool) (p : PairIx) (t : Station) : List DueExchange :=
  match t.state with
  | .lost => [⟨p, .probe .reprobe⟩]
  | .dark => if t.probeOwed then [] else [⟨p, .darkPoll⟩]
  | .absent => if tenth then [⟨p, .probe .reprobe⟩] else []
  | .attached => []
  | .resetting => []

/-- The pace timer runs out (R87). It does not run in a discovery pass. -/
def State.paceOut (s : State) : State :=
  if s.bus.passing then s
  else
    let passed := s.advance (Config.secondTenths - s.bus.paceTenths)
    let tenth := decide (9 ≤ s.bus.paceCount)
    let due := allPairs.flatMap fun p => (s.station p).paceDue tenth p
    (passed.modBus fun b => { b with paceTenths := 0, paceCount := if tenth then 0 else b.paceCount + 1 }).schedule due

/-- A reset hold runs out, and the probe after it is due (R96). -/
def State.holdOut (p : PairIx) (s : State) : State :=
  let t := s.station p
  if t.state = .resetting && t.holding then
    ((s.advance t.holdRemaining).modStation p fun t => { t with holdRemaining := 0, holding := false }).schedule
      [⟨p, .probe .afterHold⟩]
  else s

/-- A probe due to a station for events lost or after a hold, which STATION_RESET cancels (R96). -/
def DueExchange.cancelled (p : PairIx) (d : DueExchange) : Bool :=
  d.pair = p && (d.kind = .probe .eventsLost || d.kind = .probe .afterHold)

/-- An accepted STATION_RESET with its hold applied (R96). -/
def State.resetStation (p : PairIx) (hold : Nat) (s : State) : State :=
  let was := (s.station p).state
  let due := s.modBus fun b => { b with due := b.due.filter (fun d => !d.cancelled p) ++ [⟨p, .resetPoll hold⟩] }
  let set := due.modStation p fun t => { t.detach .resetting with holdRemaining := hold, holding := true }
  set.when was.polled (State.handLoss false p)

end Sys2Proof.Machine
end

