-- ==== Sys2Proof/Machine/Seconds.lean ====
section
/-! DEFINITION. The second event (R150) and the steps it makes due: what the event itself counts, the parts
taken as steps of their own, and the rule that a part still due is taken before any other step. -/

namespace Sys2Proof.Machine

/-! ### The parts of a second -/

/-- The minute part, where it is due (R155). -/
def State.dueMinute (s : State) : State :=
  if s.due.minute then ({ s with due := { s.due with minute := false } } : State).minutePart else s

/-- Lane l's completed PER_TIME minute, where it is due (R161). -/
def State.duePlay (l : LaneIx) (s : State) : State :=
  if s.due.playMinutes.contains l then
    ({ s with due := { s.due with playMinutes := s.due.playMinutes.filter (· ≠ l) } } : State).perTimeMinute l
  else s

/-- Lane l's completed PREPAID_TIME minute, where it is due (R162). -/
def State.duePrepaid (l : LaneIx) (s : State) : State :=
  if s.due.prepaidMinutes.contains l then
    ({ s with due := { s.due with prepaidMinutes := s.due.prepaidMinutes.filter (· ≠ l) } } : State).prepaidTimeMinute l
  else s

/-- The desk-lost state entered (R181). -/
def State.loseDesk (s : State) : State :=
  let told := s.report (.deskLost s.clock s.link.timeout)
  { told with link := { told.link with lost := some s.clock, wasLost := true }, hold := true }

/-- The desk-silence expiry, where it is due (R181). -/
def State.dueSilence (s : State) : State :=
  if s.due.deskSilence then ({ s with due := { s.due with deskSilence := false } } : State).loseDesk else s

/-- The conditions of a pending power-off (R115). -/
def State.powerOffReady (s : State) (l : LaneIx) : Bool :=
  (s.machine l).powerOffPending && s.minOnElapsed l && (s.machine l).state.atRest && (s.lane l).session = .closed

/-- The idle timer of lane l has run out and its minimum on-time has elapsed (R113). -/
def State.idleOffReady (s : State) (l : LaneIx) : Bool :=
  (s.lane l).idleRuns && standbyTime (s.pair (pairOf l)).settings.standbyCode ≤ (s.machine l).idle && s.minOnElapsed l

/-- The test of lane l when its on-time has reached the minimum: a pending power-off, or one the idle timer holds
(R113, R115). DEDUCED (log 23). -/
def State.testOnTime (l : LaneIx) (s : State) : State :=
  if s.powerOffReady l then s.powerDown l else if s.idleOffReady l then s.idlePowerOff l else s

/-- The expiry of lane l's idle timer (R113). -/
def State.testIdle (l : LaneIx) (s : State) : State := if s.idleOffReady l then s.idlePowerOff l else s

/-- Lane l's on-time test, where it is due. -/
def State.dueOnTime (l : LaneIx) (s : State) : State :=
  if s.due.onTime.contains l then
    ({ s with due := { s.due with onTime := s.due.onTime.filter (· ≠ l) } } : State).testOnTime l
  else s

/-- Lane l's idle expiry, where it is due. -/
def State.dueIdle (l : LaneIx) (s : State) : State :=
  if s.due.idle.contains l then ({ s with due := { s.due with idle := s.due.idle.filter (· ≠ l) } } : State).testIdle l else s

/-- Pair p's oldest-entry expiry, where it is due (R143). -/
def State.dueOldest (p : PairIx) (s : State) : State :=
  if s.due.oldest.contains p then
    ({ s with due := { s.due with oldest := s.due.oldest.filter (· ≠ p) } } : State).declareReturnJam p
  else s

/-- Every part still due taken, in the order of R150 and of the four blocks that take a second event: the
meters, desk silence, the machines' counts, and the oldest-entry counts. -/
def State.drain (s : State) : State :=
  if s.due = .clear then s
  else
    let metered := (s.dueMinute.each allLanes State.duePlay).each allLanes State.duePrepaid
    let machines := (metered.dueSilence.each allLanes State.dueOnTime).each allLanes State.dueIdle
    machines.each allPairs State.dueOldest

/-! ### The second event -/

/-- The on-time and idle counts of a lane after one second (R113, R115). -/
def Lane.countMachine (standby : Nat) (x : Lane) : Lane :=
  let m := x.machine
  { x with machine := { m with
      onTime := if m.warmed then min Config.onTimeMax (m.onTime + 1) else m.onTime
      idle := if x.idleRuns && m.idle < standby then m.idle + 1 else m.idle } }

/-- A pair's oldest-entry count after one second (R142). -/
def State.countOldest (s : State) (p : PairIx) (x : Pair) : Pair :=
  if s.oldestRuns p then { x with ret := { x.ret with oldest := x.ret.oldest + 1 } } else x

/-- The desk-silence timer runs (R180). -/
def Link.silenceRuns (k : Link) : Bool := k.timeout ≠ 0 && k.lost.isNone

/-- The desk-silence count after one second (R180). -/
def Link.countSilence (k : Link) : Link := if k.silenceRuns then { k with silence := k.silence + 1 } else k

/-- The counts of the four blocks advanced by one second (R150). -/
def State.countSecond (s : State) : State :=
  { s with
    lanes := mapLanes (fun l x => (x.countSecond s.meter.settings.grace).countMachine
      (standbyTime (s.pair (pairOf l)).settings.standbyCode)) s.lanes
    pairs := mapPairs s.countOldest s.pairs
    link := s.link.countSilence }

/-- The on-time test of lane l is due: its minimum on-time has elapsed, and a pending power-off or a held
idle expiry waits for it (R113, R115). -/
def State.onTimeDue (before after : State) (l : LaneIx) : Bool :=
  after.minOnElapsed l && ((after.machine l).powerOffPending
    || (after.idleOffReady l && standbyTime (before.pair (pairOf l)).settings.standbyCode ≤ (before.machine l).idle))

/-- The idle timer of lane l runs out at the second (R113). -/
def State.idleDue (after : State) (l : LaneIx) : Bool :=
  (after.lane l).idleRuns && standbyTime (after.pair (pairOf l)).settings.standbyCode ≤ (after.machine l).idle

/-- The parts a second makes due, from the states before and after its counts. DEDUCED (log 10). -/
def dueAfter (before after : State) : DueSteps :=
  { minute := after.clock.second = 0
    playMinutes := allLanes.filter fun l => minuteDone .perTime (before.lane l) (after.lane l)
    prepaidMinutes := allLanes.filter fun l => minuteDone .prepaidTime (before.lane l) (after.lane l)
    deskSilence := after.link.silenceRuns && after.link.timeout ≤ after.link.silence
    onTime := allLanes.filter (State.onTimeDue before after)
    idle := allLanes.filter after.idleDue
    oldest := allPairs.filter fun p => after.oldestRuns p && (after.ret p).timeout ≤ (after.ret p).oldest }

/-- The time left to the second event passed, and the clock advanced (R149, R150). -/
def State.toSecond (s : State) : State :=
  ({ (s.advance (Config.secondTenths - s.sinceSecond)) with sinceSecond := 0 } : State).tickClock

/-- A second event: the clock and the counts, and the parts it makes due (R150). -/
def State.second (s : State) : State :=
  let ticked := s.toSecond
  let counted := ticked.countSecond
  { counted with due := dueAfter ticked counted }

/-! ### The occasion of a step -/

/-- A step of the running part: the parts still due are taken before it, and nothing is taken while RESET_N is LOW
(R149, R150). DESIGN CHOICE (log 5) and DEDUCED (log 10). -/
def State.live (f : State → State) (s : State) : State := if s.held then s else f s.drain

/-- A tenth of a second passing with no command waiting. DESIGN CHOICE (log 3). -/
def State.idleTenth (s : State) : State := if s.held then s.advance 1 else s.drain.advance 1

end Sys2Proof.Machine
end

