-- ==== Sys2Proof/Machine/Link.lean ====
section
/-! DEFINITION. The Desk Link Controller (chapter 10): the receiver and its faults, the receive slots, the
transmit line, the desk-lost state, the link status, and the resets. -/

namespace Sys2Proof.Machine

/-! ### The receiver (R170 to R173) -/

/-- The 8-bit sum of LEN, KIND, TAG, the BODY bytes and CHECK (R170). -/
def frameSum (kind tag : Byte) (body : List Byte) (check : Byte) : Byte :=
  BitVec.ofNat 8 (body.length + 2) + kind + tag + body.foldl (· + ·) 0 + check

/-- A link fault listed, or counted as dropped where the list holds 4 (R172). -/
def Link.listFault (f : LinkFault) (k : Link) : Link :=
  if k.faults.length < Config.faultCapacity then { k with faults := k.faults ++ [f] }
  else { k with faultsDropped := min Config.faultsDroppedMax (k.faultsDropped + 1) }

/-- The receiver back in HUNT. -/
def Link.hunt (k : Link) : Link := { k with receiver := .hunt }

/-- A good frame taken into a free receive slot, or discarded with cause OVERRUN (R173). -/
def Link.accept (kind tag : Byte) (body : List Byte) (k : Link) : Link :=
  if k.slots.length < Config.slotCapacity then { k with slots := k.slots ++ [⟨kind, tag, body, false⟩] }
  else k.listFault ⟨tag, .overrun⟩

/-- The desk-lost state ended by a good frame, with DESK_BACK and the hold cleared (R181). -/
def State.endSilence (s : State) : State :=
  let heard := s.modLink fun k => { k with silence := 0 }
  match s.link.lost with
  | none => heard
  | some entered => ((heard.modLink fun k => { k with lost := none }).report (.deskBack entered s.clock)).clearHold

/-- The mode after a byte with the given bytes of its frame left: HUNT where the frame's length is spent (R171). -/
def Receiver.skipping : Option Nat → Receiver
  | some 0 => .hunt
  | left => .skip left

/-- A byte of a faulty frame spent; in the other modes none is (R171). -/
def Receiver.spend : Receiver → Receiver
  | .hunt => .hunt
  | .frame => .frame
  | .skip left => Receiver.skipping (left.map (· - 1))

/-- A byte of a faulty frame spent by the receiver. -/
def Link.spend (k : Link) : Link := { k with receiver := k.receiver.spend }

/-- The rest of a frame taken from RXD in FRAME, to its CHECK (R170, R171, R173). A BODY over 240 bytes has no LEN in
range. Outside FRAME no frame completes. DEDUCED (log 9). -/
def State.receive (kind tag : Byte) (body : List Byte) (check : Byte) (s : State) : State :=
  match s.link.receiver with
  | .hunt => s
  | .skip _ => s
  | .frame =>
    State.modLink Link.hunt <|
      if Config.bodyMax < body.length then s.modLink (Link.listFault ⟨0, .length⟩)
      else if frameSum kind tag body check ≠ 0 then s.modLink (Link.listFault ⟨tag, .check⟩)
      else s.endSilence.modLink (Link.accept kind tag body)

/-- The TAG of a frame at a bad byte, 0 where it was not taken (R171). -/
def faultTag : FaultPlace → Byte
  | .start => 0
  | .head _ => 0
  | .body tag _ => tag

/-- The bytes of a frame left after a bad byte, where LEN was taken. -/
def faultLeft : FaultPlace → Option Nat
  | .start => none
  | .head left => some left
  | .body _ left => some left

/-- A byte with a bad stop bit. In FRAME it is a BYTE fault, and the rest of the frame is spent before HUNT resumes;
in HUNT it is discarded, and of a faulty frame it is one byte spent (R171). -/
def State.badByte (place : FaultPlace) (s : State) : State :=
  match s.link.receiver with
  | .hunt => s
  | .frame => s.modLink fun k => { k.listFault ⟨faultTag place, .byte⟩ with receiver := .skipping (faultLeft place) }
  | .skip _ => s.modLink Link.spend

/-- A LEN out of range, a fault in FRAME alone; HUNT resumes with the byte after it (R171). -/
def State.badLength (s : State) : State :=
  match s.link.receiver with
  | .hunt => s
  | .skip _ => s
  | .frame => s.modLink fun k => (k.listFault ⟨0, .length⟩).hunt

/-- A gap over 10 ms: a GAP fault in FRAME, and the end of a frame that had its fault before; HUNT resumes at once
(R171). -/
def State.gap (tag : Option Byte) (s : State) : State :=
  match s.link.receiver with
  | .hunt => s
  | .skip _ => s.modLink Link.hunt
  | .frame => s.modLink fun k => (k.listFault ⟨tag.getD 0, .gap⟩).hunt

/-- A good byte taken outside a frame: in HUNT a START begins a frame and any other is discarded; of a faulty frame
it is one byte spent (R171). The bytes of a frame come with their FRAME_RECEIVED. DEDUCED (log 9). -/
def State.huntByte (b : Byte) (s : State) : State :=
  match s.link.receiver with
  | .hunt => if b = Config.startByte then s.modLink fun k => { k with receiver := .frame } else s
  | .frame => s
  | .skip _ => s.modLink Link.spend

/-! ### The transmit line (R175) -/

/-- The next frame begun on a free line: the oldest reply, else the oldest LINK_FAULT, else the head report
unless the desk-lost state stands. -/
def Link.send (k : Link) : Link :=
  match k.tx with
  | some _ => k
  | none =>
    match k.replies, k.faults, k.reports with
    | r :: rs, _, _ => { k with replies := rs, tx := some (.reply r) }
    | [], f :: fs, _ => { k with faults := fs, tx := some (.fault f) }
    | [], [], r :: rs => if k.lost.isSome then k else { k with reports := rs, tx := some (.report r) }
    | [], [], [] => k

/-- The last byte of a frame sent: a reply frees its receive slot, the oldest (R173). -/
def Link.sent (k : Link) : Link :=
  match k.tx with
  | none => k
  | some (.reply _) => { k with tx := none, slots := k.slots.tail }
  | some (.fault _) => { k with tx := none }
  | some (.report _) => { k with tx := none }

/-! ### Link status (R178) -/

/-- The fields of STATUS and PEEK (R178). -/
def State.linkStatus (s : State) : LinkStatus :=
  { reportsLost := s.link.reportsLost, lostClasses := s.link.lostClasses, deskWasLost := s.link.wasLost
    faultsDropped := s.link.faultsDropped, stations := allPairs.map fun p => (s.station p).state
    lifts := allPairs.map s.liftState, attention := s.attentionSet, queueDepth := s.link.reports.length
    faultDepth := s.link.faults.length, clockValid := s.clockValid, tariffLoaded := s.meter.installed.isSome
    tariffPending := s.meter.pendingTable.isSome }

/-- What STATUS clears (R178). -/
def Link.clearStatus (k : Link) : Link :=
  { k with reportsLost := false, lostClasses := .empty, wasLost := false, faultsDropped := 0 }

/-! ### Closing a lane (R7, R9) -/

/-- The ball-pending record of lane l flagged orphan. -/
def State.orphan (l : LaneIx) (s : State) : State :=
  s.modMachine l fun m => { m with ball := m.ball.map fun b => { b with orphan := true } }

/-- The balls in the hands of PSV that the close of lane c orphans (R9). -/
def State.orphanBalls (c : LaneIx) (s : State) : State :=
  let away := (s.pair (pairOf c)).mode = .alternate && ((s.machine (partner c)).ball.map (·.turn.home)) = some c
  (s.orphan c).when away (State.orphan (partner c))

/-- The IN_PROGRESS records of a roster set WITHDRAWN (R7 step 2). -/
def withdrawRecords (roster : List Bowler) : List Bowler :=
  roster.map fun b => { b with games := b.games.map fun g => if g.state = .inProgress then { g with state := .withdrawn } else g }

/-- A lane in STANDBY whose session is closed goes to POWERED_DOWN with its deck UNKNOWN (R113). -/
def State.closeStandby (l : LaneIx) (s : State) : State :=
  s.when ((s.machine l).state = .standby) fun s => (s.forgetDeck l).enter l .poweredDown

/-- Steps 1 to 5 of R7 for lane l, as CLOSE_SESSION and RESET CENTRE take them (R22). DEDUCED (log 25). -/
def State.closeLane (l : LaneIx) (s : State) : State :=
  let turned := (s.orphanBalls l).closeTurns l
  let billed := (turned.modLane l fun x => { x with roster := withdrawRecords x.roster }).finalise l
  let gated := (billed.clearReason .deskHold l).raiseReason .noSession s.clock l
  (gated.modLane l fun x => { x with lastRoster := true }).setSession l .closed

/-- A lane closed by CLOSE_SESSION, whose machine in STANDBY goes to POWERED_DOWN (R7, R113). -/
def State.closeSession (l : LaneIx) (s : State) : State := (s.closeLane l).closeStandby l

/-! ### Resets (R21, R43, R65, R82, R99, R123, R134, R148, R149, R169, R184) -/

/-- The part after power-on (R21 and the rules beside it); the queue of waiting commands stands. -/
def State.poweredOn (rate1 rate0 : Bool) (s : State) : State := { State.powerOn rate1 rate0 with pending := s.pending }

/-- A lane after the reset line: its health record alone is kept. -/
def Lane.lineReset (now : DateTime) (l : LaneIx) (x : Lane) : Lane := Lane.initial l now x.health

/-- A pair after the reset line: its health record alone is kept. -/
def Pair.lineReset (_ : PairIx) (x : Pair) : Pair := Pair.initial x.health true

/-- The part after the rising edge of RESET_N. The centre clock, the return clock and the health records
are kept. -/
def State.lineReset (rate1 rate0 : Bool) (s : State) : State :=
  { pending := s.pending, held := false, due := .clear, returnClock := s.returnClock, sinceSecond := s.sinceSecond
    clock := s.clock, clockValid := s.clockValid, meter := .initial
    lanes := mapLanes (Lane.lineReset s.clock) s.lanes, pairs := mapPairs Pair.lineReset s.pairs
    hold := false, bus := .initial
    link := .initial (strapRate rate1 rate0)
      (.resetLine Config.familyCode Config.partNumber Config.revision (strapRate rate1 rate0)) }

/-- A lane after RESET CENTRE, its session ended before (R21, R43, R123). -/
def Lane.centreReset (l : LaneIx) (x : Lane) : Lane :=
  { x with startLane := l, boundary := .unmarked, queue := [], head := none, machine := .initial
           gate := .onlyNoSession x.gate.noSession }

/-- A pair after RESET CENTRE (R43, R99, R148). -/
def Pair.centreReset (_ : PairIx) (x : Pair) : Pair :=
  { x with mode := .separate, pendingMode := none
           ret := { x.ret with track := [], rack := 0, jamStanding := false, outOfReach := true, oldest := 0 }
           station := x.station.rediscover true }

/-- The lanes whose session is OPEN or SERIES_DONE, ascending. -/
def State.runningLanes (s : State) : List LaneIx := allLanes.filter fun l => (s.lane l).session.running

/-- A session ended by RESET CENTRE, with SESSION_ENDED in place of a reply (R22). -/
def State.endSession (l : LaneIx) (s : State) : State :=
  let closed := s.closeLane l
  closed.report (.sessionEnded l (closed.lane l).account)

/-- The sessions ended, the pairs set SEPARATE and the discovery pass begun (R182 steps 1 to 3); the desk-silence
count is 0 (R184). DEDUCED (log 24). -/
def State.resetCentre (s : State) : State :=
  let ended := s.each s.runningLanes State.endSession
  { ended with
    lanes := mapLanes Lane.centreReset ended.lanes
    pairs := mapPairs Pair.centreReset ended.pairs
    bus := { Bus.initial with lastSent := ended.bus.lastSent }
    link := { ended.link with silence := 0 } }

/-- The link cleared by RESET LINK (R183). -/
def Link.resetLink (k : Link) : Link :=
  { k with receiver := .hunt, faults := [], faultsDropped := 0, reports := [], reportsLost := false
           lostClasses := .empty, wasLost := false, silence := 0 }

/-- RESET as the oldest request: a BODY other than two bytes and a scope that names neither reset are refused, and
the two rows of the table take their own scope each (R182). DEDUCED (log 8). -/
def State.resetRequest (own other : Byte) (f : Bool → State → Answer) (s : State) : State :=
  match s.link.nextRequest with
  | none => s
  | some r =>
    match r.body with
    | [scope, force] =>
      if scope = other then s
      else s.carryOut .reset fun _ => if scope = own then f (force ≠ 0) else refuse .badValue
    | _ => s.carryOut .reset fun _ => refuse .badLength

end Sys2Proof.Machine
end

