-- ==== Sys2Proof/Machine/HealthReturn.lean ====
section
/-! DEFINITION. The meanings of the health requests (section 7.6) and of the ball return's requests and its
timer (chapter 8). -/

namespace Sys2Proof.Machine

/-! ### Health -/

/-- The reply body of GET_HEALTH (R133). -/
def State.healthView (s : State) (l : LaneIx) : HealthView :=
  let h := (s.lane l).health
  { lane := l, pair := pairOf l, policy := h.policy
    attributes := laneAttributes.filterMap fun a => (h.attr a).map fun x => ⟨a, a.cls, x⟩
    sampled := h.sampled, windowCount := h.windowCount, windowJams := h.windowJams, windowMisses := h.windowMisses
    returnTime := (s.pair (pairOf l)).health }

/-- GET_HEALTH (R133). -/
def execGetHealth (agrees : Bool) (lane : Nat) (s : State) : Host.Outcome State Fault Refusal :=
  .next (State.live (State.carryOut .getHealth fun _ => checkLength agrees (checkLane lane fun l s =>
    ⟨s, .ok, .health (s.healthView l)⟩)) s)

/-- An optional value held at a limit, or the value it replaces. -/
def heldOr (limit : Nat) (given : Option Nat) (kept : Nat) : Nat := (given.map (min limit)).getD kept

/-- An optional value stands above its limit. -/
def above (limit : Nat) (given : Option Nat) : Bool := (given.map (fun n => decide (limit < n))).getD false

/-- The lane record with SET_HEALTH's applied values stored, before any test (R132). -/
def LaneHealth.store (f : HealthFields) (h : LaneHealth) : LaneHealth :=
  { h with
    policy := match f.policy with
      | some .report => .report
      | some .remove => .remove
      | some .other => h.policy
      | none => h.policy
    cycleTime := { h.cycleTime with
      value := heldOr 300 f.cycleTimePreload h.cycleTime.value, threshold := heldOr 300 f.cycleTimeThreshold h.cycleTime.threshold }
    sampled := h.sampled || f.cycleTimePreload.isSome
    jamWindow := { h.jamWindow with threshold := heldOr 256 f.jamWindowThreshold h.jamWindow.threshold }
    respotMiss := { h.respotMiss with threshold := heldOr 256 f.respotMissThreshold h.respotMiss.threshold }
    cycles := { h.cycles with
      value := heldOr Config.cyclesMax f.cyclesPreload h.cycles.value
      threshold := heldOr Config.cyclesMax f.cyclesThreshold h.cycles.threshold } }

/-- The pair record with SET_HEALTH's applied values stored, before any test (R132). -/
def PairHealth.store (f : HealthFields) (h : PairHealth) : PairHealth :=
  { returnTime := { h.returnTime with
      value := (f.returnTimePreload.map (·.toNat)).getD h.returnTime.value
      threshold := (f.returnTimeThreshold.map (·.toNat)).getD h.returnTime.threshold }
    sampled := h.sampled || f.returnTimePreload.isSome }

/-- A value of SET_HEALTH was brought into range, or its policy kept (R132). -/
def healthAdjusted (f : HealthFields) : Bool :=
  f.policy = some .other || above 300 f.cycleTimeThreshold || above 300 f.cycleTimePreload || above 256 f.jamWindowThreshold
    || above 256 f.respotMissThreshold || above Config.cyclesMax f.cyclesThreshold || above Config.cyclesMax f.cyclesPreload

/-- The lane attributes whose threshold, value or sampled flag differs between two records (R132). -/
def attributesChanged (h k : LaneHealth) : List Attribute :=
  laneAttributes.filter fun a => h.attr a ≠ k.attr a || (a = .cycleTime && h.sampled ≠ k.sampled)

/-- SET_HEALTH hands a removal order: a PREFAILURE alert raised under REMOVE, or REMOVE set on a lane whose policy
was REPORT while a PREFAILURE attribute stands ALERTED (R131, R132). DEDUCED (log 26). -/
def setOrders (before stored : LaneHealth) : Bool :=
  let attrs := attributesChanged before stored
  ordersRemoval stored.policy (stored.raised attrs)
    || (before.policy = .report && stored.policy = .remove && (stored.testAll attrs).prefailing)

/-- SET_HEALTH on a lane (R132). A sampled flag set by a preload counts as a stored value changed. DEDUCED (log 37). -/
def setHealth (f : HealthFields) (l : LaneIx) (s : State) : Answer :=
  let h := (s.lane l).health
  let r := (s.pair (pairOf l)).health
  let h' := h.store f
  let r' := r.store f
  let tested := (s.testLane l h' (attributesChanged h h')).when (r' ≠ r) (State.testPair (pairOf l) r')
  let ordered := tested.when (setOrders h h') (State.removalOrder l)
  ⟨ordered, settingStatus (healthAdjusted f) (h' ≠ h || r' ≠ r), .health (ordered.healthView l)⟩

/-- SET_HEALTH (R132). -/
def execSetHealth (agrees : Bool) (f : HealthFields) (s : State) : Host.Outcome State Fault Refusal :=
  .next (State.live (State.carryOut .setHealth fun _ => checkLane f.lane fun l => checkLength agrees (setHealth f l)) s)

/-! ### The return -/

/-- The reply body of RETURN_STATUS (R147). -/
def State.returnView (s : State) (p : PairIx) : ReturnView :=
  let t := s.ret p
  { pair := p, outOfReach := t.outOfReach, lift := s.liftState p, order := (s.station p).lift, rack := t.rack
    threshold := t.threshold, timeout := t.timeout, oldest := if t.track.isEmpty then none else some t.oldest
    nextSeq := t.nextSeq, backlog := (s.gate (laneA p)).has .returnBacklog, jam := (s.gate (laneA p)).has .returnJam
    track := t.track.map (s.trackView p) }

/-- The record with RETURN_STATUS's settings applied; a rack count above the new F + 2 is lowered to it
(R147). -/
def ReturnRec.store (threshold timeout : Option Nat) (t : ReturnRec) : ReturnRec :=
  let f := (threshold.map (hold 4 12)).getD t.threshold
  { t with threshold := f, timeout := (timeout.map (hold 5 60)).getD t.timeout, rack := min (f + Config.rackSpare) t.rack }

/-- A setting of RETURN_STATUS was brought into range (R147). -/
def returnAdjusted (threshold timeout : Option Nat) : Bool :=
  threshold.map (hold 4 12) ≠ threshold || timeout.map (hold 5 60) ≠ timeout

/-- RETURN_STATUS on a fitted pair (R147). -/
def returnStatus (threshold timeout : Option Nat) (p : PairIx) (s : State) : Answer :=
  if threshold.isNone && timeout.isNone then ⟨s, .ok, .ballReturn (s.returnView p)⟩
  else
    let t := s.ret p
    let t' := t.store threshold timeout
    let set := (s.modReturn p fun _ => t').when (t'.threshold ≠ t.threshold) (State.pauseTest p)
    ⟨set, storedStatus (returnAdjusted threshold timeout) (t'.threshold ≠ t.threshold || t'.timeout ≠ t.timeout),
      .ballReturn (set.returnView p)⟩

/-- RETURN_STATUS (R147). -/
def execReturnStatus (agrees : Bool) (pair : Nat) (threshold timeout : Option Nat) (s : State) : Host.Outcome State Fault Refusal :=
  .next (State.live (State.carryOut .returnStatus fun _ => checkPair pair fun p =>
    checkLength agrees (returnStatus threshold timeout p)) s)

/-- CLEAR_RETURN_JAM on a fitted pair (R144). -/
def clearReturnJam (balls : Nat) (p : PairIx) (s : State) : Answer :=
  if (s.station p).state = .lost || (s.station p).state = .resetting then refuse .machineBusy s
  else if s.liftState p ≠ .jammed then refuse .wrongState s
  else
    let rack := min (s.ret p).rackMax balls
    let t := s.clearJamOfReturn p rack
    ⟨t, adjustedOr (rack ≠ balls) .ok, .returnCleared p (s.writtenOff p) rack (t.liftState p) (t.station p).lift⟩

/-- CLEAR_RETURN_JAM (R144). -/
def execClearReturnJam (agrees : Bool) (pair balls : Nat) (s : State) : Host.Outcome State Fault Refusal :=
  .next (State.live (State.carryOut .clearReturnJam fun _ => checkPair pair fun p =>
    checkLength agrees (clearReturnJam balls p)) s)

/-- OLDEST_ENTRY_EXPIRY, where the second event made it due (R143). -/
def execOldestEntryExpiry (p : PairIx) (s : State) : Host.Outcome State Fault Refusal := .next (if s.held then s else s.dueOldest p)

end Sys2Proof.Machine
end

