-- ==== Sys2Proof/Machine/Layouts.lean ====
section
/-! DEFINITION. The codes of R185 and the byte layouts of R186 to R189: the frame envelope, the LINK_FAULT
frame, and the bodies of BALL_RESULT, GET_GAME and GET_ACCOUNT. The manual lays out these records alone. -/

namespace Sys2Proof.Machine

/-! ### Codes (R185, R186) -/

/-- The report codes (R185). -/
def Report.code : Report → Byte
  | .machineJam .. => 0x40
  | .stationLost .. => 0x41
  | .returnJam .. => 0x42
  | .trackOverflow .. => 0x43
  | .rackOverflow .. => 0x44
  | .healthAlert .. => 0x45
  | .deskLost .. => 0x46
  | .ballResult .. => 0x50
  | .turnUp .. => 0x51
  | .gameDone .. => 0x52
  | .teamGameDone .. => 0x53
  | .gameCorrected .. => 0x54
  | .scoreCheck .. => 0x55
  | .pairModeChanged .. => 0x56
  | .allowanceWarning .. => 0x60
  | .allowanceOut .. => 0x61
  | .accountSaturated .. => 0x62
  | .sessionEnded .. => 0x63
  | .machineState .. => 0x70
  | .strayBall .. => 0x71
  | .lateFoul .. => 0x72
  | .respotMiss .. => 0x73
  | .unexpectedBall .. => 0x74
  | .unaccounted .. => 0x75
  | .bandChange .. => 0x76
  | .stationBack .. => 0x77
  | .deskBack .. => 0x78
  | .powerUp .. => 0x79
  | .resetLine .. => 0x7A

/-- The statuses of R185. -/
def Status.code : Status → Byte
  | .ok => 0x00
  | .noChange => 0x01
  | .adjusted => 0x02
  | .unknownKind => 0x10
  | .badLength => 0x11
  | .badLane => 0x12
  | .badValue => 0x13
  | .notConfigured => 0x14
  | .sessionOpen => 0x15
  | .noSession => 0x16
  | .frameOpen => 0x17
  | .machineBusy => 0x18
  | .wrongState => 0x19
  | .certified => 0x1A
  | .gameUnknown => 0x1B
  | .rosterFull => 0x1C
  | .notFitted => 0x1D
  | .checkOpen => 0x1E
  | .notFinished => 0x1F

/-- The cause codes of a LINK_FAULT (R171, R172). -/
def FaultCause.code : FaultCause → Byte
  | .byte => 0x01
  | .gap => 0x02
  | .length => 0x03
  | .check => 0x04
  | .overrun => 0x05

/-- The codes of the session states (R186). -/
def SessionState.code : SessionState → Nat
  | .closed => 0
  | .open_ => 1
  | .seriesDone => 2

/-- The codes of the billing modes (R186). -/
def BillingMode.code : BillingMode → Nat
  | .free => 1
  | .perGame => 2
  | .perTime => 3
  | .prepaidTime => 4
  | .prepaidGames => 5
  | .league => 6

/-- The codes of the bowler states (R186). -/
def BowlerState.code : BowlerState → Nat
  | .active => 1
  | .waiting => 2
  | .blind => 3
  | .withdrawn => 4

/-- The codes of the game states (R186). -/
def GameState.code : GameState → Nat
  | .inProgress => 1
  | .finished => 2
  | .blind => 3
  | .withdrawn => 4
  | .certified => 5

/-- The codes of the marks (R186). -/
def Mark.code : Mark → Nat
  | .noBall => 0
  | .incomplete => 1
  | .strike => 2
  | .spare => 3
  | .open_ => 4

/-- The codes of the check flags (R186). -/
def CheckFlag.code : CheckFlag → Nat
  | .clear => 0
  | .open_ => 1
  | .acknowledged => 2

/-! ### Fields (R186) -/

/-- One byte. -/
def one (n : Nat) : List Byte := [BitVec.ofNat 8 n]

/-- Two bytes, most significant first. -/
def two (n : Nat) : List Byte := one (n / 256) ++ one n

/-- Four bytes, most significant first. -/
def four (n : Nat) : List Byte := two (n / 65536) ++ two n

/-- The number of two bytes, most significant first. -/
def ofTwo (hi lo : Byte) : Nat := hi.toNat * 256 + lo.toNat

/-- The value of an absent pin set or total. -/
def absentTwo : Nat := 0xFFFF

/-- A pin set of two bytes: bit n - 1 stands for pin n, and 0xFFFF for an absent set. -/
def setBytes : Option PinSet → List Byte
  | none => two absentTwo
  | some set => two set.toNat

/-- A name of 12 bytes, the stored characters followed by zeros. -/
def nameBytes (name : List Byte) : List Byte := name.take Config.nameMax ++ List.replicate (Config.nameMax - name.length) 0

/-- A ball byte: pinfall, foul flag, split flag and check flag. -/
def ballByte (pinfall : Nat) (foul split : Bool) (check : CheckFlag) : List Byte :=
  one (pinfall + 16 * foul.toNat + 32 * split.toNat + 64 * check.code)

/-! ### Frames (R170, R172, R186) -/

/-- The CHECK that makes the sum of a frame 0. -/
def checkByte (kind tag : Byte) (body : List Byte) : Byte := 0 - frameSum kind tag body 0

/-- A frame as it is sent. -/
def frameBytes (kind tag : Byte) (body : List Byte) : List Byte :=
  [Config.startByte] ++ one (body.length + 2) ++ [kind, tag] ++ body ++ [checkByte kind tag body]

/-- The KIND of a LINK_FAULT frame (R172). -/
def faultKind : Byte := 0xFF

/-- A LINK_FAULT frame (R172). -/
def LinkFault.bytes (f : LinkFault) : List Byte := frameBytes faultKind f.tag [f.cause.code]

/-! ### Bodies (R187 to R189) -/

/-- An entry of BALL_RESULT's resolved list. -/
def Resolved.bytes (r : Resolved) : List Byte := one r.frame ++ one r.score ++ two r.cumulative

/-- The BALL_RESULT body (R187). -/
def BallResult.bytes (r : BallResult) : List Byte :=
  one (laneNumber r.lane) ++ one (laneNumber r.home) ++ one r.slot ++ one r.game ++ one r.frame ++ one r.ball
    ++ ballByte r.pinfall r.foul r.split r.check ++ setBytes (some r.after) ++ one r.mark.code ++ one r.frameOver.toNat
    ++ one r.resolved.length ++ r.resolved.flatMap Resolved.bytes

/-- A ball block of GET_GAME (R188). -/
def Ball.bytes (b : Ball) : List Byte :=
  ballByte b.pinfall b.foul b.split b.check ++ one (b.reads.getD 0) ++ setBytes b.before ++ setBytes b.after

/-- A frame block of GET_GAME with its balls (R188). -/
def Frame.bytes (f : Frame) : List Byte :=
  one (f.balls.length + 4 * f.mark.code + 32 * f.corrected.toNat + 64 * f.score.isSome.toNat + 128 * f.cumulative.isSome.toNat)
    ++ one ((f.lane.map laneNumber).getD 0) ++ one (f.score.getD 0) ++ two (f.cumulative.getD 0) ++ f.balls.flatMap Ball.bytes

/-- The GET_GAME reply body, with its status (R188). -/
def GameView.bytes (st : Status) (v : GameView) : List Byte :=
  [st.code] ++ one (laneNumber v.home) ++ one v.slot ++ nameBytes v.name ++ one v.bowler.code ++ one v.game.number
    ++ one v.game.state.code ++ one ((v.game.certifiedFrom.map GameState.code).getD 0) ++ one (laneNumber v.game.startLane)
    ++ two v.game.handicap ++ two (v.game.blindScore.getD absentTwo) ++ two (v.scratch.getD absentTwo) ++ two v.soFar
    ++ two v.total ++ v.game.frames.toList.flatMap Frame.bytes

/-- The flag byte of GET_ACCOUNT (R189). -/
def AccountView.flags (v : AccountView) : Nat :=
  v.account.warned.toNat + 2 * v.account.allowanceOut.toNat + 4 * v.account.saturated.toNat + 8 * v.account.isFinal.toNat
    + 16 * v.account.closeTime.isSome.toNat + 32 * v.band.isSome.toNat + 64 * v.billingHeld.toNat

/-- The close time of GET_ACCOUNT (R189). -/
def closeBytes : Option DateTime → List Byte
  | none => List.replicate 7 0
  | some t => two t.year ++ one t.month ++ one t.day ++ one t.hour ++ one t.minute ++ one t.second

/-- The GET_ACCOUNT reply body, with its status (R189). -/
def AccountView.bytes (st : Status) (v : AccountView) : List Byte :=
  [st.code] ++ one (laneNumber v.account.lane) ++ one v.session.code ++ one v.account.mode.code ++ two v.account.allowance
    ++ two v.account.leagueFee ++ two v.account.used ++ four v.account.sessionSeconds ++ four v.account.playSeconds
    ++ four v.account.downSeconds ++ two v.account.episode ++ four v.account.accrued ++ one v.account.carry
    ++ two v.account.gamesCharged ++ one v.account.feeCount ++ one v.flags ++ closeBytes v.account.closeTime
    ++ two ((v.band.map (·.hourRate)).getD 0) ++ two ((v.band.map (·.gameRate)).getD 0)

/-- The frame a reply is sent as, where the manual lays its body out (R170, R186). -/
def Reply.bytes (r : Reply) : Option (List Byte) :=
  match r.body with
  | .bare => some (frameBytes r.kind r.tag [r.status.code])
  | .game v => some (frameBytes r.kind r.tag (v.bytes r.status))
  | .account v => some (frameBytes r.kind r.tag (v.bytes r.status))
  | _ => none

/-- The frame on the line, where the manual lays its body out (R170, R172, R186); a report's TAG is 0. -/
def TxFrame.bytes : TxFrame → Option (List Byte)
  | .reply r => r.bytes
  | .fault f => some f.bytes
  | .report (.ballResult r) => some (frameBytes 0x50 0 r.bytes)
  | .report _ => none

end Sys2Proof.Machine
end

