-- ==== Sys2Proof/Machine/LinkFrames.lean ====
section
/-! DEFINITION. The meanings of the desk link's steps: frames and faults received, the transmit line, desk
silence, and the requests that concern the link itself. -/

namespace Sys2Proof.Machine

/-- FRAME_RECEIVED: the frame that START began, taken whole from RXD (R170, R171, R173, R181). -/
def execFrameReceived (kind tag : Byte) (body : List Byte) (check : Byte) (s : State) : Host.Outcome State Fault Refusal :=
  .next (State.live (State.receive kind tag body check) s)

/-- BYTE_FAULT: a byte with a bad stop bit (R171). -/
def execByteFault (place : FaultPlace) (s : State) : Host.Outcome State Fault Refusal :=
  .next (State.live (State.badByte place) s)

/-- LENGTH_FAULT: a LEN below 2 or above 242 in FRAME, with TAG 0 (R171). -/
def execLengthFault (len : Byte) (s : State) : Host.Outcome State Fault Refusal :=
  .next (State.live (fun s => if 2 ≤ len.toNat ∧ len.toNat ≤ 242 then s else s.badLength) s)

/-- GAP_FAULT: more than 10 ms between two bytes of a frame (R171). -/
def execGapFault (tag : Option Byte) (s : State) : Host.Outcome State Fault Refusal :=
  .next (State.live (State.gap tag) s)

/-- HUNT_START_BYTE: a good byte taken outside a frame (R171). -/
def execHuntStartByte (byte : Byte) (s : State) : Host.Outcome State Fault Refusal := .next (State.live (State.huntByte byte) s)

/-- TRANSMIT_FRAME_START: the next frame begun on a free line (R175). -/
def execTransmitFrameStart (s : State) : Host.Outcome State Fault Refusal := .next (State.live (State.modLink Link.send) s)

/-- TRANSMIT_FRAME_END: the last byte of a frame leaves TXD (R173). -/
def execTransmitFrameEnd (s : State) : Host.Outcome State Fault Refusal := .next (State.live (State.modLink Link.sent) s)

/-- The oldest request refused UNKNOWN_KIND where its KIND is not in the request table (R174). -/
def State.refuseUnknown (s : State) : State :=
  match s.link.nextRequest with
  | none => s
  | some r => if knownKind r.kind then s else s.modLink (Link.place ⟨unknownReplyKind, r.tag, .unknownKind, .bare⟩)

/-- UNKNOWN_KIND: an accepted request of no known kind is refused (R174). -/
def execUnknownKind (s : State) : Host.Outcome State Fault Refusal := .next (State.live State.refuseUnknown s)

/-- PING (R179). -/
def execPing (s : State) : Host.Outcome State Fault Refusal :=
  .next (State.live (State.carryOut .ping fun body => checkLength body.isEmpty fun s =>
    ⟨s, .ok, .identity Config.familyCode Config.partNumber Config.revision s.link.rate⟩) s)

/-- STATUS: the link status read and then cleared (R178). -/
def execStatus (s : State) : Host.Outcome State Fault Refusal :=
  .next (State.live (State.carryOut .status fun body => checkLength body.isEmpty fun s =>
    ⟨s.modLink Link.clearStatus, .ok, .link s.linkStatus⟩) s)

/-- PEEK: the link status read (R178). -/
def execPeek (s : State) : Host.Outcome State Fault Refusal :=
  .next (State.live (State.carryOut .peek fun body => checkLength body.isEmpty fun s => ⟨s, .ok, .link s.linkStatus⟩) s)

/-- The desk timeout SET_LINK stores (R179). -/
def timeoutApplied (n : Nat) : Nat := if n = 0 then 0 else hold 5 600 n

/-- The desk timeout stored, and its status (R179). -/
def setTimeout (n : Nat) (s : State) : Answer :=
  let applied := timeoutApplied n
  ⟨s.modLink fun k => { k with timeout := applied },
    adjustedOr (applied ≠ n) (if n = s.link.timeout then .noChange else .ok), .deskTimeout applied⟩

/-- SET_LINK: the desk timeout, two bytes, most significant first (R179, R186). -/
def execSetLink (s : State) : Host.Outcome State Fault Refusal :=
  .next (State.live (State.carryOut .setLink fun body =>
    match body with
    | [hi, lo] => setTimeout (ofTwo hi lo)
    | _ => refuse .badLength) s)

/-- GET_LINK (R179). -/
def execGetLink (s : State) : Host.Outcome State Fault Refusal :=
  .next (State.live (State.carryOut .getLink fun body => checkLength body.isEmpty fun s =>
    ⟨s, .ok, .linkSettings s.link.timeout s.link.rate s.link.silence⟩) s)

/-- DESK_SILENCE_EXPIRY: the desk-lost state entered where the second event made it due (R181). -/
def execDeskSilenceExpiry (s : State) : Host.Outcome State Fault Refusal := .next (if s.held then s else s.dueSilence)

end Sys2Proof.Machine
end

