-- ==== Sys2Proof/Machine/Machines.lean ====
section
/-! DEFINITION. The meanings of the machine requests and timers (chapter 6): power, jams, service, the
machine settings, and the expiries of a lane's timers. -/

namespace Sys2Proof.Machine

/-- The refusal of a machine request while the pair's station is RESETTING (R112, R116, R117). -/
def checkStation (k : LaneIx → State → Answer) (l : LaneIx) (s : State) : Answer :=
  if (s.station (pairOf l)).state = .resetting then refuse .machineBusy s else k l s

/-- The refusal of a value the request does not name (R116, R117). -/
def checkValid (valid : Bool) (k : LaneIx → State → Answer) (l : LaneIx) (s : State) : Answer :=
  if valid then k l s else refuse .badValue s

/-! ### Power -/

/-- A reply of MACHINE_POWER (R116). -/
def State.powerReply (s : State) (l : LaneIx) : ReplyBody :=
  .power l (s.machine l).state (s.powerOrder l) (s.machine l).powerOffPending

/-- The power-off pending of lane l set or cleared. -/
def State.pendPowerOff (pend : Bool) (l : LaneIx) (s : State) : State :=
  s.modMachine l fun m => { m with powerOffPending := pend }

/-- An answer with the power reply of the state it leaves. -/
def powerAnswer (st : Status) (l : LaneIx) (s : State) : Answer := ⟨s, st, s.powerReply l⟩

/-- MACHINE_POWER on (R116). -/
def powerOn (l : LaneIx) (s : State) : Answer :=
  match (s.machine l).state with
  | .poweredDown | .standby => powerAnswer .ok l ((s.pendPowerOff false l).wake l)
  | .outOfService | .linkLost => refuse .wrongState s
  | .waking | .deckEmpty | .waiting | .ready | .ballDown | .reading | .cycling | .jammed =>
    if (s.machine l).powerOffPending then powerAnswer .ok l (s.pendPowerOff false l) else powerAnswer .noChange l s

/-- MACHINE_POWER off (R116). -/
def powerOff (l : LaneIx) (s : State) : Answer :=
  match (s.machine l).state with
  | .ballDown | .reading | .cycling | .linkLost | .jammed => refuse .wrongState s
  | .poweredDown | .standby | .outOfService => powerAnswer .noChange l s
  | .waking | .deckEmpty | .waiting | .ready =>
    if (s.lane l).session.running then refuse .sessionOpen s
    else if (s.machine l).powerOffPending then powerAnswer .noChange l s
    else if s.minOnElapsed l then powerAnswer .ok l (s.powerDown l)
    else powerAnswer .ok l (s.pendPowerOff true l)

/-- MACHINE_POWER_ON (R116). -/
def execMachinePowerOn (agrees : Bool) (lane : Nat) (valid : Bool) (s : State) : Host.Outcome State Fault Refusal :=
  .next (State.live (State.carryOut .machinePower fun _ =>
    checkLength agrees (checkLane lane (checkValid valid (checkStation powerOn)))) s)

/-- MACHINE_POWER_OFF (R116). -/
def execMachinePowerOff (agrees : Bool) (lane : Nat) (valid : Bool) (s : State) : Host.Outcome State Fault Refusal :=
  .next (State.live (State.carryOut .machinePower fun _ =>
    checkLength agrees (checkLane lane (checkValid valid (checkStation powerOff)))) s)

/-! ### CLEAR_JAM -/

/-- CLEAR_JAM on a lane (R112). -/
def clearJam (l : LaneIx) (s : State) : Answer :=
  if (s.machine l).state = .jammed then
    let t := s.startCycle l .recover
    ⟨t, .ok, .jam l (t.machine l).state ((t.machine l).pendingCycle.map (·.cycle))⟩
  else refuse .wrongState s

/-- CLEAR_JAM (R112). -/
def execClearJam (agrees : Bool) (lane : Nat) (s : State) : Host.Outcome State Fault Refusal :=
  .next (State.live (State.carryOut .clearJam fun _ => checkLength agrees (checkLane lane (checkStation clearJam))) s)

/-! ### Service -/

/-- A reply of SERVICE (R117). -/
def serviceAnswer (st : Status) (l : LaneIx) (s : State) : Answer :=
  ⟨s, st, .service l (s.machine l).service (s.machine l).state (s.machine l).removal⟩

/-- SERVICE OUT (R117). -/
def takeOut (l : LaneIx) (s : State) : Answer :=
  if (s.machine l).service = .out then serviceAnswer .noChange l s
  else
    let out := s.modMachine l fun m => { m with service := .out }
    serviceAnswer .ok l <|
      match (s.machine l).state with
      | .poweredDown | .deckEmpty | .waiting | .ready | .standby | .jammed | .waking => out.serviceOut l
      | .ballDown | .reading | .cycling => out.modMachine l fun m => { m with removal := .desk }
      | .linkLost | .outOfService => out

/-- SERVICE IN (R117). -/
def bringIn (l : LaneIx) (s : State) : Answer :=
  if (s.machine l).service = .in_ then serviceAnswer .noChange l s
  else
    let back := s.modMachine l fun m => { m with service := .in_, removal := .unordered }
    serviceAnswer .ok l <|
      if (s.machine l).state = .outOfService then (back.enter l .poweredDown).wakeForHead l else back

/-- SERVICE_OUT (R117). -/
def execServiceOut (agrees : Bool) (lane : Nat) (valid : Bool) (s : State) : Host.Outcome State Fault Refusal :=
  .next (State.live (State.carryOut .service fun _ =>
    checkLength agrees (checkLane lane (checkValid valid (checkStation takeOut)))) s)

/-- SERVICE_IN (R117). -/
def execServiceIn (agrees : Bool) (lane : Nat) (valid : Bool) (s : State) : Host.Outcome State Fault Refusal :=
  .next (State.live (State.carryOut .service fun _ =>
    checkLength agrees (checkLane lane (checkValid valid (checkStation bringIn)))) s)

/-! ### SET_MACHINE -/

/-- The settings of SET_MACHINE as carried. -/
def settingsGiven (f : MachineFields) : MachineSettings :=
  { settle := f.settle, cycleTimeout := f.cycleTimeout, warmUp := f.warmUp, minOnTime := f.minOnTime, standbyCode := f.standbyCode }

/-- The settings SET_MACHINE applies (R122). -/
def settingsApplied (f : MachineFields) : MachineSettings :=
  { settle := hold 10 40 f.settle, cycleTimeout := hold 50 300 f.cycleTimeout, warmUp := hold 30 300 f.warmUp
    minOnTime := hold 0 600 f.minOnTime, standbyCode := hold 0 240 f.standbyCode }

/-- SET_MACHINE on a fitted pair (R122). -/
def setMachine (f : MachineFields) (p : PairIx) (s : State) : Answer :=
  let applied := settingsApplied f
  let stored := s.modPair p fun x => { x with settings := applied }
  ⟨stored, settingStatus (applied ≠ settingsGiven f) (applied ≠ (s.pair p).settings), .machine applied (stored.settleInForce p)⟩

/-- SET_MACHINE (R122). -/
def execSetMachine (agrees : Bool) (f : MachineFields) (s : State) : Host.Outcome State Fault Refusal :=
  .next (State.live (State.carryOut .setMachine fun _ => checkLength agrees (checkPair f.pair (setMachine f))) s)

/-! ### Timers -/

/-- IDLE_TIMER_EXPIRY, where the second event made it due (R113). -/
def execIdleTimerExpiry (l : LaneIx) (s : State) : Host.Outcome State Fault Refusal := .next (if s.held then s else s.dueIdle l)

/-- ON_TIME_ELAPSED, where the second event made it due (R115). -/
def execOnTimeElapsed (l : LaneIx) (s : State) : Host.Outcome State Fault Refusal := .next (if s.held then s else s.dueOnTime l)

/-- SETTLE_EXPIRY (R104). -/
def execSettleExpiry (l : LaneIx) (s : State) : Host.Outcome State Fault Refusal := .next (State.live (State.settleOut l) s)

/-- REREAD_SETTLE_EXPIRY (R104). -/
def execRereadSettleExpiry (l : LaneIx) (s : State) : Host.Outcome State Fault Refusal := .next (State.live (State.rereadOut l) s)

/-- READ_TIMEOUT (R105). -/
def execReadTimeout (l : LaneIx) (s : State) : Host.Outcome State Fault Refusal := .next (State.live (State.readOut l) s)

/-- CYCLE_TIMEOUT (R111). -/
def execCycleTimeout (l : LaneIx) (s : State) : Host.Outcome State Fault Refusal := .next (State.live (State.cycleOut l) s)

/-- WARM_UP_EXPIRY (R114). -/
def execWarmUpExpiry (l : LaneIx) (s : State) : Host.Outcome State Fault Refusal := .next (State.live (State.warmUpOut l) s)

end Sys2Proof.Machine
end

