-- ==== Sys2Proof/Machine/Metering.lean ====
section
/-! DEFINITION. The meanings of the Billing Meter's steps and requests: the second and minute events, the
play minutes, the clock, the tariffs, the billing settings, and the account requests. -/

namespace Sys2Proof.Machine

/-! ### Seconds and minutes -/

/-- SECOND_EVENT: the clock advances and the counts of the four blocks; while RESET_N is LOW the clock alone
runs (R149, R150). -/
def execSecondEvent (s : State) : Host.Outcome State Fault Refusal := .next (if s.held then s.toSecond else s.drain.second)

/-- MINUTE_EVENT: the minute part of the second event just taken (R155). -/
def execMinuteEvent (s : State) : Host.Outcome State Fault Refusal := .next (if s.held then s else s.dueMinute)

/-- PLAY_MINUTE: lane l's play minute completed by the second event just taken (R161). The minute part comes
first (R150). -/
def execPlayMinute (l : LaneIx) (s : State) : Host.Outcome State Fault Refusal :=
  .next (if s.held then s else s.dueMinute.duePlay l)

/-- PREPAID_MINUTE: lane l's prepaid or overtime minute completed by the second event just taken (R162). -/
def execPrepaidMinute (l : LaneIx) (s : State) : Host.Outcome State Fault Refusal :=
  .next (if s.held then s else s.dueMinute.duePrepaid l)

/-! ### The clock -/

/-- The date and time of SET_CLOCK's fields. -/
def clockOf (f : ClockFields) : DateTime :=
  { year := f.year, month := f.month, day := f.day, hour := f.hour, minute := f.minute, second := f.second }

/-- The clock written, the valid flag set and the crystal count of the second restarted (R151). -/
def State.setClock (t : DateTime) (s : State) : State := { s with clock := t, clockValid := true, sinceSecond := 0 }

/-- SET_CLOCK (R151). -/
def execSetClock (agrees : Bool) (f : ClockFields) (s : State) : Host.Outcome State Fault Refusal :=
  .next (State.live (State.carryOut .setClock fun _ => checkLength agrees fun s =>
    if clockInRange f then ⟨s.setClock (clockOf f), .ok, .clock (s.setClock (clockOf f)).clockView⟩ else refuse .badValue s) s)

/-- GET_CLOCK (R152). -/
def execGetClock (s : State) : Host.Outcome State Fault Refusal :=
  .next (State.live (State.carryOut .getClock fun body => checkLength body.isEmpty fun s => ⟨s, .ok, .clock s.clockView⟩) s)

/-! ### Tariffs -/

/-- A band as the request carries it. -/
def bandGiven (b : BandField) : Band := { start := b.start, gameRate := b.gameRate.toNat, hourRate := b.hourRate.toNat }

/-- A band inserted before the first of greater or equal start. -/
def insertBand (b : Band) : List Band → List Band
  | [] => [b]
  | c :: cs => if b.start ≤ c.start then b :: c :: cs else c :: insertBand b cs

/-- Bands in ascending order of start; bands of equal start keep their order (R154 step 2). -/
def sortBands : List Band → List Band
  | [] => []
  | b :: bs => insertBand b (sortBands bs)

/-- Of adjacent bands with equal start the last is kept (R154 step 3). -/
def keepLater : List Band → List Band
  | [] => []
  | [b] => [b]
  | b :: c :: cs => if b.start = c.start then keepLater (c :: cs) else b :: keepLater (c :: cs)

/-- The first band's start at minute 0 (R154 step 4). -/
def startAtZero : List Band → List Band
  | [] => []
  | b :: bs => { b with start := 0 } :: bs

/-- A list converted into a table's list (R154). -/
def convertBands (bs : List Band) : List Band :=
  startAtZero (keepLater (sortBands (bs.map fun b => { b with start := min 1439 b.start })))

/-- A list of 1 to 8 bands (R154). -/
def bandsFit (bs : List BandField) : Bool := 1 ≤ bs.length && bs.length ≤ 8

/-- The converted table made pending, or none left pending where it equals the installed one (R154). -/
def installTariff (weekday weekend : List Band) (s : State) : Answer :=
  let table : Tariff := { weekday := convertBands weekday, weekend := convertBands weekend }
  let adjusted := table.weekday ≠ weekday || table.weekend ≠ weekend
  if s.meter.installed = some table then
    ⟨{ s with meter := { s.meter with pendingTable := none } }, adjustedOr adjusted .noChange, .tariff table⟩
  else ⟨{ s with meter := { s.meter with pendingTable := some table } }, adjustedOr adjusted .ok, .tariff table⟩

/-- SET_TARIFF (R154). -/
def execSetTariff (agrees : Bool) (weekday weekend : List BandField) (s : State) : Host.Outcome State Fault Refusal :=
  .next (State.live (State.carryOut .setTariff fun _ =>
    checkLength (agrees && bandsFit weekday && bandsFit weekend) (installTariff (weekday.map bandGiven) (weekend.map bandGiven))) s)

/-- GET_TARIFF (R156). -/
def execGetTariff (s : State) : Host.Outcome State Fault Refusal :=
  .next (State.live (State.carryOut .getTariff fun body => checkLength body.isEmpty fun s =>
    ⟨s, .ok, .tariffs s.meter.installed s.meter.pendingTable s.meter.settings.mask⟩) s)

/-! ### Billing settings -/

/-- The settings SET_BILLING applies: each value held in its range, and a day class that is none kept
(R157). -/
def billingApplied (f : BillingFields) (b : BillingSettings) : BillingSettings :=
  { grace := min 300 f.grace, partialThreshold := hold 1 60 f.partialThreshold, minCharge := min 999999 f.minCharge
    warningLead := min 30 f.warningLead
    mask := Vector.zipWith (fun (given : Option DayClass) kept => given.getD kept) f.mask b.mask }

/-- A value of SET_BILLING was brought into range or kept (R157). -/
def billingAdjusted (f : BillingFields) : Bool :=
  300 < f.grace || f.partialThreshold = 0 || 60 < f.partialThreshold || 999999 < f.minCharge || 30 < f.warningLead
    || f.mask.toList.any Option.isNone

/-- SET_BILLING (R157). -/
def execSetBilling (agrees : Bool) (f : BillingFields) (s : State) : Host.Outcome State Fault Refusal :=
  .next (State.live (State.carryOut .setBilling fun _ => checkLength agrees fun s =>
    let applied := billingApplied f s.meter.settings
    ⟨{ s with meter := { s.meter with settings := applied } },
      storedStatus (billingAdjusted f) (applied ≠ s.meter.settings), .billing applied⟩) s)

/-! ### Accounts -/

/-- The account of a lane as GET_ACCOUNT reads it (R168). -/
def State.accountView (s : State) (l : LaneIx) (a : Account) : AccountView :=
  { account := { a with entries := [] }, session := (s.lane l).session, band := s.bandInForce.map (·.band)
    billingHeld := (s.gate l).has .billing }

/-- A reply with the account of a lane (R165, R168). -/
def State.accountReply (s : State) (l : LaneIx) : ReplyBody :=
  match (s.lane l).account with
  | none => .bare
  | some a => .account (s.accountView l a)

/-- GET_ACCOUNT (R168). -/
def execGetAccount (agrees : Bool) (lane : Nat) (s : State) : Host.Outcome State Fault Refusal :=
  .next (State.live (State.carryOut .getAccount fun _ => checkLength agrees (checkLane lane fun l s =>
    if (s.lane l).session = .closed && !(s.lane l).lastRoster then refuse .noSession s
    else ⟨s, .ok, s.accountReply l⟩)) s)

/-- The limit of an allowance by its mode, for the modes that have one (R165). -/
def allowanceLimit : BillingMode → Option Nat
  | .prepaidTime => some 999
  | .prepaidGames => some 99
  | .free | .perGame | .perTime | .league => none

/-- The account after a rise of its allowance to n (R165 steps 1 and 2). -/
def Account.credit (n lead : Nat) (a : Account) : Account :=
  { a with
    allowance := n
    allowanceOut := a.allowanceOut && !(decide (a.used < n))
    warned := a.warned && !(a.mode = .prepaidTime && a.used < n - lead) }

/-- ADD_CREDIT carried out on a lane whose session stands (R165). -/
def addCredit (amount : Nat) (l : LaneIx) (s : State) : Answer :=
  match (s.lane l).account with
  | none => refuse .noSession s
  | some a =>
    match allowanceLimit a.mode with
    | none => refuse .wrongState s
    | some limit =>
      if amount = 0 || limit ≤ a.allowance then ⟨s, .noChange, s.accountReply l⟩
      else
        let raised := (s.modAccount l (Account.credit (min limit (a.allowance + amount)) s.meter.settings.warningLead)).evaluateAccount l
        ⟨raised, adjustedOr (limit < a.allowance + amount) .ok, raised.accountReply l⟩

/-- ADD_CREDIT (R165). -/
def execAddCredit (agrees : Bool) (lane amount : Nat) (s : State) : Host.Outcome State Fault Refusal :=
  .next (State.live (State.carryOut .addCredit fun _ => checkLane lane fun l => checkLength agrees fun s =>
    if (s.lane l).session.running then addCredit amount l s else refuse .noSession s) s)

end Sys2Proof.Machine
end

