-- ==== Sys2Proof/Machine/Sessions.lean ====
section
/-! DEFINITION. The meanings of the session requests (chapter 1): opening and closing a session, holding and
releasing a lane, and LANE_STATUS. -/

namespace Sys2Proof.Machine

/-! ### OPEN_SESSION -/

/-- The settings OPEN_SESSION applies (R5). -/
def appliedSettings (f : OpenFields) (mode : BillingMode) : SessionSettings :=
  { mode := some mode
    allowance := match mode with
      | .prepaidTime => hold 1 999 f.allowance
      | .prepaidGames => hold 1 99 f.allowance
      | .free | .perGame | .perTime | .league => 0
    gamesPlanned := min 9 f.gamesPlanned
    leagueFee := if mode = .league then f.leagueFee.toNat else 0
    scores := { basis := hold300 f.basis, percent := min 100 f.percent, cap := hold300 f.cap, penalty := min 100 f.penalty } }

/-- A roster entry as stored (R5). -/
def appliedEntry (r : RosterField) : SlotView :=
  { name := storedName r.name, average := hold300 r.average, fixed := r.fixed.map hold300 }

/-- A roster entry was brought into range (R5). -/
def entryAdjusted (r : RosterField) : Bool := appliedEntry r ≠ ⟨r.name, r.average, r.fixed⟩

/-- Some field of OPEN_SESSION was brought into range; an allowance or a league fee that the mode does not
read is no change (R5). -/
def openAdjusted (f : OpenFields) (mode : BillingMode) : Bool :=
  let a := appliedSettings f mode
  ((mode = .prepaidTime || mode = .prepaidGames) && a.allowance ≠ f.allowance) || a.gamesPlanned ≠ f.gamesPlanned
    || a.scores ≠ ⟨f.basis, f.percent, f.cap, f.penalty⟩ || f.roster.any entryAdjusted

/-- A bowler as a roster entry makes it, ACTIVE, with its applied average its stored one (R6, R62, R66). -/
def bowlerOf (v : SlotView) : Bowler :=
  { name := v.name, average := v.average, applied := v.average, fixed := v.fixed, state := .active, removedThrough := 0, games := [] }

/-- The clock and the tariffs that a mode needs (R4). -/
def State.configured (s : State) (mode : BillingMode) : Bool := !mode.needsTariff || (s.clockValid && s.meter.installed.isSome)

/-- Steps 1 to 5 of R6 with the settings and the roster applied, and the hand-offs of the head after them. -/
def State.openLane (l : LaneIx) (c : SessionSettings) (mode : BillingMode) (roster : List SlotView) (s : State) : State :=
  let cleared := s.modLane l fun x =>
    { x with gamesPlanned := c.gamesPlanned, lastRoster := false, game := 1, startLane := l, boundary := .unmarked
             settings := c.scores, roster := [], machine := { x.machine with powerOffPending := false } }
  let opened := (cleared.setSession l .open_).clearReason .noSession l
  let bowlers := (roster.map bowlerOf).map (Bowler.startGame c.scores 1 l)
  let rostered := opened.modLane l fun x => { x with roster := bowlers }
  let queued := (rostered.setQueue l ((rostered.lane l).queue ++ frameOneTurns l bowlers 1)).reportHead l
  (queued.modLane l fun x =>
    { x with account := some (Account.opened l mode c.allowance c.leagueFee roster.length) }).handHead l

/-- OPEN_SESSION on a lane that may be opened (R4, R5, R6). -/
def openSession (agrees : Bool) (f : OpenFields) (l : LaneIx) (s : State) : Answer :=
  if (s.lane l).session.running then refuse .sessionOpen s
  else if f.roster.length = 0 || Config.rosterMax < f.roster.length || !agrees then refuse .badLength s
  else
    match billingMode f.mode with
    | none => refuse .badValue s
    | some mode =>
      if !s.configured mode then refuse .notConfigured s
      else
        let c := appliedSettings f mode
        let roster := f.roster.map appliedEntry
        ⟨s.openLane l c mode roster, adjustedOr (openAdjusted f mode) .ok, .opened c roster 1⟩

/-- OPEN_SESSION (R4 to R6). -/
def execOpenSession (agrees : Bool) (f : OpenFields) (s : State) : Host.Outcome State Fault Refusal :=
  .next (State.live (State.carryOut .openSession fun _ => checkLane f.lane (openSession agrees f)) s)

/-! ### CLOSE_SESSION -/

/-- CLOSE_SESSION (R7, R9). -/
def execCloseSession (agrees : Bool) (lane : Nat) (s : State) : Host.Outcome State Fault Refusal :=
  .next (State.live (State.carryOut .closeSession fun _ => checkLength agrees (checkLaneExempt lane fun l s =>
    if (s.lane l).session.running then ⟨s.closeSession l, .ok, .finalAccount ((s.closeSession l).lane l).account⟩
    else refuse .noSession s)) s)

/-! ### HOLD_LANE and RELEASE_LANE -/

/-- A reply with the gate of a lane (R10, R11). -/
def State.gateReply (s : State) (l : LaneIx) : ReplyBody := .gate (s.gate l).entries

/-- HOLD_LANE on a lane (R10). -/
def holdLane (l : LaneIx) (s : State) : Answer :=
  if !(s.lane l).session.running then refuse .noSession s
  else if (s.gate l).has .deskHold then ⟨s, .noChange, s.gateReply l⟩
  else ⟨s.raiseReason .deskHold s.clock l, .ok, (s.raiseReason .deskHold s.clock l).gateReply l⟩

/-- HOLD_LANE (R10). -/
def execHoldLane (agrees : Bool) (lane : Nat) (s : State) : Host.Outcome State Fault Refusal :=
  .next (State.live (State.carryOut .holdLane fun _ => checkLength agrees (checkLaneExempt lane holdLane)) s)

/-- RELEASE_LANE on a lane (R11). -/
def releaseLane (l : LaneIx) (s : State) : Answer :=
  if (s.gate l).has .deskHold then ⟨s.clearReason .deskHold l, .ok, (s.clearReason .deskHold l).gateReply l⟩
  else ⟨s, .noChange, s.gateReply l⟩

/-- RELEASE_LANE (R11). -/
def execReleaseLane (agrees : Bool) (lane : Nat) (s : State) : Host.Outcome State Fault Refusal :=
  .next (State.live (State.carryOut .releaseLane fun _ => checkLength agrees (checkLaneExempt lane releaseLane)) s)

/-! ### LANE_STATUS -/

/-- The settings of a lane that has none to show. -/
def SessionSettings.none : SessionSettings :=
  { mode := Option.none, allowance := 0, gamesPlanned := 0, leagueFee := 0, scores := .zero }

/-- The lane has a session or a last roster (R20). -/
def Lane.shown (x : Lane) : Bool := x.session.running || x.lastRoster

/-- The settings LANE_STATUS shows (R20). -/
def Lane.shownSettings (x : Lane) : SessionSettings :=
  match x.account with
  | some a =>
    if x.shown then
      { mode := some a.mode, allowance := a.allowance, gamesPlanned := x.gamesPlanned, leagueFee := a.leagueFee, scores := x.settings }
    else .none
  | none => .none

/-- The reply body of LANE_STATUS (R20). -/
def State.laneView (s : State) (l : LaneIx) : LaneView :=
  let x := s.lane l
  { lane := l, session := x.session, lastRoster := x.lastRoster, settings := x.shownSettings
    game := if x.shown then x.game else 0, mode := (s.pair (pairOf l)).mode, pendingMode := (s.pair (pairOf l)).pendingMode
    machine := x.machine.state, deck := x.machine.deck, pendingCycle := x.machine.pendingCycle.map (·.cycle)
    gate := x.gate.entries, queue := x.queue, attention := s.attention l }

/-- LANE_STATUS (R20). -/
def execLaneStatus (agrees : Bool) (lane : Nat) (s : State) : Host.Outcome State Fault Refusal :=
  .next (State.live (State.carryOut .laneStatus fun _ => checkLength agrees (checkLaneExempt lane fun l s =>
    ⟨s, .ok, .lane (s.laneView l)⟩)) s)

end Sys2Proof.Machine
end

