-- ==== Sys2Proof/Machine/TurnRequests.lean ====
section
/-! DEFINITION. The meanings of the roster and turn requests (sections 2.5 and 2.6): ADD_BOWLER, SET_BOWLER,
WITHDRAW_BOWLER, MARK_BLIND, SKIP_TURN and PAIR_MODE. -/

namespace Sys2Proof.Machine

/-- The shared checks of R36 after the lane's: a session that stands, and the body length. -/
def checkRunning (agrees : Bool) (k : LaneIx → State → Answer) (l : LaneIx) (s : State) : Answer :=
  if (s.lane l).session.running then checkLength agrees (k l) s else refuse .noSession s

/-- The slot check of R36. -/
def checkSlot (slot : Nat) (k : Bowler → LaneIx → State → Answer) (l : LaneIx) (s : State) : Answer :=
  match s.bowler l slot with
  | none => refuse .badValue s
  | some b => k b l s

/-- A bowler of lane l replaced by f of it. -/
def State.modBowlerOf (l : LaneIx) (slot : Nat) (f : Bowler → Bowler) (s : State) : State :=
  s.modLane l fun x => { x with roster := modBowler slot f x.roster }

/-! ### ADD_BOWLER -/

/-- A new bowler joins the current game at once (R37). -/
def State.joinsNow (s : State) (l : LaneIx) : Bool := !s.hasBowled l && (s.lane l).boundary = .unmarked

/-- A bowler added in the next slot: ACTIVE with a record and a turn of the current game, or WAITING (R37,
R159). -/
def State.addBowler (l : LaneIx) (v : SlotView) (s : State) : State :=
  let x := s.lane l
  let slot := x.roster.length + 1
  let join := s.joinsNow l
  let made := bowlerOf v
  let b := if join then made.startGame x.settings x.game x.startLane else { made with state := .waiting }
  let added := (s.modLane l fun x => { x with roster := x.roster ++ [b] }).modAccount l fun a =>
    { a with entries := a.entries ++ [⟨slot, 0, false⟩] }
  added.when join fun a =>
    (a.setQueue x.startLane ((a.lane x.startLane).queue ++ [⟨l, slot, x.game, 1⟩])).handOffs s [x.startLane]

/-- ADD_BOWLER on a lane whose session stands (R37). -/
def addBowler (f : AddBowlerFields) (l : LaneIx) (s : State) : Answer :=
  let x := s.lane l
  if x.session = .seriesDone then refuse .wrongState s
  else if Config.rosterMax ≤ x.roster.length then refuse .rosterFull s
  else
    let given : RosterField := ⟨f.name, f.average, f.fixed⟩
    let v := appliedEntry given
    ⟨s.addBowler l v, adjustedOr (entryAdjusted given) .ok,
      .bowler (x.roster.length + 1) (some v.name) v.average v.fixed (if s.joinsNow l then .active else .waiting)⟩

/-- ADD_BOWLER (R36, R37). -/
def execAddBowler (agrees : Bool) (f : AddBowlerFields) (s : State) : Host.Outcome State Fault Refusal :=
  .next (State.live (State.carryOut .addBowler fun _ => checkLane f.lane (checkRunning agrees (addBowler f))) s)

/-! ### SET_BOWLER -/

/-- A bowler after SET_BOWLER (R38). -/
def Bowler.set (f : SetBowlerFields) (b : Bowler) : Bowler :=
  { b with
    average := hold300 f.average
    fixed := f.fixed.map hold300
    state := if f.ret = .yes && (b.state = .blind || b.state = .withdrawn) then .waiting else b.state }

/-- A value of SET_BOWLER was brought into range, or its return flag names nothing (R38). -/
def setBowlerAdjusted (f : SetBowlerFields) : Bool :=
  hold300 f.average ≠ f.average || f.fixed.map hold300 ≠ f.fixed || f.ret = .other

/-- SET_BOWLER on a bowler (R38). -/
def setBowler (f : SetBowlerFields) (b : Bowler) (l : LaneIx) (s : State) : Answer :=
  let b' := b.set f
  ⟨s.modBowlerOf l f.slot (Bowler.set f), settingStatus (setBowlerAdjusted f) (b' ≠ b),
    .bowler f.slot none b'.average b'.fixed b'.state⟩

/-- SET_BOWLER (R36, R38). -/
def execSetBowler (agrees : Bool) (f : SetBowlerFields) (s : State) : Host.Outcome State Fault Refusal :=
  .next (State.live (State.carryOut .setBowler fun _ =>
    checkLane f.lane (checkRunning agrees (checkSlot f.slot (setBowler f)))) s)

/-! ### WITHDRAW_BOWLER and MARK_BLIND -/

/-- The bowler is mid-frame (R25). -/
def State.bowlerMidFrame (s : State) (l : LaneIx) (slot : Nat) : Bool := ((s.turnOf l slot).map s.midFrame).getD false

/-- The bowler is ACTIVE with an IN_PROGRESS record of the lane's current game (R39, R40). -/
def Bowler.playing (number : Nat) (b : Bowler) : Bool :=
  b.state = .active && ((b.game number).map (·.state)) = some .inProgress

/-- The state of a bowler's record of a game number. -/
def State.recordState (s : State) (l : LaneIx) (slot number : Nat) : Option GameState :=
  ((s.bowler l slot).bind (·.game number)).map (·.state)

/-- A bowler withdrawn: a playing bowler's turn is removed and its record ends, and the boundary is tested
(R39). -/
def State.withdrawBowler (l : LaneIx) (slot : Nat) (playing : Bool) (s : State) : State :=
  let game := (s.lane l).game
  if playing then
    (((s.removeTurn l slot).modGame l slot game fun g => { g with state := .withdrawn }).modBowlerOf l slot fun b =>
      { b with state := .withdrawn }).testBoundary l
  else s.modBowlerOf l slot fun b => { b with state := .withdrawn }

/-- WITHDRAW_BOWLER on a bowler (R39). -/
def withdrawBowler (slot : Nat) (b : Bowler) (l : LaneIx) (s : State) : Answer :=
  let game := (s.lane l).game
  if b.state = .withdrawn then ⟨s, .noChange, .withdrawn slot .withdrawn (s.recordState l slot game)⟩
  else if s.bowlerMidFrame l slot then refuse .frameOpen s
  else
    let t := s.withdrawBowler l slot (b.playing game)
    ⟨t, .ok, .withdrawn slot .withdrawn (t.recordState l slot game)⟩

/-- WITHDRAW_BOWLER (R36, R39). -/
def execWithdrawBowler (agrees : Bool) (lane slot : Nat) (s : State) : Host.Outcome State Fault Refusal :=
  .next (State.live (State.carryOut .withdrawBowler fun _ =>
    checkLane lane (checkRunning agrees (checkSlot slot (withdrawBowler slot)))) s)

/-- PSV holds a ball-pending record of the bowler's current game (R40). -/
def State.pendingInGame (s : State) (l : LaneIx) (slot number : Nat) : Bool :=
  allLanes.any fun k =>
    match (s.machine k).ball with
    | none => false
    | some b => b.turn.home = l && b.turn.slot = slot && b.turn.game = number

/-- The bowler has bowled in the lane's current game, or its ball is pending (R40). -/
def State.gameBegun (s : State) (l : LaneIx) (slot : Nat) (b : Bowler) : Bool :=
  let number := (s.lane l).game
  ((b.game number).map fun g => !g.balls.isEmpty).getD false || s.pendingInGame l slot number

/-- A record turned BLIND with its blind score, its handicap as fixed at its start (R63, R71). -/
def Game.blind (c : ScoreSettings) (applied : Nat) (g : Game) : Game :=
  { g with state := .blind, blindScore := some (blindScoreOf c applied) }

/-- A playing bowler turned BLIND with its current record, and the boundary tested (R40). -/
def State.blindBowler (l : LaneIx) (slot applied : Nat) (s : State) : State :=
  let x := s.lane l
  (((s.removeTurn l slot).modGame l slot x.game (Game.blind x.settings applied)).modBowlerOf l slot fun b =>
    { b with state := .blind }).testBoundary l

/-- MARK_BLIND on a bowler (R40). -/
def markBlind (slot : Nat) (b : Bowler) (l : LaneIx) (s : State) : Answer :=
  let x := s.lane l
  if b.state = .withdrawn then refuse .wrongState s
  else if b.state = .blind then ⟨s, .noChange, .blind slot .blind none⟩
  else if s.gameBegun l slot b then refuse .frameOpen s
  else if b.playing x.game then
    ⟨s.blindBowler l slot b.applied, .ok,
      .blind slot .blind (some (blindScoreOf x.settings b.applied, ((b.game x.game).map (·.handicap)).getD 0))⟩
  else ⟨s.modBowlerOf l slot fun b => { b with state := .blind }, .ok, .blind slot .blind none⟩

/-- MARK_BLIND (R36, R40). -/
def execMarkBlind (agrees : Bool) (lane slot : Nat) (s : State) : Host.Outcome State Fault Refusal :=
  .next (State.live (State.carryOut .markBlind fun _ =>
    checkLane lane (checkRunning agrees (checkSlot slot (markBlind slot)))) s)

/-! ### SKIP_TURN -/

/-- SKIP_TURN on a lane whose session stands (R41). -/
def skipTurn (l : LaneIx) (s : State) : Answer :=
  if !s.headIdle l then refuse .frameOpen s
  else
    match (s.lane l).queue with
    | t :: u :: rest =>
      let q := u :: rest ++ [t]
      ⟨(s.setQueue l q).handOffs s [l], .ok, .queue q⟩
    | _ => refuse .wrongState s

/-- SKIP_TURN (R36, R41). -/
def execSkipTurn (agrees : Bool) (lane : Nat) (s : State) : Host.Outcome State Fault Refusal :=
  .next (State.live (State.carryOut .skipTurn fun _ => checkLane lane (checkRunning agrees skipTurn)) s)

/-! ### PAIR_MODE -/

/-- A reply with the modes of a pair (R34). -/
def State.modeReply (s : State) (p : PairIx) : ReplyBody := .pairMode p (s.pair p).mode (s.pair p).pendingMode

/-- A pending mode cancelled, with a lane that waited for its partner taken on (R34, R35). -/
def State.cancelPending (p : PairIx) (s : State) : State :=
  if (s.pair p).pendingMode.isSome then (s.dropPending p).retakePair p else s

/-- Both lanes of a pair are OPEN (R34). -/
def State.bothOpen (s : State) (p : PairIx) : Bool :=
  (s.lane (laneA p)).session = .open_ && (s.lane (laneB p)).session = .open_

/-- PAIR_MODE on a fitted pair (R34, R35). -/
def pairMode (mode : Option PairMode) (p : PairIx) (s : State) : Answer :=
  match mode with
  | none => ⟨s, .adjusted, s.modeReply p⟩
  | some m =>
    if m = (s.pair p).mode then ⟨s.cancelPending p, .noChange, (s.cancelPending p).modeReply p⟩
    else if m = .alternate && !s.bothOpen p then refuse .noSession s
    else if !s.hasBowled (laneA p) && !s.hasBowled (laneB p) then
      ⟨s.changeModeNow p m, .ok, (s.changeModeNow p m).modeReply p⟩
    else
      let stored := s.modPair p fun x => { x with pendingMode := some m }
      ⟨stored, .ok, stored.modeReply p⟩

/-- PAIR_MODE (R34). -/
def execPairMode (agrees : Bool) (pair : Nat) (mode : Option PairMode) (s : State) : Host.Outcome State Fault Refusal :=
  .next (State.live (State.carryOut .pairMode fun _ => checkLength agrees (checkPair pair (pairMode mode))) s)

end Sys2Proof.Machine
end

