-- ==== Sys2Proof/Machine/Records.lean ====
section
/-! DEFINITION. The meanings of the requests on game records (chapter 4): GET_GAME, ACK_CHECK, CORRECT_FRAME,
CERTIFY_GAME and GET_TEAM. -/

namespace Sys2Proof.Machine

/-! ### The shared checks (R74) -/

/-- The session and length checks of R74, after the lane's. -/
def checkHeld (agrees : Bool) (k : LaneIx → State → Answer) (l : LaneIx) (s : State) : Answer :=
  if (s.lane l).shown then checkLength agrees (k l) s else refuse .noSession s

/-- The slot and record checks of R74. -/
def checkRecord (slot game : Nat) (k : Bowler → Game → LaneIx → State → Answer) : LaneIx → State → Answer :=
  checkSlot slot fun b l s =>
    match b.game game with
    | none => refuse .gameUnknown s
    | some g => k b g l s

/-- The check that a record to be changed is not CERTIFIED (R74). -/
def checkOpenRecord (slot game : Nat) (k : Bowler → Game → LaneIx → State → Answer) : LaneIx → State → Answer :=
  checkRecord slot game fun b g l s => if g.state = .certified then refuse .certified s else k b g l s

/-! ### GET_GAME -/

/-- The reply body of GET_GAME (R80). -/
def gameView (slot : Nat) (b : Bowler) (g : Game) (l : LaneIx) : GameView :=
  { home := l, slot := slot, name := b.name, bowler := b.state, game := g, scratch := g.scratchTotal, soFar := g.soFar
    total := g.handicapped }

/-- GET_GAME on a lane; game number 0 names the newest record (R74, R80). -/
def getGame (slot game : Nat) : LaneIx → State → Answer :=
  checkSlot slot fun b l s =>
    match (if game = 0 then b.games.getLast? else b.game game) with
    | none => refuse .gameUnknown s
    | some g => ⟨s, .ok, .game (gameView slot b g l)⟩

/-- GET_GAME (R74, R80). -/
def execGetGame (agrees : Bool) (n : RecordName) (s : State) : Host.Outcome State Fault Refusal :=
  .next (State.live (State.carryOut .getGame fun _ => checkLane n.lane (checkHeld agrees (getGame n.slot n.game))) s)

/-! ### ACK_CHECK -/

/-- A ball with an OPEN check acknowledged (R73). -/
def Ball.acknowledge (b : Ball) : Ball := if b.check = .open_ then { b with check := .acknowledged } else b

/-- The balls of a frame that ACK_CHECK names, acknowledged: all, or the one of the number (R73). -/
def acknowledgeBalls (ball : Option Nat) (balls : List Ball) : List Ball :=
  balls.mapIdx fun i b =>
    match ball with
    | none => b.acknowledge
    | some n => if i + 1 = n then b.acknowledge else b

/-- The frame and ball numbers of ACK_CHECK name balls the frame can hold (R73). -/
def ackInRange (frame : Nat) (ball : Option Nat) (balls : List Ball) : Bool :=
  1 ≤ frame && frame ≤ 10 &&
    match ball with
    | none => true
    | some n => 1 ≤ n && n ≤ 3 && n ≤ balls.length

/-- ACK_CHECK on a record that is not CERTIFIED (R73). -/
def ackCheck (slot frame : Nat) (ball : Option Nat) (g : Game) (l : LaneIx) (s : State) : Answer :=
  let balls := (g.frame frame).balls
  if !ackInRange frame ball balls then refuse .badValue s
  else
    let acked := acknowledgeBalls ball balls
    let body : ReplyBody := .checks l slot g.number frame (acked.map (·.check))
    if acked = balls then ⟨s, .noChange, body⟩
    else ⟨s.modGame l slot g.number (Game.modFrame frame fun f => { f with balls := acked }), .ok, body⟩

/-- ACK_CHECK (R73, R74). -/
def execAckCheck (agrees : Bool) (n : RecordName) (frame : Nat) (ball : Option Nat) (s : State) : Host.Outcome State Fault Refusal :=
  .next (State.live (State.carryOut .ackCheck fun _ => checkLane n.lane (checkHeld agrees
    (checkOpenRecord n.slot n.game fun _ => ackCheck n.slot frame ball))) s)

/-! ### CORRECT_FRAME -/

/-- The pinfalls of a valid completed frame (R75). -/
def validPinfalls (frame : Nat) (balls : List Nat) : Bool :=
  if frame < 10 then
    match balls with
    | [a] => a = 10
    | [a, b] => a < 10 && a + b ≤ 10
    | _ => false
  else
    match balls with
    | [a, b] => a < 10 && a + b < 10
    | [a, b, c] => (a = 10 && ((b < 10 && c ≤ 10 - b) || (b = 10 && c ≤ 10))) || (a < 10 && a + b = 10 && c ≤ 10)
    | _ => false

/-- A valid completed frame (R75). A list of no entries or of more than 3 is none, and is refused here with BAD_VALUE
where the BODY's length agrees. DEDUCED (log 8). -/
def validFrame (frame : Nat) (balls : List BallField) : Bool :=
  balls.all (fun b => b.pinfall ≤ 10 && (!b.foul || b.pinfall = 0)) && validPinfalls frame (balls.map (·.pinfall))

/-- The mark of a corrected frame from its pinfalls (R76). -/
def correctedMark : List Nat → Mark
  | 10 :: _ => .strike
  | a :: b :: _ => if a + b = 10 then .spare else .open_
  | _ => .open_

/-- A ball entered by correction (R70). -/
def correctedBall (b : BallField) : Ball :=
  { pinfall := b.pinfall, foul := b.foul, before := none, after := none, split := false, check := .clear, reads := none }

/-- A frame rewritten by a correction (R76). -/
def Frame.correct (balls : List BallField) (f : Frame) : Frame :=
  { f with balls := balls.map correctedBall, mark := correctedMark (balls.map (·.pinfall)), corrected := true }

/-- A record with frame n rewritten and re-resolved (R76, R77). -/
def Game.correct (frame : Nat) (balls : List BallField) (g : Game) : Game :=
  let rewritten := g.modFrame frame (Frame.correct balls)
  { rewritten with frames := resolveFrom (firstTouched frame) rewritten.frames }

/-- The frames of CORRECT_FRAME's reply, from the first touched to frame 10 (R77). -/
def touchedFrames (frame : Nat) (g : Game) : List FrameView :=
  ((List.range 10).drop (firstTouched frame - 1)).map fun i => ⟨i + 1, (g.frame (i + 1)).score, (g.frame (i + 1)).cumulative⟩

/-- CORRECT_FRAME on a record that is not CERTIFIED (R75 to R77). -/
def correctFrame (slot frame : Nat) (balls : List BallField) (g : Game) (l : LaneIx) (s : State) : Answer :=
  if frame = 0 || 10 < frame then refuse .badValue s
  else if g.state = .blind then refuse .wrongState s
  else if !(g.frame frame).mark.complete then refuse .frameOpen s
  else if !validFrame frame balls then refuse .badValue s
  else
    let done := g.correct frame balls
    let corrected := s.modGame l slot g.number (Game.correct frame balls)
    ⟨corrected.when (g.state = .finished) (State.report
        (.gameCorrected l slot g.number frame (done.scratch.getD done.soFar) done.handicap done.handicapped)),
      .ok, .corrected l slot g.number frame (touchedFrames frame done) done.scratch done.handicapped⟩

/-- CORRECT_FRAME (R74 to R78). -/
def execCorrectFrame (agrees : Bool) (n : RecordName) (frame : Nat) (balls : List BallField) (s : State) :
    Host.Outcome State Fault Refusal :=
  .next (State.live (State.carryOut .correctFrame fun _ => checkLane n.lane (checkHeld agrees
    (checkOpenRecord n.slot n.game fun _ => correctFrame n.slot frame balls))) s)

/-! ### CERTIFY_GAME -/

/-- A record certified from the state it left; a CERTIFIED record keeps its own (R79). -/
def Game.certify (g : Game) : Game :=
  if g.state = .certified then g else { g with state := .certified, certifiedFrom := some g.state }

/-- The reply body of CERTIFY_GAME (R79). -/
def certifiedReply (l : LaneIx) (game : Nat) (roster : List Bowler) : ReplyBody :=
  .certified l game ((recordsOf roster game).map fun r => ⟨r.1, r.2.2.certifiedFrom, r.2.2.handicapped⟩) (teamTotal roster game)

/-- CERTIFY_GAME on a lane that holds records (R79). -/
def certifyGame (game : Nat) (l : LaneIx) (s : State) : Answer :=
  let x := s.lane l
  let records := (recordsOf x.roster game).map (·.2.2)
  if game = 0 || x.game < game || x.roster.any (fun b => b.gone game) || records.isEmpty then refuse .gameUnknown s
  else if records.any (fun g => g.state = .inProgress) then refuse .notFinished s
  else if records.any Game.checkOpen then refuse .checkOpen s
  else if records.all (fun g => g.state = .certified) then ⟨s, .noChange, certifiedReply l game x.roster⟩
  else
    let roster := x.roster.map (Bowler.modGame game Game.certify)
    ⟨s.modLane l fun x => { x with roster := roster }, .ok, certifiedReply l game roster⟩

/-- CERTIFY_GAME (R74, R79). -/
def execCertifyGame (agrees : Bool) (lane game : Nat) (s : State) : Host.Outcome State Fault Refusal :=
  .next (State.live (State.carryOut .certifyGame fun _ => checkLane lane (checkHeld agrees (certifyGame game))) s)

/-! ### GET_TEAM -/

/-- The entry of a bowler's record in GET_TEAM (R81). -/
def teamEntry (r : Nat × Bowler × Game) : TeamEntry :=
  { slot := r.1, name := r.2.1.name, state := r.2.2.state, certifiedFrom := r.2.2.certifiedFrom, handicap := r.2.2.handicap
    scratch := r.2.2.scratchTotal.getD r.2.2.soFar, total := r.2.2.handicapped }

/-- The reply body of GET_TEAM (R81). -/
def teamView (l : LaneIx) (game : Nat) (roster : List Bowler) : TeamView :=
  let records := recordsOf roster game
  { lane := l, game := game, bowlers := records.map teamEntry, total := teamTotal roster game
    boundaryReached := !records.isEmpty && records.all (fun r => r.2.2.state.ended)
    incomplete := roster.any fun b => b.gone game }

/-- GET_TEAM on a lane that holds records; game number 0 names the lane's game (R81). -/
def getTeam (game : Nat) (l : LaneIx) (s : State) : Answer :=
  let x := s.lane l
  if x.game < game || x.game = 0 then refuse .gameUnknown s
  else ⟨s, .ok, .team (teamView l (if game = 0 then x.game else game) x.roster)⟩

/-- GET_TEAM (R74, R81). -/
def execGetTeam (agrees : Bool) (lane game : Nat) (s : State) : Host.Outcome State Fault Refusal :=
  .next (State.live (State.carryOut .getTeam fun _ => checkLane lane (checkHeld agrees (getTeam game))) s)

end Sys2Proof.Machine
end

