-- ==== Sys2Proof/Machine/Resets.lean ====
section
/-! DEFINITION. The meanings of the resets: POWER_ON, RESET_LINE, RESET_LINE_ASSERTED, and the RESET request
in its two scopes. -/

namespace Sys2Proof.Machine

/-- POWER_ON: every block takes its power-on values (R21, R184). -/
def execPowerOn (rate1 rate0 : Bool) (s : State) : Host.Outcome State Fault Refusal := .next (s.poweredOn rate1 rate0)

/-- RESET_LINE: the rising edge of RESET_N (R21, R184). -/
def execResetLine (rate1 rate0 : Bool) (s : State) : Host.Outcome State Fault Refusal := .next (s.lineReset rate1 rate0)

/-- RESET_LINE_ASSERTED: RESET_N goes LOW, and the part is held while the clock runs on (R149). -/
def execResetLineAsserted (s : State) : Host.Outcome State Fault Refusal :=
  .next (State.live (fun s => { s with held := true }) s)

/-- RESET_CENTRE: refused SESSION_OPEN without the force flag while a session stands; otherwise the sessions
are ended and the discovery pass begins (R22, R182). -/
def execResetCentre (s : State) : Host.Outcome State Fault Refusal :=
  .next (State.live (State.resetRequest 0x01 0x02 fun force s =>
    if !force && s.runningLanes ≠ [] then refuse .sessionOpen s
    else ⟨s.resetCentre, .ok, .resetCentre s.runningLanes.length⟩) s)

/-- RESET_LINK: the desk link is cleared and every other block runs on (R183). -/
def execResetLink (s : State) : Host.Outcome State Fault Refusal :=
  .next (State.live (State.resetRequest 0x02 0x01 fun _ s => ⟨s.modLink Link.resetLink, .ok, .resetLink⟩) s)

end Sys2Proof.Machine
end

