-- ==== Sys2Proof/Machine/StationBus.lean ====
section
/-! DEFINITION. The meanings of the station bus's steps (chapter 5): STATION_RESET, the timers of the bus,
the exchanges sent, and the answers taken or missed. -/

namespace Sys2Proof.Machine

/-- STATION_RESET on a fitted pair (R96). -/
def stationReset (hold : Byte) (p : PairIx) (s : State) : Answer :=
  let applied := max 1 hold.toNat
  let t := s.resetStation p applied
  ⟨t, adjustedOr (hold.toNat = 0) .ok, .station p applied (t.station p).state⟩

/-- STATION_RESET (R96). -/
def execStationReset (agrees : Bool) (pair : Nat) (hold : Byte) (s : State) : Host.Outcome State Fault Refusal :=
  .next (State.live (State.carryOut .stationReset fun _ => checkLength agrees (checkPair pair (stationReset hold))) s)

/-- PACE_TIMER_EXPIRY (R87). -/
def execPaceTimerExpiry (s : State) : Host.Outcome State Fault Refusal := .next (State.live State.paceOut s)

/-- RESET_HOLD_EXPIRY (R96). -/
def execResetHoldExpiry (p : PairIx) (s : State) : Host.Outcome State Fault Refusal := .next (State.live (State.holdOut p) s)

/-- SEND_POLL (R88, R90). -/
def execSendPoll (s : State) : Host.Outcome State Fault Refusal := .next (State.live State.sendPoll s)

/-- SEND_PROBE (R85, R88). -/
def execSendProbe (s : State) : Host.Outcome State Fault Refusal := .next (State.live State.sendProbe s)

/-- SEND_RESET_POLL (R96). -/
def execSendResetPoll (s : State) : Host.Outcome State Fault Refusal := .next (State.live State.sendReset s)

/-- The exchange in progress ended with no valid answer. -/
def State.windowOut (s : State) : State :=
  match s.bus.exchange with
  | none => s
  | some e => (s.closeExchange.missed e).passOver e

/-- ANSWER_WINDOW_EXPIRY (R85, R95, R96). -/
def execAnswerWindowExpiry (s : State) : Host.Outcome State Fault Refusal := .next (State.live State.windowOut s)

/-- A HELLO answer taken where it bears the address polled. -/
def State.helloIn (a : HelloAnswer) (s : State) : State :=
  match s.bus.exchange with
  | none => s
  | some e => if a.address = pairNumber e.pair then (s.closeExchange.hello e a).passOver e else s

/-- HELLO_ANSWER (R86, R88, R94). -/
def execHelloAnswer (a : HelloAnswer) (s : State) : Host.Outcome State Fault Refusal := .next (State.live (State.helloIn a) s)

/-- A STATUS answer taken where it bears the address polled, from a station that is polled. -/
def State.statusIn (a : StatusAnswer) (s : State) : State :=
  match s.bus.exchange with
  | none => s
  | some e =>
    if e.kind = .poll ∧ a.address = pairNumber e.pair then
      if (s.station e.pair).state.polled then s.closeExchange.statusTaken e.pair a else s.closeExchange
    else s

/-- STATUS_ANSWER (R88, R93, R94). -/
def execStatusAnswer (a : StatusAnswer) (s : State) : Host.Outcome State Fault Refusal := .next (State.live (State.statusIn a) s)

end Sys2Proof.Machine
end

