-- ==== Sys2Proof/Machine/Dispatch.lean ====
section
/-! DEFINITION. The meaning of each command, one arm for each constructor of Instr. -/

namespace Sys2Proof.Machine

def exec (i : Instr) (s : State) : Host.Outcome State Fault Refusal :=
  match i with
  | .powerOn rate1 rate0 => Sys2Proof.Machine.execPowerOn rate1 rate0 s
  | .resetLine rate1 rate0 => Sys2Proof.Machine.execResetLine rate1 rate0 s
  | .frameReceived kind tag body check => Sys2Proof.Machine.execFrameReceived kind tag body check s
  | .byteFault place => Sys2Proof.Machine.execByteFault place s
  | .lengthFault len => Sys2Proof.Machine.execLengthFault len s
  | .gapFault tag => Sys2Proof.Machine.execGapFault tag s
  | .transmitFrameStart => Sys2Proof.Machine.execTransmitFrameStart s
  | .transmitFrameEnd => Sys2Proof.Machine.execTransmitFrameEnd s
  | .unknownKind => Sys2Proof.Machine.execUnknownKind s
  | .ping => Sys2Proof.Machine.execPing s
  | .status => Sys2Proof.Machine.execStatus s
  | .peek => Sys2Proof.Machine.execPeek s
  | .resetCentre => Sys2Proof.Machine.execResetCentre s
  | .resetLink => Sys2Proof.Machine.execResetLink s
  | .setLink => Sys2Proof.Machine.execSetLink s
  | .getLink => Sys2Proof.Machine.execGetLink s
  | .setClock agrees fields => Sys2Proof.Machine.execSetClock agrees fields s
  | .getClock => Sys2Proof.Machine.execGetClock s
  | .setTariff agrees weekday weekend => Sys2Proof.Machine.execSetTariff agrees weekday weekend s
  | .getTariff => Sys2Proof.Machine.execGetTariff s
  | .setBilling agrees fields => Sys2Proof.Machine.execSetBilling agrees fields s
  | .openSession agrees fields => Sys2Proof.Machine.execOpenSession agrees fields s
  | .closeSession agrees lane => Sys2Proof.Machine.execCloseSession agrees lane s
  | .addBowler agrees fields => Sys2Proof.Machine.execAddBowler agrees fields s
  | .setBowler agrees fields => Sys2Proof.Machine.execSetBowler agrees fields s
  | .withdrawBowler agrees lane slot => Sys2Proof.Machine.execWithdrawBowler agrees lane slot s
  | .markBlind agrees lane slot => Sys2Proof.Machine.execMarkBlind agrees lane slot s
  | .skipTurn agrees lane => Sys2Proof.Machine.execSkipTurn agrees lane s
  | .pairMode agrees pair mode => Sys2Proof.Machine.execPairMode agrees pair mode s
  | .holdLane agrees lane => Sys2Proof.Machine.execHoldLane agrees lane s
  | .releaseLane agrees lane => Sys2Proof.Machine.execReleaseLane agrees lane s
  | .laneStatus agrees lane => Sys2Proof.Machine.execLaneStatus agrees lane s
  | .getGame agrees name => Sys2Proof.Machine.execGetGame agrees name s
  | .correctFrame agrees name frame balls => Sys2Proof.Machine.execCorrectFrame agrees name frame balls s
  | .certifyGame agrees lane game => Sys2Proof.Machine.execCertifyGame agrees lane game s
  | .ackCheck agrees name frame ball => Sys2Proof.Machine.execAckCheck agrees name frame ball s
  | .getTeam agrees lane game => Sys2Proof.Machine.execGetTeam agrees lane game s
  | .getAccount agrees lane => Sys2Proof.Machine.execGetAccount agrees lane s
  | .addCredit agrees lane amount => Sys2Proof.Machine.execAddCredit agrees lane amount s
  | .machinePowerOn agrees lane valid => Sys2Proof.Machine.execMachinePowerOn agrees lane valid s
  | .machinePowerOff agrees lane valid => Sys2Proof.Machine.execMachinePowerOff agrees lane valid s
  | .clearJam agrees lane => Sys2Proof.Machine.execClearJam agrees lane s
  | .serviceOut agrees lane valid => Sys2Proof.Machine.execServiceOut agrees lane valid s
  | .serviceIn agrees lane valid => Sys2Proof.Machine.execServiceIn agrees lane valid s
  | .setMachine agrees fields => Sys2Proof.Machine.execSetMachine agrees fields s
  | .getHealth agrees lane => Sys2Proof.Machine.execGetHealth agrees lane s
  | .setHealth agrees fields => Sys2Proof.Machine.execSetHealth agrees fields s
  | .stationReset agrees pair hold => Sys2Proof.Machine.execStationReset agrees pair hold s
  | .returnStatus agrees pair threshold timeout => Sys2Proof.Machine.execReturnStatus agrees pair threshold timeout s
  | .clearReturnJam agrees pair balls => Sys2Proof.Machine.execClearReturnJam agrees pair balls s
  | .secondEvent => Sys2Proof.Machine.execSecondEvent s
  | .minuteEvent => Sys2Proof.Machine.execMinuteEvent s
  | .playMinute lane => Sys2Proof.Machine.execPlayMinute lane s
  | .prepaidMinute lane => Sys2Proof.Machine.execPrepaidMinute lane s
  | .deskSilenceExpiry => Sys2Proof.Machine.execDeskSilenceExpiry s
  | .idleTimerExpiry lane => Sys2Proof.Machine.execIdleTimerExpiry lane s
  | .onTimeElapsed lane => Sys2Proof.Machine.execOnTimeElapsed lane s
  | .oldestEntryExpiry pair => Sys2Proof.Machine.execOldestEntryExpiry pair s
  | .settleExpiry lane => Sys2Proof.Machine.execSettleExpiry lane s
  | .rereadSettleExpiry lane => Sys2Proof.Machine.execRereadSettleExpiry lane s
  | .readTimeout lane => Sys2Proof.Machine.execReadTimeout lane s
  | .cycleTimeout lane => Sys2Proof.Machine.execCycleTimeout lane s
  | .warmUpExpiry lane => Sys2Proof.Machine.execWarmUpExpiry lane s
  | .paceTimerExpiry => Sys2Proof.Machine.execPaceTimerExpiry s
  | .resetHoldExpiry pair => Sys2Proof.Machine.execResetHoldExpiry pair s
  | .sendPoll => Sys2Proof.Machine.execSendPoll s
  | .sendProbe => Sys2Proof.Machine.execSendProbe s
  | .sendResetPoll => Sys2Proof.Machine.execSendResetPoll s
  | .answerWindowExpiry => Sys2Proof.Machine.execAnswerWindowExpiry s
  | .helloAnswer answer => Sys2Proof.Machine.execHelloAnswer answer s
  | .statusAnswer answer => Sys2Proof.Machine.execStatusAnswer answer s
  | .huntStartByte byte => Sys2Proof.Machine.execHuntStartByte byte s
  | .resetLineAsserted => Sys2Proof.Machine.execResetLineAsserted s

end Sys2Proof.Machine
end

