-- ==== Sys2Proof/Machine/Step.lean ====
section
/-! DEFINITION. One step of the part: the command at the front of the queue, or a tenth of a second passing
where none waits. -/

namespace Sys2Proof.Machine

/-- One step. With no command waiting a tenth of a second passes (DESIGN CHOICE, log 3). -/
def step (s : State) : Host.Outcome State Fault Refusal :=
  match s.pending with
  | [] => .next s.idleTenth
  | c :: rest => exec c { s with pending := rest }

/-- s with the command that a word spells at the front of its queue. The table gives no row any bits, so no
word spells a command and s is unchanged. -/
def State.withFetchWord (s : State) (nbits w : Nat) : State :=
  match decodeTableWord nbits w with
  | none => s
  | some c => { s with pending := c :: s.pending }

end Sys2Proof.Machine
end

