-- ==== Sys2Proof/Safety.lean ====
section
/-! DEFINITION. What a safe run keeps, in the terms the statements use: the occasions of a command, the reply of
a request, the invariants of the link, the accounts, the machines, the gates and returns, and the station
table, and the pair a request names. -/

namespace Sys2Proof.Machine

/-! ### Occasions -/

/-- The part runs, and no part of a second event is left to take. -/
abbrev State.free (s : State) : Prop := s.held = false ∧ s.due = .clear

/-- The part is free and r, of the kind given, is the request to carry out next (R174). -/
abbrev State.front (s : State) (kind : RequestKind) (r : Slot) : Prop :=
  s.free ∧ s.link.nextRequest = some r ∧ r.kind = kind.code

/-- s with r's reply placed behind any reply not yet sent: KIND plus 0x80, r's TAG, the status and the reply
body. The slot stays held, marked as having its reply (R173, R174). -/
def State.answered (s : State) (r : Slot) (st : Status) (body : ReplyBody) : State :=
  { s with link := { s.link with
      slots := markBuilt s.link.slots, replies := s.link.replies ++ [⟨r.kind + 0x80, r.tag, st, body⟩] } }

/-- s with r refused: the status alone, and nothing else changed (R1, R174). -/
def State.refusedWith (s : State) (r : Slot) (st : Status) : State := s.answered r st .bare

/-- The lane is fitted, and the pair's station is present (R1). -/
abbrev State.fits (s : State) (l : LaneIx) : Prop :=
  (s.station (pairOf l)).state ≠ .absent ∧ fittedHas (s.station (pairOf l)).fitted (sideOf l) = true

/-! ### The link (R172, R173, R174, R176) -/

/-- The tags of the replies built and not wholly sent, in the order they are sent. -/
def Link.replyTags (k : Link) : List Byte :=
  (match k.tx with
   | some (.reply r) => [r.tag]
   | some (.fault _) => []
   | some (.report _) => []
   | none => []) ++ k.replies.map (·.tag)

/-- The queue, the fault list and the slots are within their sizes; the queue is in class order; and the
replies not wholly sent are those of the oldest slots, in the order the slots were taken. -/
def Link.sound (k : Link) : Prop :=
  k.reports.length ≤ 48 ∧ (k.reports.map Report.rank).Pairwise (· ≤ ·) ∧ k.faults.length ≤ 4 ∧ k.faultsDropped ≤ 255
    ∧ k.slots.length ≤ 2 ∧ k.replyTags = (k.slots.filter (·.built)).map (·.tag)
    ∧ ∀ r ∈ k.slots.take k.replyTags.length, r.built = true

/-- The link is sound. -/
def State.linkSound (s : State) : Prop := s.link.sound

/-! ### Station events (R93) -/

/-- The part is free and a is the answer to the POLL in progress at pair p's station, with the new event e of
sequence n. -/
abbrev State.hears (s : State) (p : PairIx) (a : StatusAnswer) (n : Byte) (e : BusEvent) : Prop :=
  s.free ∧ s.bus.exchange = some ⟨p, .poll⟩ ∧ (s.station p).state.polled = true ∧ a.address = pairNumber p
    ∧ a.eventsLost = false ∧ a.event = some ⟨n, e⟩ ∧ (s.station p).lastEvent ≠ some n

/-! ### Accounts (R158, R160, R166) -/

/-- An account's values are within their ranges, its seconds are play or down in the time modes and neither in
the others, and it is its lane's own. -/
def Account.sound (l : LaneIx) (a : Account) : Prop :=
  a.lane = l ∧ a.accrued ≤ 9999999 ∧ a.carry < 60 ∧ a.used ≤ 65535 ∧ a.episode ≤ 65535 ∧ a.gamesCharged ≤ 65535
    ∧ a.sessionSeconds ≤ 4294967295
    ∧ (a.mode.timed = true → a.sessionSeconds < 4294967295 → a.playSeconds + a.downSeconds = a.sessionSeconds)
    ∧ (a.mode.timed = false → a.playSeconds = 0 ∧ a.downSeconds = 0)

/-- Every lane's account is sound. -/
def State.accountsSound (s : State) : Prop := ∀ l : LaneIx, ∀ a, (s.lane l).account = some a → a.sound l

/-! ### Machines (R100, R101, R103) -/

/-- A pending cycle stands exactly in WAITING and a cycle in flight exactly in CYCLING; a deck read is in flight
only in READING; a ball is pending in BALL_DOWN and READING, and otherwise only in LINK_LOST; a foul is armed
only in READY. -/
def MachineRec.sound (m : MachineRec) : Prop :=
  (m.pendingCycle.isSome = true ↔ m.state = .waiting) ∧ (m.cycleInFlight.isSome = true ↔ m.state = .cycling)
    ∧ (m.inFlight.isSome = true → m.state = .cycling ∨ m.state = .reading)
    ∧ (m.state = .ballDown ∨ m.state = .reading → m.ball.isSome = true)
    ∧ (m.ball.isSome = true → m.state = .ballDown ∨ m.state = .reading ∨ m.state = .linkLost)
    ∧ (m.armedFoul = true → m.state = .ready)

/-- Every lane's machine record is sound. -/
def State.machinesSound (s : State) : Prop := ∀ l : LaneIx, (s.machine l).sound

/-! ### Gates and returns (section 1.6, R18, R135, R138) -/

/-- NO_SESSION, RETURN_JAM and RETURN_BACKLOG stand exactly while their conditions do, DESK_HOLD only on a running
session, and a lane is REACHED only while its session is OPEN. -/
def State.gateSound (s : State) (l : LaneIx) : Prop :=
  ((s.gate l).noSession.isSome = true ↔ (s.lane l).session = .closed)
    ∧ ((s.gate l).returnJam.isSome = true ↔ (s.ret (pairOf l)).jamStanding = true)
    ∧ ((s.gate l).returnBacklog.isSome = true ↔ 7 ≤ (s.ret (pairOf l)).track.length)
    ∧ ((s.gate l).deskHold.isSome = true → (s.lane l).session ≠ .closed)
    ∧ ((s.lane l).boundary = .reached → (s.lane l).session = .open_)

/-- A return record is within its ranges. -/
def ReturnRec.sound (t : ReturnRec) : Prop :=
  t.track.length ≤ 8 ∧ t.rack ≤ t.threshold + 2 ∧ 4 ≤ t.threshold ∧ t.threshold ≤ 12 ∧ 5 ≤ t.timeout ∧ t.timeout ≤ 60


/-! ### The station table (R83, R89, R92, R95, R96) -/

/-- Missed polls stay below 3, the next sequences in 1 to 255, and a station that is not polled holds no
command, no last event and no missed poll. -/
def Station.sound (t : Station) : Prop :=
  t.missed < 3 ∧ 1 ≤ t.nextSeqA ∧ t.nextSeqA ≤ 255 ∧ 1 ≤ t.nextSeqB ∧ t.nextSeqB ≤ 255
    ∧ (t.state.polled = false → t.commandA = none ∧ t.commandB = none ∧ t.lastEvent = none ∧ t.missed = 0)

/-- Every station table entry is sound. -/
def State.stationsSound (s : State) : Prop := ∀ p : PairIx, (s.station p).sound

/-- A station that is polled is DARK exactly while the three conditions of R89 hold. -/
def State.darkSound (s : State) : Prop :=
  ∀ p : PairIx, (s.station p).state.polled = true → ((s.station p).state = .dark ↔ s.darkNow p = true)

/-! ### Turns (R23 to R25, R34, R42) and the hold (R32) -/

/-- A lane's start lane is the lane itself or its partner. -/
def State.startsAtHome (s : State) : Prop := ∀ l : LaneIx, pairOf (s.lane l).startLane = pairOf l

/-- No ball of the lane's current game is recorded. -/
def State.unbowled (s : State) (l : LaneIx) : Prop := ∀ x ∈ recordsOf (s.lane l).roster (s.lane l).game, x.2.2.balls = []

/-- The turns of both queues of a pair (R23). -/
def State.pairTurns (s : State) (p : PairIx) : List Turn := (s.lane (laneA p)).queue ++ (s.lane (laneB p)).queue

/-- A turn of lane l's queue belongs to an OPEN lane of the pair and names the current game of a bowler whose record of
it is IN_PROGRESS. In SEPARATE it stands at home, and until its lane's team has a ball recorded in the game, on the
start lane. -/
def State.turnSound (s : State) (l : LaneIx) (t : Turn) : Prop :=
  pairOf t.home = pairOf l ∧ (s.lane t.home).session = .open_ ∧ t.game = (s.lane t.home).game ∧ 1 ≤ t.frame ∧ t.frame ≤ 10
    ∧ (s.gameOf t).map (·.state) = some .inProgress
    ∧ ((s.pair (pairOf l)).mode = .separate → t.home = l)
    ∧ (s.unbowled t.home → (s.lane t.home).startLane = l)

/-- Every bowler whose game is IN_PROGRESS has exactly one turn in its pair's queues, and no other bowler has any; a
lane REACHED is OPEN with its game ended; a SEPARATE lane that plays starts at home; a roster holds at most 8; and a
ball to be scored is its lane's head turn's. -/
def State.turnsSound (s : State) : Prop :=
  s.startsAtHome ∧ (∀ l : LaneIx, ∀ t ∈ (s.lane l).queue, s.turnSound l t)
    ∧ (∀ p : PairIx, ((s.pairTurns p).map fun t => (t.home, t.slot)).Nodup)
    ∧ (∀ l : LaneIx, (s.lane l).session = .open_ → ∀ x ∈ recordsOf (s.lane l).roster (s.lane l).game,
        x.2.2.state = .inProgress → ∃ t ∈ s.pairTurns (pairOf l), t.home = l ∧ t.slot = x.1)
    ∧ (∀ l : LaneIx, (s.lane l).boundary = .reached → (s.lane l).session = .open_ ∧ s.gameEnded l = true)
    ∧ (∀ l : LaneIx, (s.lane l).session = .open_ → (s.lane l).boundary = .unmarked → (s.pair (pairOf l)).mode = .separate →
        (s.lane l).startLane = l)
    ∧ (∀ l : LaneIx, (s.lane l).roster.length ≤ 8)
    ∧ ∀ l : LaneIx, ∀ b ∈ (s.machine l).ball, b.orphan = false → s.headTurn l = some b.turn

/-! ### Game starts and cycles, as a state after shows them (R14, R30, R108) -/

/-- The frame-1 turns of team h's next game: one for each bowler ACTIVE or WAITING, in slot order (R30). -/
def State.nextTurns (s : State) (h : LaneIx) : List Turn :=
  ((List.range (s.lane h).roster.length).filter fun i =>
      ((s.lane h).roster[i]?).any fun b => b.state = .active || b.state = .waiting).map
    fun i => ⟨h, i + 1, (s.lane h).game + 1, 1⟩

/-- Team h has gone on, from s to t, to its next game on the start lane given: every bowler but the WITHDRAWN has a
record of it, IN_PROGRESS or, for the BLIND, BLIND (R30, R61, R62, R63). -/
def State.wentOn (s t : State) (h start : LaneIx) : Prop :=
  (t.lane h).game = (s.lane h).game + 1 ∧ (t.lane h).startLane = start ∧ (t.lane h).boundary = .unmarked
    ∧ (t.lane h).session = (s.lane h).session ∧ (t.lane h).roster.length = (s.lane h).roster.length
    ∧ ∀ (i : Nat) (b : Bowler), (s.lane h).roster[i]? = some b → ∃ b', (t.lane h).roster[i]? = some b'
      ∧ (b.state = .withdrawn → b' = b)
      ∧ (b.state ≠ .withdrawn → b'.name = b.name ∧ b'.average = b.average ∧ b'.applied = b.average ∧ b'.fixed = b.fixed
        ∧ b'.state = (if b.state = .waiting then .active else b.state)
        ∧ ∃ g, b'.game ((s.lane h).game + 1) = some g ∧ g.startLane = start ∧ g.balls = []
          ∧ g.state = (if b.state = .blind then .blind else .inProgress)
          ∧ g.blindScore = (if b.state = .blind then some (b.average - (s.lane h).settings.penalty) else none)
          ∧ g.handicap = handicapOf (s.lane h).settings b.average b.fixed)

/-- No bowler of lane h holds a record of the game after the current one. -/
def State.nextUnplayed (s : State) (h : LaneIx) : Prop := ∀ b ∈ (s.lane h).roster, b.game ((s.lane h).game + 1) = none

/-- Lane l has taken, from s to t, an outcome that R108 derives: a cycle in flight, or pending where the gate blocks it,
a need served by the deck as it stands, or the lane empty or ready. -/
def State.took (s t : State) (l : LaneIx) (d : Derived) : Prop :=
  let held (c : Cycle) (served : Bool) : Prop :=
    (t.machine l).state = .waiting ∧ (t.machine l).pendingCycle = some ⟨c, served, s.headTurn l, s.headNeed l⟩
  match d with
  | .start c => if (s.gate l).blocks c = true then held c false
      else (t.machine l).state = .cycling ∧ (t.machine l).cycleInFlight = some c ∧ (t.machine l).pendingCycle = none
  | .serve c => if (s.gate l).blocks c = true then held c true
      else (t.machine l).state = .ready ∧ (t.machine l).pendingCycle = none
  | .deckEmpty => (t.machine l).state = .deckEmpty ∧ (t.machine l).pendingCycle = none
  | .ready => (t.machine l).state = .ready ∧ (t.machine l).pendingCycle = none

/-! ### Sessions ended (R7, R67, R167), as a state after shows them -/

/-- A game record as the end of its session leaves it: WITHDRAWN where it was IN_PROGRESS, and otherwise as it stood
(R7 step 2). -/
def Game.ended (g : Game) : Game := if g.state = .inProgress then { g with state := .withdrawn } else g

/-- A bowler as the end of its session leaves it: every record kept in its place and ended, all else as it stood. -/
def Bowler.ended (b : Bowler) : Bowler := { b with games := b.games.map Game.ended }

/-- b' is bowler b after a session that ended just as the game numbered n had started: its records are kept and ended,
and where it was taken into that game they are followed by an unbowled record of it, which with all four slots used
takes the place of the oldest (R30, R42, R67). -/
def Bowler.endedAt (n : Nat) (b b' : Bowler) : Prop :=
  b'.name = b.name ∧ b'.average = b.average ∧ b'.fixed = b.fixed
    ∧ (b' = b.ended ∨ ∃ g, g.number = n ∧ (g.state = .withdrawn ∨ g.state = .blind) ∧ g.balls = []
      ∧ b'.games = (if b.games.length < 4 then b.games else b.games.drop 1).map Game.ended ++ [g])

/-- a' is account a made final at a time: its counts as they stood, no episode, and the charge not lowered (R167). -/
def Account.madeFinal (a a' : Account) (time : DateTime) : Prop :=
  a'.isFinal = true ∧ a'.closeTime = some time ∧ a'.lane = a.lane ∧ a'.mode = a.mode ∧ a'.allowance = a.allowance
    ∧ a'.sessionSeconds = a.sessionSeconds ∧ a'.playSeconds = a.playSeconds ∧ a'.downSeconds = a.downSeconds
    ∧ a'.episode = 0 ∧ a'.used = a.used ∧ a'.gamesCharged = a.gamesCharged ∧ a'.entries = a.entries
    ∧ (a.accrued ≤ 9999999 → a.accrued ≤ a'.accrued)

/-- The next-game hold is set exactly while the desk-lost state stands. -/
def State.holdSound (s : State) : Prop := s.hold = s.link.lost.isSome

/-- Every gate, return record and start lane is sound, and the hold follows the desk-lost state. -/
def State.playSound (s : State) : Prop :=
  (∀ l : LaneIx, s.gateSound l) ∧ (∀ p : PairIx, (s.ret p).sound) ∧ s.startsAtHome ∧ s.holdSound

/-! ### Scores (R45, R46, R57, R59) -/

/-- The frame numbered n is within its ranges: each pinfall at most 10; below the tenth, pinfalls of at most 10 in
all, and a first ball that cleared nothing leaves the pins it did not fell; in the tenth at most three balls; a
score of at most 30; and a cumulative total of at most 30 a frame. -/
def Frame.scoresSound (n : Nat) (f : Frame) : Prop :=
  (∀ b ∈ f.balls, b.pinfall ≤ 10)
    ∧ (n < 10 → pinfallSum f.balls ≤ 10 ∧ ∀ a, f.balls = [a] → a.cleared = false → a.pinfall + pinCount a.left ≤ 10)
    ∧ (n = 10 → f.balls.length ≤ 3)
    ∧ (∀ c, f.score = some c → c ≤ 30) ∧ ∀ c, f.cumulative = some c → c ≤ 30 * n

/-- Every frame of a game record is within its ranges. -/
def Game.scoresSound (g : Game) : Prop := ∀ n, 1 ≤ n → n ≤ 10 → (g.frame n).scoresSound n

/-! ### What a request names -/

/-- What a lane or pair request carries besides its own fields: its kind, whether its BODY's length agrees,
whether it names a lane rather than a pair, and the number it names. -/
def requestNamed : Instr → Option (RequestKind × Bool × Bool × Nat)
  | .openSession agrees f => some (.openSession, agrees, true, f.lane)
  | .closeSession agrees l => some (.closeSession, agrees, true, l)
  | .addBowler agrees f => some (.addBowler, agrees, true, f.lane)
  | .setBowler agrees f => some (.setBowler, agrees, true, f.lane)
  | .withdrawBowler agrees l _ => some (.withdrawBowler, agrees, true, l)
  | .markBlind agrees l _ => some (.markBlind, agrees, true, l)
  | .skipTurn agrees l => some (.skipTurn, agrees, true, l)
  | .pairMode agrees p _ => some (.pairMode, agrees, false, p)
  | .holdLane agrees l => some (.holdLane, agrees, true, l)
  | .releaseLane agrees l => some (.releaseLane, agrees, true, l)
  | .laneStatus agrees l => some (.laneStatus, agrees, true, l)
  | .getGame agrees n => some (.getGame, agrees, true, n.lane)
  | .correctFrame agrees n _ _ => some (.correctFrame, agrees, true, n.lane)
  | .certifyGame agrees l _ => some (.certifyGame, agrees, true, l)
  | .ackCheck agrees n _ _ => some (.ackCheck, agrees, true, n.lane)
  | .getTeam agrees l _ => some (.getTeam, agrees, true, l)
  | .getAccount agrees l => some (.getAccount, agrees, true, l)
  | .addCredit agrees l _ => some (.addCredit, agrees, true, l)
  | .machinePowerOn agrees l _ => some (.machinePower, agrees, true, l)
  | .machinePowerOff agrees l _ => some (.machinePower, agrees, true, l)
  | .clearJam agrees l => some (.clearJam, agrees, true, l)
  | .serviceOut agrees l _ => some (.service, agrees, true, l)
  | .serviceIn agrees l _ => some (.service, agrees, true, l)
  | .setMachine agrees f => some (.setMachine, agrees, false, f.pair)
  | .getHealth agrees l => some (.getHealth, agrees, true, l)
  | .setHealth agrees f => some (.setHealth, agrees, true, f.lane)
  | .stationReset agrees p _ => some (.stationReset, agrees, false, p)
  | .returnStatus agrees p _ _ => some (.returnStatus, agrees, false, p)
  | .clearReturnJam agrees p _ => some (.clearReturnJam, agrees, false, p)
  | .powerOn _ _ | .resetLine _ _ | .frameReceived _ _ _ _ | .byteFault _ | .lengthFault _ | .gapFault _ | .transmitFrameStart
  | .transmitFrameEnd | .unknownKind | .ping | .status | .peek | .resetCentre | .resetLink | .setLink | .getLink
  | .setClock _ _ | .getClock | .setTariff _ _ _ | .getTariff | .setBilling _ _ | .secondEvent | .minuteEvent
  | .playMinute _ | .prepaidMinute _ | .deskSilenceExpiry | .idleTimerExpiry _ | .onTimeElapsed _
  | .oldestEntryExpiry _ | .settleExpiry _ | .rereadSettleExpiry _ | .readTimeout _ | .cycleTimeout _
  | .warmUpExpiry _ | .paceTimerExpiry | .resetHoldExpiry _ | .sendPoll | .sendProbe | .sendResetPoll
  | .answerWindowExpiry | .helloAnswer _ | .statusAnswer _ | .huntStartByte _ | .resetLineAsserted => none

/-- The number is that of a lane, or of a pair (00_scope.md). -/
def numberInRange (isLane : Bool) (n : Nat) : Bool := 1 ≤ n && n ≤ (if isLane then 16 else 8)

/-- The pair that a lane or pair number lies in. -/
def numberedPair (isLane : Bool) (n : Nat) : Option PairIx := if isLane then (findLane n).map pairOf else findPair n

end Sys2Proof.Machine
end

