-- ==== Sys2Proof/Certificates/Slice0/Obligations.lean ====
section
/-! DEFINITION. The statements for the provers, in the order of OBLIGATIONS.json. -/

open Sys2Proof Sys2Proof.Machine

/-! ### The step, the queue and the turns -/

/-- A command at the front of the queue is what the step carries out, on the queue's rest. With none waiting a
tenth of a second passes: the model's choice (log 3). -/
def Obligations.StepTakesTheFrontCommand : Prop :=
  (∀ (c : Instr) (rest : List Instr) (s : State),
    step { s with pending := c :: rest } = exec c { s with pending := rest })
  ∧ ∀ s : State, s.pending = [] → s.free →
    ∃ t, step s = .next t ∧ t.returnClock = s.returnClock + 1 ∧ t.clock = s.clock ∧ t.lanes = s.lanes ∧ t.link = s.link

/-- Every command is carried out, and leaves the commands that wait as they are. A command whose occasion does not
stand changes nothing: the model's choice (log 2). -/
def Obligations.EveryCommandCompletes : Prop := ∀ (c : Instr) (s : State), ∃ t, exec c s = .next t ∧ t.pending = s.pending

/-- Every step keeps the turns sound: each turn names a bowler of an OPEN lane of the pair whose current game is
IN_PROGRESS, and each such bowler has exactly one turn in the pair's two queues; in SEPARATE turns stand at home, and
until a team has bowled, on its start lane, which is of the pair; a lane REACHED is OPEN with its game ended; a roster
holds at most 8; and a ball to be scored is its lane's head turn's. That a lane plays on from itself once its pair's
other lane has closed is the model's reading (log 31). -/
def Obligations.StepsKeepTheTurnsSound : Prop := ∀ s t : State, s.turnsSound → step s = .next t → t.turnsSound

/-! ### Resets -/

/-- The values after power-on, on every lane and pair, and at the clock, the meter, the bus and the link. -/
def Obligations.PowerOnValues : Prop :=
  ∀ (rate1 rate0 : Bool) (s : State), ∃ t, exec (.powerOn rate1 rate0) s = .next t
    ∧ t.clock = ⟨2000, 1, 1, 0, 0, 0⟩ ∧ t.clockValid = false ∧ t.returnClock = 0 ∧ t.hold = false ∧ t.held = false
    ∧ t.meter.installed = none ∧ t.meter.pendingTable = none ∧ t.meter.bandNoted = none
    ∧ t.meter.settings = ⟨60, 30, 0, 5, #v[.weekday, .weekday, .weekday, .weekday, .weekday, .weekend, .weekend]⟩
    ∧ (∀ l : LaneIx, (t.lane l).session = .closed ∧ (t.lane l).lastRoster = false ∧ (t.lane l).roster = []
        ∧ (t.lane l).account = none ∧ (t.lane l).game = 0 ∧ (t.lane l).startLane = l ∧ (t.lane l).boundary = .unmarked
        ∧ (t.lane l).queue = [] ∧ t.gate l = ⟨some ⟨2000, 1, 1, 0, 0, 0⟩, none, none, none, none⟩
        ∧ (t.machine l).state = .poweredDown ∧ (t.machine l).deck = .unknown ∧ (t.machine l).inFlight = none
        ∧ (t.machine l).pendingCycle = none ∧ (t.machine l).ball = none ∧ (t.machine l).service = .in_
        ∧ (t.lane l).health.cycleTime = ⟨0, 90, .armed⟩ ∧ (t.lane l).health.jamWindow = ⟨0, 6, .armed⟩
        ∧ (t.lane l).health.respotMiss = ⟨0, 10, .armed⟩ ∧ (t.lane l).health.cycles = ⟨0, 500000, .armed⟩
        ∧ (t.lane l).health.policy = .report)
    ∧ (∀ p : PairIx, (t.pair p).mode = .separate ∧ (t.pair p).pendingMode = none ∧ (t.pair p).settings = ⟨25, 120, 80, 60, 20⟩
        ∧ (t.ret p).track = [] ∧ (t.ret p).rack = 0 ∧ (t.ret p).threshold = 8 ∧ (t.ret p).timeout = 20
        ∧ (t.station p).state = .absent ∧ (t.pair p).health = ⟨⟨0, 150, .armed⟩, false⟩)
    ∧ t.bus.passing = true
    ∧ t.link.rate = 2 * rate1.toNat + rate0.toNat ∧ t.link.timeout = 60 ∧ t.link.receiver = .hunt ∧ t.link.slots = []
    ∧ t.link.replies = [] ∧ t.link.faults = [] ∧ t.link.faultsDropped = 0 ∧ t.link.lost = none ∧ t.link.wasLost = false
    ∧ t.link.silence = 0 ∧ t.link.reports = [.powerUp 0x0A 16 1 (2 * rate1.toNat + rate0.toNat)]

/-- RESET_N LOW holds the part: nothing but power-on, the rising edge and the clock's second is taken (log 5). The rising
edge keeps the clock, the return clock and the health records, and brings the sessions, turns, gates, machines, pair
modes and settings, tariffs and billing settings, returns, stations, bus and link to the values given for the reset
line. That no machine timer runs, that no frame is on TXD, and the model's own returnPower there are the model's choice
(logs 7 and 12). -/
def Obligations.ResetLineKeepsClockAndHealth : Prop :=
  (∀ s : State, s.free → exec .resetLineAsserted s = .next { s with held := true })
  ∧ (∀ (c : Instr) (s : State), s.held = true → (∀ a b, c ≠ .powerOn a b) → (∀ a b, c ≠ .resetLine a b) → c ≠ .secondEvent →
      exec c s = .next s)
  ∧ (∀ s : State, s.held = true → ∃ t, exec .secondEvent s = .next t ∧ t.clock = s.clock.tick ∧ t.lanes = s.lanes
      ∧ t.pairs = s.pairs ∧ t.meter = s.meter ∧ t.link = s.link)
  ∧ ∀ (rate1 rate0 : Bool) (s : State), ∃ t, exec (.resetLine rate1 rate0) s = .next t
    ∧ t.clock = s.clock ∧ t.clockValid = s.clockValid ∧ t.returnClock = s.returnClock ∧ t.held = false ∧ t.hold = false
    ∧ t.meter = ⟨none, none, none, ⟨60, 30, 0, 5, #v[.weekday, .weekday, .weekday, .weekday, .weekday, .weekend, .weekend]⟩⟩
    ∧ (∀ l : LaneIx, (t.lane l).health = (s.lane l).health ∧ (t.lane l).session = .closed ∧ (t.lane l).lastRoster = false
        ∧ (t.lane l).roster = [] ∧ (t.lane l).account = none ∧ (t.lane l).game = 0 ∧ (t.lane l).startLane = l
        ∧ (t.lane l).boundary = .unmarked ∧ (t.lane l).queue = [] ∧ (t.lane l).head = none
        ∧ t.gate l = ⟨some s.clock, none, none, none, none⟩
        ∧ t.machine l = ⟨.poweredDown, .unknown, none, none, none, false, .unmarked, false, .in_, .unordered, false, 0, false, 0,
            none, .off⟩)
    ∧ (∀ p : PairIx, (t.pair p).health = (s.pair p).health ∧ (t.pair p).mode = .separate ∧ (t.pair p).pendingMode = none
        ∧ (t.pair p).settings = ⟨25, 120, 80, 60, 20⟩ ∧ t.ret p = ⟨[], 0, false, true, 0, 0, 8, 20⟩
        ∧ (t.station p).state = .absent ∧ (t.station p).missed = 0 ∧ (t.station p).holdRemaining = 0
        ∧ (t.station p).lastEvent = none ∧ (t.station p).commandA = none ∧ (t.station p).commandB = none
        ∧ (t.station p).powerA = .off ∧ (t.station p).powerB = .off ∧ (t.station p).lift = .run ∧ (t.station p).nextSeqA = 1
        ∧ (t.station p).nextSeqB = 1)
    ∧ t.bus.passing = true ∧ t.bus.due = allPairs.map (fun p => ⟨p, .probe .discovery⟩)
    ∧ t.link = {
        rate := 2 * rate1.toNat + rate0.toNat, timeout := 60, receiver := .hunt, slots := [], replies := [], faults := []
        faultsDropped := 0, reports := [.resetLine 0x0A 16 1 (2 * rate1.toNat + rate0.toNat)], reportsLost := false
        lostClasses := ⟨false, false, false, false⟩, lost := none, wasLost := false, silence := 0, tx := none }

/-- RESET CENTRE, refused without force while a session stands, and otherwise: every session is closed with its roster
kept, each record IN_PROGRESS made WITHDRAWN and its account made final at the clock's time; a lane already CLOSED keeps
its roster and account; and the clock, tariffs, settings and health are kept. A lane B that stood REACHED as lane A
closed may have gone on to its next game first (R42), whose unbowled records are then ended too. The gates are taken
as sound. -/
def Obligations.ResetCentreEndsEverySession : Prop :=
  ∀ (s : State) (r : Slot) (force : Byte), s.front .reset r → r.body = [0x01, force] → s.playSound →
    (force = 0 ∧ (∃ l : LaneIx, (s.lane l).session ≠ .closed) → exec .resetCentre s = .next (s.refusedWith r .sessionOpen))
    ∧ (force ≠ 0 ∨ (∀ l : LaneIx, (s.lane l).session = .closed) →
      ∃ t, exec .resetCentre s = .next t
        ∧ (∀ l : LaneIx, (t.lane l).session = .closed ∧ (t.lane l).queue = [] ∧ (t.lane l).boundary = .unmarked
            ∧ t.machine l = MachineRec.initial ∧ (t.lane l).health = (s.lane l).health
            ∧ ((s.lane l).session ≠ .closed → (t.lane l).lastRoster = true
                ∧ t.gate l = ⟨some s.clock, none, none, none, none⟩ ∧ (t.lane l).settings = (s.lane l).settings
                ∧ (t.lane l).roster.length = (s.lane l).roster.length
                ∧ ((s.lane l).boundary ≠ .reached ∨ l = laneA (pairOf l) → (t.lane l).roster = (s.lane l).roster.map Bowler.ended)
                ∧ (∀ (i : Nat) (b : Bowler), (s.lane l).roster[i]? = some b →
                  ∃ b', (t.lane l).roster[i]? = some b' ∧ b.endedAt ((s.lane l).game + 1) b')
                ∧ (∀ b ∈ (t.lane l).roster, ∀ g ∈ b.games, g.state ≠ .inProgress)
                ∧ (∀ a, (s.lane l).account = some a → ∃ a', (t.lane l).account = some a' ∧ a.madeFinal a' s.clock))
            ∧ ((s.lane l).session = .closed → (t.lane l).roster = (s.lane l).roster ∧ (t.lane l).account = (s.lane l).account
                ∧ (t.lane l).lastRoster = (s.lane l).lastRoster
                ∧ t.gate l = ⟨(s.gate l).noSession, none, none, none, none⟩))
        ∧ (∀ p : PairIx, (t.pair p).mode = .separate ∧ (t.pair p).pendingMode = none
            ∧ (t.pair p).settings = (s.pair p).settings ∧ (t.pair p).health = (s.pair p).health ∧ (t.ret p).track = []
            ∧ (t.ret p).rack = 0 ∧ (t.ret p).threshold = (s.ret p).threshold ∧ (t.ret p).timeout = (s.ret p).timeout
            ∧ (t.station p).state = .absent)
        ∧ t.clock = s.clock ∧ t.clockValid = s.clockValid ∧ t.meter = s.meter ∧ t.bus.passing = true
        ∧ t.link.timeout = s.link.timeout ∧ t.link.silence = 0 ∧ t.link.faults = s.link.faults ∧ t.link.slots = markBuilt s.link.slots
        ∧ t.link.replies = s.link.replies ++ [⟨0x84, r.tag, .ok, .resetCentre s.runningLanes.length⟩])

/-- RESET LINK clears the desk link alone, and both scopes refuse a BODY other than two bytes and a scope that is
neither. -/
def Obligations.ResetLinkClearsTheLink : Prop :=
  ∀ (s : State) (r : Slot), s.front .reset r →
    (∀ force : Byte, r.body = [0x02, force] → exec .resetLink s = .next (State.answered { s with link := { s.link with
        receiver := .hunt, faults := [], faultsDropped := 0, reports := [], reportsLost := false
        lostClasses := ⟨false, false, false, false⟩, wasLost := false, silence := 0 } } r .ok .resetLink))
    ∧ (r.body.length ≠ 2 → exec .resetLink s = .next (s.refusedWith r .badLength)
        ∧ exec .resetCentre s = .next (s.refusedWith r .badLength))
    ∧ (∀ scope force : Byte, r.body = [scope, force] → scope ≠ 0x01 → scope ≠ 0x02 →
        exec .resetLink s = .next (s.refusedWith r .badValue) ∧ exec .resetCentre s = .next (s.refusedWith r .badValue))

/-! ### The desk link -/

/-- A good frame, with the desk-lost state clear, sets the desk-silence count to 0 and takes a free slot, or is
discarded with cause OVERRUN. With the desk-lost state standing it first ends that state, queues DESK_BACK and
clears the hold; there no lane is taken as standing at a held boundary. That the frame's bytes come as one command, taken
in FRAME alone, is the model's reading (log 9). -/
def Obligations.GoodFrameTakesASlot : Prop :=
  ∀ (s : State) (kind tag check : Byte) (body : List Byte), s.free → s.link.receiver = .frame → body.length ≤ 240 →
    frameSum kind tag body check = 0 →
    (s.link.lost = none →
      exec (.frameReceived kind tag body check) s = .next { s with link :=
        if s.link.slots.length < 2 then
          { s.link with receiver := .hunt, silence := 0, slots := s.link.slots ++ [⟨kind, tag, body, false⟩] }
        else if s.link.faults.length < 4 then
          { s.link with receiver := .hunt, silence := 0, faults := s.link.faults ++ [⟨tag, .overrun⟩] }
        else { s.link with receiver := .hunt, silence := 0, faultsDropped := min 255 (s.link.faultsDropped + 1) } })
    ∧ ∀ entered : DateTime, s.link.lost = some entered → s.link.slots.length < 2 →
      (∀ l : LaneIx, (s.lane l).boundary = .unmarked) →
      ∃ k, k = Link.queue (.deskBack entered s.clock) { s.link with silence := 0, lost := none }
        ∧ exec (.frameReceived kind tag body check) s = .next { s with
            hold := false, link := { k with receiver := .hunt, slots := s.link.slots ++ [⟨kind, tag, body, false⟩] } }

/-- In FRAME a faulty frame lists one LINK_FAULT and changes nothing else: CHECK at its end, BYTE at a bad stop bit with
the TAG where it was taken, LENGTH, or GAP. After CHECK, LENGTH and GAP the receiver hunts; after BYTE the bytes left of
the frame are spent first, each without a further fault, or all bytes up to a gap where LEN was not taken, and a gap ends
them. In HUNT only START is taken. Which command stands for which bytes, and that a command of the wrong mode is no step,
is the model's reading (log 9). -/
def Obligations.FaultyFrameListsOneFault : Prop :=
  ∀ s : State, s.free →
    let listed (tag : Byte) (cause : FaultCause) (next : Receiver) : State := { s with link :=
      if s.link.faults.length < 4 then { s.link with receiver := next, faults := s.link.faults ++ [⟨tag, cause⟩] }
      else { s.link with receiver := next, faultsDropped := min 255 (s.link.faultsDropped + 1) } }
    let inMode (m : Receiver) : State := { s with link := { s.link with receiver := m } }
    (s.link.receiver = .frame →
      (∀ (kind tag check : Byte) (body : List Byte), body.length ≤ 240 → frameSum kind tag body check ≠ 0 →
        exec (.frameReceived kind tag body check) s = .next (listed tag .check .hunt))
      ∧ exec (.byteFault .start) s = .next (listed 0 .byte (.skip none))
      ∧ (∀ left : Nat, 1 ≤ left → exec (.byteFault (.head left)) s = .next (listed 0 .byte (.skip (some left))))
      ∧ (∀ tag : Byte, exec (.byteFault (.body tag 0)) s = .next (listed tag .byte .hunt))
      ∧ (∀ (tag : Byte) (left : Nat), 1 ≤ left →
        exec (.byteFault (.body tag left)) s = .next (listed tag .byte (.skip (some left))))
      ∧ (∀ tag : Option Byte, exec (.gapFault tag) s = .next (listed (tag.getD 0) .gap .hunt))
      ∧ (∀ len : Byte, len.toNat < 2 ∨ 242 < len.toNat → exec (.lengthFault len) s = .next (listed 0 .length .hunt))
      ∧ ∀ byte : Byte, exec (.huntStartByte byte) s = .next s)
    ∧ (s.link.receiver = .hunt →
      (∀ place : FaultPlace, exec (.byteFault place) s = .next s) ∧ (∀ tag : Option Byte, exec (.gapFault tag) s = .next s)
      ∧ (∀ len : Byte, exec (.lengthFault len) s = .next s)
      ∧ (∀ (kind tag check : Byte) (body : List Byte), exec (.frameReceived kind tag body check) s = .next s)
      ∧ exec (.huntStartByte 0xC3) s = .next (inMode .frame)
      ∧ ∀ byte : Byte, byte ≠ 0xC3 → exec (.huntStartByte byte) s = .next s)
    ∧ ∀ left : Option Nat, s.link.receiver = .skip left →
      (∀ len : Byte, exec (.lengthFault len) s = .next s)
      ∧ (∀ (kind tag check : Byte) (body : List Byte), exec (.frameReceived kind tag body check) s = .next s)
      ∧ (∀ tag : Option Byte, exec (.gapFault tag) s = .next (inMode .hunt))
      ∧ ∀ (byte : Byte) (place : FaultPlace),
        (left = none → exec (.huntStartByte byte) s = .next s ∧ exec (.byteFault place) s = .next s)
        ∧ (left = some 1 → exec (.huntStartByte byte) s = .next (inMode .hunt) ∧ exec (.byteFault place) s = .next (inMode .hunt))
        ∧ ∀ n, left = some (n + 2) → exec (.huntStartByte byte) s = .next (inMode (.skip (some (n + 1))))
          ∧ exec (.byteFault place) s = .next (inMode (.skip (some (n + 1))))

/-- TXD sends the oldest reply, else the oldest LINK_FAULT, else the head report unless the desk-lost state
stands; a frame begun is finished; and a reply's last byte frees the oldest slot. A frame begun while one is sent, and
an end with no frame on TXD, change nothing: the model's choice (log 2). -/
def Obligations.TransmitLineOrder : Prop :=
  ∀ s : State, s.free →
    (∀ f, s.link.tx = some f → exec .transmitFrameStart s = .next s)
    ∧ (s.link.tx = none →
      (∀ r rs, s.link.replies = r :: rs →
        exec .transmitFrameStart s = .next { s with link := { s.link with replies := rs, tx := some (.reply r) } })
      ∧ (∀ f fs, s.link.replies = [] → s.link.faults = f :: fs →
        exec .transmitFrameStart s = .next { s with link := { s.link with faults := fs, tx := some (.fault f) } })
      ∧ (∀ r rs, s.link.replies = [] → s.link.faults = [] → s.link.reports = r :: rs →
        exec .transmitFrameStart s = .next
          (if s.link.lost = none then { s with link := { s.link with reports := rs, tx := some (.report r) } } else s))
      ∧ (s.link.replies = [] → s.link.faults = [] → s.link.reports = [] → exec .transmitFrameStart s = .next s)
      ∧ exec .transmitFrameEnd s = .next s)
    ∧ (∀ r, s.link.tx = some (.reply r) →
      exec .transmitFrameEnd s = .next { s with link := { s.link with tx := none, slots := s.link.slots.tail } })
    ∧ (∀ f, s.link.tx = some f → (∀ r, f ≠ .reply r) →
      exec .transmitFrameEnd s = .next { s with link := { s.link with tx := none } })

/-- An unknown KIND is refused with KIND 0xFE; PING, PEEK and GET_LINK answer and change nothing; STATUS answers
and clears the flags it has read; each takes an empty BODY; and SET_LINK stores the desk timeout, 0 or 5 to 600. -/
def Obligations.LinkRequestsAnswered : Prop :=
  ∀ (s : State) (r : Slot),
    (s.free → s.link.nextRequest = some r → knownKind r.kind = false →
      exec .unknownKind s = .next { s with link := { s.link with
        slots := markBuilt s.link.slots, replies := s.link.replies ++ [⟨0xFE, r.tag, .unknownKind, .bare⟩] } })
    ∧ (r.body = [] →
      (s.front .ping r → exec .ping s = .next (s.answered r .ok (.identity 0x0A 16 1 s.link.rate)))
      ∧ (s.front .peek r → exec .peek s = .next (s.answered r .ok (.link s.linkStatus)))
      ∧ (s.front .getLink r →
        exec .getLink s = .next (s.answered r .ok (.linkSettings s.link.timeout s.link.rate s.link.silence)))
      ∧ (s.front .status r → exec .status s = .next (State.answered { s with link := { s.link with
          reportsLost := false, lostClasses := ⟨false, false, false, false⟩, wasLost := false, faultsDropped := 0 } } r .ok
          (.link s.linkStatus))))
    ∧ (r.body ≠ [] →
      (s.front .ping r → exec .ping s = .next (s.refusedWith r .badLength))
      ∧ (s.front .status r → exec .status s = .next (s.refusedWith r .badLength))
      ∧ (s.front .peek r → exec .peek s = .next (s.refusedWith r .badLength))
      ∧ (s.front .getLink r → exec .getLink s = .next (s.refusedWith r .badLength))
      ∧ (s.front .getClock r → exec .getClock s = .next (s.refusedWith r .badLength))
      ∧ (s.front .getTariff r → exec .getTariff s = .next (s.refusedWith r .badLength)))
    ∧ (s.front .setLink r →
      (∀ hi lo : Byte, r.body = [hi, lo] →
        let n := hi.toNat * 256 + lo.toNat
        let stored := if n = 0 then 0 else if n < 5 then 5 else if 600 < n then 600 else n
        exec .setLink s = .next (State.answered { s with link := { s.link with timeout := stored } } r
          (if stored ≠ n then .adjusted else if n = s.link.timeout then .noChange else .ok) (.deskTimeout stored)))
      ∧ (r.body.length ≠ 2 → exec .setLink s = .next (s.refusedWith r .badLength)))

/-- GET_CLOCK and GET_TARIFF take no fields, are answered OK with the fields their rules list, and change
nothing. -/
def Obligations.ClockAndTariffReads : Prop :=
  ∀ (s : State) (r : Slot), r.body = [] →
    (s.front .getClock r → ∃ v : ClockView, exec .getClock s = .next (s.answered r .ok (.clock v))
      ∧ v.time = s.clock ∧ v.dayOfWeek = s.clock.dayOfWeek ∧ v.dayClass = s.meter.settings.mask[s.clock.dayOfWeek]
      ∧ v.valid = s.clockValid ∧ v.band = s.bandInForce.map (·.band) ∧ (s.meter.installed = none → v.band = none)
      ∧ v.tablePending = s.meter.pendingTable.isSome)
    ∧ (s.front .getTariff r → exec .getTariff s = .next (s.answered r .ok
        (.tariffs s.meter.installed s.meter.pendingTable s.meter.settings.mask)))

/-! ### The clock, the tariffs and the billing settings -/

/-- SET_CLOCK writes the date and time, sets the valid flag and restarts the second, or is refused and changes
nothing. SET_BILLING stores the settings, each held in its range, and keeps the mask entries that name no day
class. SET_MACHINE stores a pair's settings, each held in its range, and gives the settle time in force beside
them: that of a class-1 station rounded up to a multiple of 5 tenths. Which of NO_CHANGE and ADJUSTED a request
gives where both could be read is the model's reading (log 27). -/
def Obligations.SettingsAreStoredInRange : Prop :=
  (∀ (s : State) (r : Slot) (f : ClockFields), s.front .setClock r →
    let fits := 2000 ≤ f.year ∧ f.year ≤ 2099 ∧ 1 ≤ f.month ∧ f.month ≤ 12 ∧ 1 ≤ f.day ∧ f.day ≤ daysInMonth f.year f.month
      ∧ f.hour ≤ 23 ∧ f.minute ≤ 59 ∧ f.second ≤ 59
    (fits → ∃ t, t = { s with clock := ⟨f.year, f.month, f.day, f.hour, f.minute, f.second⟩, clockValid := true, sinceSecond := 0 }
      ∧ exec (.setClock true f) s = .next (t.answered r .ok (.clock t.clockView)))
    ∧ (¬fits → exec (.setClock true f) s = .next (s.refusedWith r .badValue))
    ∧ exec (.setClock false f) s = .next (s.refusedWith r .badLength))
  ∧ (∀ (s : State) (r : Slot) (f : BillingFields), s.front .setBilling r →
    ∃ b : BillingSettings, b.grace = min 300 f.grace ∧ b.partialThreshold = max 1 (min 60 f.partialThreshold)
      ∧ b.minCharge = min 999999 f.minCharge ∧ b.warningLead = min 30 f.warningLead
      ∧ (∀ d : Fin 7, b.mask[d] = (f.mask[d]).getD (s.meter.settings.mask[d]))
      ∧ exec (.setBilling true f) s = .next (State.answered { s with meter := { s.meter with settings := b } } r
          (if b = s.meter.settings then .noChange else if billingAdjusted f then .adjusted else .ok) (.billing b)))
  ∧ ∀ (s : State) (r : Slot) (p : PairIx) (f : MachineFields), s.front .setMachine r → f.pair = pairNumber p →
    (s.station p).state ≠ .absent →
    ∃ m : MachineSettings, m.settle = max 10 (min 40 f.settle) ∧ m.cycleTimeout = max 50 (min 300 f.cycleTimeout)
      ∧ m.warmUp = max 30 (min 300 f.warmUp) ∧ m.minOnTime = min 600 f.minOnTime ∧ m.standbyCode = min 240 f.standbyCode
      ∧ ∃ inForce, (if (s.station p).cls = .class1 then inForce % 5 = 0 ∧ m.settle ≤ inForce ∧ inForce < m.settle + 5
            else inForce = m.settle)
        ∧ exec (.setMachine true f) s = .next (State.answered (s.setPair p { s.pair p with settings := m }) r
            (if m ≠ ⟨f.settle, f.cycleTimeout, f.warmUp, f.minOnTime, f.standbyCode⟩ then .adjusted
              else if m = (s.pair p).settings then .noChange else .ok) (.machine m inForce))

/-- SET_TARIFF leaves the converted table pending, or none where it equals the installed one. -/
def Obligations.SetTariffLeavesATablePending : Prop :=
  ∀ (s : State) (r : Slot) (weekday weekend : List BandField), s.front .setTariff r →
    let given (bs : List BandField) : List Band := bs.map fun b => ⟨b.start, b.gameRate.toNat, b.hourRate.toNat⟩
    let table : Tariff := ⟨convertBands (given weekday), convertBands (given weekend)⟩
    let same := table = ⟨given weekday, given weekend⟩
    (1 ≤ weekday.length → weekday.length ≤ 8 → 1 ≤ weekend.length → weekend.length ≤ 8 →
      (s.meter.installed ≠ some table →
        exec (.setTariff true weekday weekend) s = .next (State.answered
          { s with meter := { s.meter with pendingTable := some table } } r (if same then .ok else .adjusted) (.tariff table)))
      ∧ (s.meter.installed = some table →
        exec (.setTariff true weekday weekend) s = .next (State.answered
          { s with meter := { s.meter with pendingTable := none } } r (if same then .noChange else .adjusted) (.tariff table))))
    ∧ (weekday = [] ∨ 8 < weekday.length ∨ weekend = [] ∨ 8 < weekend.length →
      ∀ agrees, exec (.setTariff agrees weekday weekend) s = .next (s.refusedWith r .badLength))

/-- A converted list is never empty where the list given is not, begins at minute 0, rises strictly, ends by
minute 1439, and holds only rates of bands given; and of bands of equal start the later is the one kept. -/
def Obligations.ConvertedBandsRise : Prop :=
  ∀ bs : List Band, bs ≠ [] →
    (convertBands bs).Pairwise (fun a b => a.start < b.start)
    ∧ ((convertBands bs).head?.map (·.start)) = some 0
    ∧ (∀ b ∈ convertBands bs, b.start ≤ 1439 ∧ ∃ c ∈ bs, c.gameRate = b.gameRate ∧ c.hourRate = b.hourRate
        ∧ (b.start = min 1439 c.start ∨ b.start = 0))
    ∧ ∀ (pre post : List Band) (c : Band), bs = pre ++ c :: post →
        (∀ d ∈ post, min 1439 d.start ≠ min 1439 c.start) → (∃ d ∈ bs, min 1439 d.start < min 1439 c.start) →
        (⟨min 1439 c.start, c.gameRate, c.hourRate⟩ : Band) ∈ convertBands bs

/-! ### Sessions -/

/-- OPEN_SESSION opens a CLOSED, fitted lane: the settings and the roster brought into range, game 1 started for
every bowler, its turns queued, the account opened, NO_SESSION cleared. No other lane, no other pair, and neither
the clock, the meter, the bus nor the pair's modes, settings, return and health change. -/
def Obligations.OpenSessionOpensTheLane : Prop :=
  ∀ (s : State) (r : Slot) (l : LaneIx) (f : OpenFields) (mode : BillingMode), s.front .openSession r →
    f.lane = laneNumber l → s.fits l → (s.lane l).session = .closed → 1 ≤ f.roster.length → f.roster.length ≤ 8 →
    billingMode f.mode = some mode →
    (mode.needsTariff = true → s.clockValid = true ∧ s.meter.installed.isSome = true) →
    ∃ t, exec (.openSession true f) s = .next t
      ∧ (t.lane l).session = .open_ ∧ (t.lane l).game = 1 ∧ (t.lane l).lastRoster = false ∧ (t.lane l).boundary = .unmarked
      ∧ (t.lane l).startLane = l ∧ (t.lane l).gamesPlanned = min 9 f.gamesPlanned
      ∧ (t.lane l).settings = ⟨min 300 f.basis, min 100 f.percent, min 300 f.cap, min 100 f.penalty⟩
      ∧ (t.gate l).noSession = none
      ∧ (t.lane l).roster.length = f.roster.length
      ∧ (∀ (i : Nat) (e : RosterField), f.roster[i]? = some e → ∃ b g, (t.lane l).roster[i]? = some b ∧ b.state = .active
          ∧ b.name = storedName e.name ∧ b.average = min 300 e.average ∧ b.applied = min 300 e.average
          ∧ b.fixed = e.fixed.map (min 300) ∧ b.games = [g] ∧ g.number = 1 ∧ g.state = .inProgress ∧ g.startLane = l
          ∧ g.handicap = handicapOf (t.lane l).settings (min 300 e.average) (e.fixed.map (min 300)))
      ∧ (t.lane l).queue = (s.lane l).queue ++ (List.range f.roster.length).map (fun i => ⟨l, i + 1, 1, 1⟩)
      ∧ (∃ a, (t.lane l).account = some a ∧ a.lane = l ∧ a.mode = mode
          ∧ a.allowance = (match mode with
            | .prepaidTime => max 1 (min 999 f.allowance)
            | .prepaidGames => max 1 (min 99 f.allowance)
            | .free | .perGame | .perTime | .league => 0)
          ∧ a.leagueFee = (if mode = .league then f.leagueFee.toNat else 0) ∧ a.used = 0 ∧ a.sessionSeconds = 0
          ∧ a.accrued = 0 ∧ a.carry = 0 ∧ a.isFinal = false ∧ a.entries.length = f.roster.length)
      ∧ t.link.slots = markBuilt s.link.slots
      ∧ (∃ body, t.link.replies = s.link.replies ++ [⟨0x90, r.tag, if openAdjusted f mode then .adjusted else .ok, body⟩])
      ∧ (∀ k : LaneIx, k ≠ l → t.lane k = s.lane k) ∧ (∀ p : PairIx, p ≠ pairOf l → t.pair p = s.pair p)
      ∧ (t.pair (pairOf l)).mode = (s.pair (pairOf l)).mode ∧ (t.pair (pairOf l)).settings = (s.pair (pairOf l)).settings
      ∧ t.ret (pairOf l) = s.ret (pairOf l) ∧ (t.pair (pairOf l)).health = (s.pair (pairOf l)).health
      ∧ t.clock = s.clock ∧ t.meter = s.meter ∧ t.bus = s.bus ∧ t.hold = s.hold

/-- CLOSE_SESSION closes a running session: its turns leave both queues of the pair; its roster keeps every bowler as it
stands and every game record, WITHDRAWN where it was IN_PROGRESS and otherwise unchanged; its account is made final at
the clock's time; DESK_HOLD leaves the gate and NO_SESSION enters it. -/
def Obligations.CloseSessionClosesTheLane : Prop :=
  ∀ (s : State) (r : Slot) (l : LaneIx), s.front .closeSession r → (s.lane l).session ≠ .closed →
    (s.gate l).noSession = none →
    ∃ t, exec (.closeSession true (laneNumber l)) s = .next t
      ∧ (t.lane l).session = .closed ∧ (t.lane l).lastRoster = true ∧ (t.lane l).boundary = .unmarked
      ∧ (t.gate l).noSession = some s.clock ∧ (t.gate l).deskHold = none
      ∧ (∀ u ∈ (t.lane l).queue ++ (t.lane (partner l)).queue, u.home ≠ l)
      ∧ (t.pair (pairOf l)).mode = .separate ∧ (t.pair (pairOf l)).pendingMode = none
      ∧ (t.lane l).settings = (s.lane l).settings ∧ (t.lane l).game = (s.lane l).game
      ∧ (t.lane l).roster = (s.lane l).roster.map Bowler.ended
      ∧ (∀ (i : Nat) (b : Bowler), (s.lane l).roster[i]? = some b → ∃ b', (t.lane l).roster[i]? = some b'
          ∧ b'.name = b.name ∧ b'.state = b.state
          ∧ ∀ (j : Nat) (g : Game), b.games[j]? = some g → ∃ g', b'.games[j]? = some g' ∧ g'.number = g.number ∧ g'.frames = g.frames
            ∧ (g.state = .inProgress → g'.state = .withdrawn) ∧ (g.state ≠ .inProgress → g' = g))
      ∧ (∀ b ∈ (t.lane l).roster, ∀ g ∈ b.games, g.state ≠ .inProgress)
      ∧ (∀ a, (s.lane l).account = some a → ∃ a', (t.lane l).account = some a' ∧ a.madeFinal a' s.clock)
      ∧ t.link.slots = markBuilt s.link.slots
      ∧ t.link.replies = s.link.replies ++ [⟨0x91, r.tag, .ok, .finalAccount (t.lane l).account⟩]
      ∧ (∀ k : LaneIx, pairOf k ≠ pairOf l → t.lane k = s.lane k) ∧ (∀ p : PairIx, p ≠ pairOf l → t.pair p = s.pair p)
      ∧ t.clock = s.clock ∧ t.meter = s.meter ∧ t.hold = s.hold

/-- HOLD_LANE raises DESK_HOLD at the clock's time, or answers NO_CHANGE. RELEASE_LANE clears it: a lane WAITING
on a cycle that no reason left blocks is issued it, and a lane not WAITING, or still blocked, keeps its machine. -/
def Obligations.HoldAndReleaseLane : Prop :=
  ∀ (s : State) (r : Slot) (l : LaneIx), s.fits l →
    (s.front .holdLane r →
      ((s.lane l).session = .closed → exec (.holdLane true (laneNumber l)) s = .next (s.refusedWith r .noSession))
      ∧ ((s.lane l).session ≠ .closed → (s.gate l).deskHold ≠ none →
        exec (.holdLane true (laneNumber l)) s = .next (s.answered r .noChange (.gate (s.gate l).entries)))
      ∧ ((s.lane l).session ≠ .closed → (s.gate l).deskHold = none →
        ∃ t, t = s.setLane l { s.lane l with gate := { s.gate l with deskHold := some s.clock } }
          ∧ exec (.holdLane true (laneNumber l)) s = .next (t.answered r .ok (.gate (t.gate l).entries))))
    ∧ (s.front .releaseLane r →
      ((s.gate l).deskHold = none →
        exec (.releaseLane true (laneNumber l)) s = .next (s.answered r .noChange (.gate (s.gate l).entries)))
      ∧ ((s.gate l).deskHold ≠ none →
        ∃ t, exec (.releaseLane true (laneNumber l)) s = .next t
          ∧ t.gate l = { s.gate l with deskHold := none }
          ∧ t.link.replies = s.link.replies ++ [⟨0x99, r.tag, .ok, .gate (t.gate l).entries⟩]
          ∧ (t.lane l).queue = (s.lane l).queue ∧ (t.lane l).account = (s.lane l).account ∧ (t.lane l).roster = (s.lane l).roster
          ∧ (∀ k : LaneIx, k ≠ l → t.lane k = s.lane k)
          ∧ ((s.machine l).state ≠ .waiting → t.machine l = s.machine l)
          ∧ (∀ p, (s.machine l).state = .waiting → (s.machine l).pendingCycle = some p →
              ((t.gate l).blocks p.cycle = true → t.machine l = s.machine l)
              ∧ ((t.gate l).blocks p.cycle = false → p.served = false → (t.machine l).state = .cycling
                  ∧ (t.machine l).pendingCycle = none ∧ (t.machine l).cycleInFlight = some p.cycle))))

/-- The reads of a lane, a return or a record are answered OK with the fields of their views and change nothing:
LANE_STATUS, GET_ACCOUNT, GET_HEALTH, RETURN_STATUS without settings, GET_GAME and GET_TEAM. -/
def Obligations.LaneReadsChangeNothing : Prop :=
  ∀ (s : State) (r : Slot) (l : LaneIx), s.fits l →
    (s.front .laneStatus r → exec (.laneStatus true (laneNumber l)) s = .next (s.answered r .ok (.lane (s.laneView l))))
    ∧ (s.front .getHealth r → exec (.getHealth true (laneNumber l)) s = .next (s.answered r .ok (.health (s.healthView l))))
    ∧ (s.front .returnStatus r → exec (.returnStatus true (pairNumber (pairOf l)) none none) s = .next
        (s.answered r .ok (.ballReturn (s.returnView (pairOf l)))))
    ∧ (∀ a, s.front .getAccount r → (s.lane l).account = some a → ((s.lane l).session ≠ .closed ∨ (s.lane l).lastRoster = true) →
        exec (.getAccount true (laneNumber l)) s = .next (s.answered r .ok (.account (s.accountView l a))))
    ∧ (((s.lane l).session ≠ .closed ∨ (s.lane l).lastRoster = true) →
      (∀ (slot game : Nat) (b : Bowler) (g : Game), s.front .getGame r → s.bowler l slot = some b →
        (if game = 0 then b.games.getLast? else b.game game) = some g →
        exec (.getGame true ⟨laneNumber l, slot, game⟩) s = .next (s.answered r .ok (.game (gameView slot b g l))))
      ∧ (∀ game : Nat, s.front .getTeam r → game ≤ (s.lane l).game → (s.lane l).game ≠ 0 →
        exec (.getTeam true (laneNumber l) game) s = .next
          (s.answered r .ok (.team (teamView l (if game = 0 then (s.lane l).game else game) (s.lane l).roster)))))

/-- A lane or pair request whose number is out of range is refused BAD_LANE; one whose station is ABSENT is
refused NOT_FITTED, for a lane whose session is CLOSED; and nothing but the reply changes. -/
def Obligations.PlaceChecksComeFirst : Prop :=
  ∀ (c : Instr) (kind : RequestKind) (isLane : Bool) (n : Nat) (s : State) (r : Slot),
    requestNamed c = some (kind, true, isLane, n) → s.front kind r →
    (numberInRange isLane n = false → exec c s = .next (s.refusedWith r .badLane))
    ∧ (∀ p, numberedPair isLane n = some p → (s.station p).state = .absent →
        (∀ l, findLane n = some l → isLane = true → (s.lane l).session = .closed) →
        exec c s = .next (s.refusedWith r .notFitted))

/-! ### Turn order -/

/-- ADD_BOWLER puts the bowler in the next slot: with a record and a frame-1 turn of the current game while the
lane has not bowled in it and is not REACHED, and otherwise WAITING; and the lane's account is appended an entry for the
slot, its last game counted 0 and its bowled flag clear. SET_BOWLER stores the average and the fixed
handicap, and a return flag YES makes a BLIND or WITHDRAWN bowler WAITING. Which of NO_CHANGE and ADJUSTED
SET_BOWLER gives where both could be read is the model's reading (log 27). -/
def Obligations.AddAndSetBowler : Prop :=
  (∀ (s : State) (r : Slot) (l : LaneIx) (f : AddBowlerFields), s.front .addBowler r → f.lane = laneNumber l → s.fits l →
    (s.lane l).session = .open_ → (s.lane l).roster.length < 8 →
    ∃ t b, exec (.addBowler true f) s = .next t ∧ (t.lane l).roster = (s.lane l).roster ++ [b]
      ∧ b.name = storedName f.name ∧ b.average = min 300 f.average ∧ b.fixed = f.fixed.map (min 300)
      ∧ ((s.hasBowled l = true ∨ (s.lane l).boundary = .reached) → b.state = .waiting ∧ b.games = []
          ∧ (∀ k : LaneIx, (t.lane k).queue = (s.lane k).queue) ∧ ∀ k : LaneIx, k ≠ l → t.lane k = s.lane k)
      ∧ (s.hasBowled l = false → (s.lane l).boundary = .unmarked → b.state = .active
          ∧ (∃ g, b.games = [g] ∧ g.number = (s.lane l).game ∧ g.state = .inProgress
              ∧ g.handicap = handicapOf (s.lane l).settings (min 300 f.average) (f.fixed.map (min 300)))
          ∧ (t.lane (s.lane l).startLane).queue
              = (s.lane (s.lane l).startLane).queue ++ [⟨l, (s.lane l).roster.length + 1, (s.lane l).game, 1⟩]
          ∧ ∀ k : LaneIx, k ≠ (s.lane l).startLane → (t.lane k).queue = (s.lane k).queue)
      ∧ (t.lane l).account = (s.lane l).account.map (fun a =>
          { a with entries := a.entries ++ [⟨(s.lane l).roster.length + 1, 0, false⟩] })
      ∧ t.clock = s.clock ∧ t.meter = s.meter ∧ t.hold = s.hold)
  ∧ (∀ (s : State) (r : Slot) (l : LaneIx) (f : SetBowlerFields) (b : Bowler), s.front .setBowler r → f.lane = laneNumber l →
    s.fits l → (s.lane l).session ≠ .closed → s.bowler l f.slot = some b →
    ∃ b' : Bowler, b' = { b with
        average := min 300 f.average, fixed := f.fixed.map (min 300)
        state := if f.ret = .yes ∧ (b.state = .blind ∨ b.state = .withdrawn) then .waiting else b.state }
      ∧ exec (.setBowler true f) s = .next (State.answered
          (s.setLane l { s.lane l with roster := (s.lane l).roster.set (f.slot - 1) b' }) r
          (if 300 < f.average ∨ f.fixed.map (min 300) ≠ f.fixed ∨ f.ret = .other then .adjusted
            else if b' = b then .noChange else .ok)
          (.bowler f.slot none b'.average b'.fixed b'.state)))

/-- WITHDRAW_BOWLER and MARK_BLIND of a bowler whose game is in progress take its turn out of both queues, end its
record WITHDRAWN or BLIND, and answer OK; a bowler mid-frame, or for MARK_BLIND one who has bowled, is refused
FRAME_OPEN; a bowler who does not play changes state alone. A playing bowler is taken as holding no record past the
lane's current game, and for MARK_BLIND the current game's as its newest, its game numbers distinct (they rise, R67).
The body of a NO_CHANGE reply is the model's reading (log 27). -/
def Obligations.WithdrawAndMarkBlind : Prop :=
  ∀ (s : State) (r : Slot) (l : LaneIx) (slot : Nat) (b : Bowler), s.fits l → (s.lane l).session ≠ .closed →
    s.bowler l slot = some b →
    (s.front .withdrawBowler r →
      (b.state = .withdrawn → exec (.withdrawBowler true (laneNumber l) slot) s = .next (s.answered r .noChange
          (.withdrawn slot .withdrawn (s.recordState l slot (s.lane l).game))))
      ∧ (b.state ≠ .withdrawn → s.bowlerMidFrame l slot = true →
        exec (.withdrawBowler true (laneNumber l) slot) s = .next (s.refusedWith r .frameOpen))
      ∧ (b.state ≠ .withdrawn → s.bowlerMidFrame l slot = false → b.playing (s.lane l).game = false →
        ∃ body, exec (.withdrawBowler true (laneNumber l) slot) s = .next (State.answered
          (s.setLane l { s.lane l with roster := (s.lane l).roster.set (slot - 1) { b with state := .withdrawn } }) r .ok body))
      ∧ (b.playing (s.lane l).game = true → s.bowlerMidFrame l slot = false → b.game ((s.lane l).game + 1) = none →
        ∃ t b', exec (.withdrawBowler true (laneNumber l) slot) s = .next t ∧ t.bowler l slot = some b'
          ∧ b'.state = .withdrawn ∧ ((b'.game (s.lane l).game).map (·.state)) = some .withdrawn
          ∧ (∀ u ∈ (t.lane l).queue ++ (t.lane (partner l)).queue, u.home = l → u.slot ≠ slot)
          ∧ t.link.slots = markBuilt s.link.slots
          ∧ t.link.replies = s.link.replies ++ [⟨0x94, r.tag, .ok, .withdrawn slot .withdrawn (some .withdrawn)⟩]))
    ∧ (s.front .markBlind r →
      (b.state = .withdrawn → exec (.markBlind true (laneNumber l) slot) s = .next (s.refusedWith r .wrongState))
      ∧ (b.state = .blind →
        exec (.markBlind true (laneNumber l) slot) s = .next (s.answered r .noChange (.blind slot .blind none)))
      ∧ (b.state = .active ∨ b.state = .waiting → s.gameBegun l slot b = true →
        exec (.markBlind true (laneNumber l) slot) s = .next (s.refusedWith r .frameOpen))
      ∧ (b.state = .active ∨ b.state = .waiting → s.gameBegun l slot b = false → b.playing (s.lane l).game = false →
        exec (.markBlind true (laneNumber l) slot) s = .next (State.answered
          (s.setLane l { s.lane l with roster := (s.lane l).roster.set (slot - 1) { b with state := .blind } }) r .ok
          (.blind slot .blind none)))
      ∧ (b.playing (s.lane l).game = true → s.gameBegun l slot b = false → b.game ((s.lane l).game + 1) = none →
          (b.games.getLast?.map (·.number)) = some (s.lane l).game → (b.games.map (·.number)).Nodup →
        ∃ t b' g', exec (.markBlind true (laneNumber l) slot) s = .next t ∧ t.bowler l slot = some b'
          ∧ b'.state = .blind ∧ b'.game (s.lane l).game = some g' ∧ g'.state = .blind
          ∧ g'.blindScore = some (b.applied - (s.lane l).settings.penalty)
          ∧ (∀ u ∈ (t.lane l).queue ++ (t.lane (partner l)).queue, u.home = l → u.slot ≠ slot)
          ∧ t.link.slots = markBuilt s.link.slots
          ∧ t.link.replies = s.link.replies ++ [⟨0x95, r.tag, .ok, .blind slot .blind (some
              (b.applied - (s.lane l).settings.penalty, g'.handicap))⟩]))

/-- SKIP_TURN moves the head turn to the tail of its queue. The hand-offs of the new head follow: TURN_UP is queued;
BLM is told the head, and raises BILLING for a turn its account forbids and clears it for any other; and PSV wakes a
machine POWERED_DOWN or in STANDBY, or readies one READY or DECK_EMPTY, with no health removal pending, for a bowler who
begins a frame. A head mid-frame is refused FRAME_OPEN and a queue of fewer than two turns WRONG_STATE. -/
def Obligations.SkipTurnMovesTheHead : Prop :=
  let forbids (a : Account) (u : Turn) : Prop := (a.mode = .prepaidTime ∧ a.allowanceOut = true)
    ∨ (a.mode = .prepaidGames ∧ a.used = a.allowance ∧ a.lastCounted u.slot < u.game)
  ∀ (s : State) (r : Slot) (l : LaneIx), s.front .skipTurn r → s.fits l → (s.lane l).session ≠ .closed →
    (∀ t u rest, (s.lane l).queue = t :: u :: rest → s.midFrame t = false →
      ∃ s', exec (.skipTurn true (laneNumber l)) s = .next s' ∧ (s'.lane l).queue = u :: rest ++ [t]
        ∧ (s'.lane l).roster = (s.lane l).roster ∧ (s'.lane l).account = (s.lane l).account
        ∧ (s'.lane l).session = (s.lane l).session ∧ (∀ k : LaneIx, k ≠ l → s'.lane k = s.lane k)
        ∧ s'.link.replies = s.link.replies ++ [⟨0x96, r.tag, .ok, .queue (u :: rest ++ [t])⟩]
        ∧ s'.clock = s.clock ∧ s'.meter = s.meter ∧ s'.hold = s.hold
        ∧ (u ≠ t →
          (s.link.reports.length < 48 →
            .turnUp l u (((s.bowler u.home u.slot).map (·.name)).getD []) ∈ s'.link.reports)
          ∧ (s'.lane l).head = some u
          ∧ ((∃ a, (s.lane u.home).account = some a ∧ forbids a u) →
              (s'.gate l).billing = some ((s.gate l).billing.getD s.clock))
          ∧ ((∀ a, (s.lane u.home).account = some a → ¬forbids a u) → (s'.gate l).billing = none)
          ∧ ((s.machine l).state = .poweredDown ∨ (s.machine l).state = .standby → (s'.machine l).state = .waking)
          ∧ ((s.machine l).state = .ready ∨ (s.machine l).state = .deckEmpty → s.standingNeed u = .newFrame →
              (s.machine l).removal ≠ .health →
              if (s'.gate l).blocks (.fullRack .newFrame) = true then (s'.machine l).state = .waiting
                ∧ (s'.machine l).pendingCycle
                  = some ⟨.fullRack .newFrame, decide ((s.machine l).deck = .full), some u, some .newFrame⟩
              else if (s.machine l).deck = .full then (s'.machine l).state = .ready
              else (s'.machine l).state = .cycling ∧ (s'.machine l).cycleInFlight = some (.fullRack .newFrame))))
    ∧ (∀ t rest, (s.lane l).queue = t :: rest → s.midFrame t = true →
      exec (.skipTurn true (laneNumber l)) s = .next (s.refusedWith r .frameOpen))
    ∧ (∀ t, (s.lane l).queue = [t] → s.midFrame t = false →
      exec (.skipTurn true (laneNumber l)) s = .next (s.refusedWith r .wrongState))
    ∧ ((s.lane l).queue = [] → exec (.skipTurn true (laneNumber l)) s = .next (s.refusedWith r .wrongState))

/-- PAIR_MODE: the mode in force answers NO_CHANGE and cancels a pending mode; ALTERNATE needs both lanes OPEN; a change
is pending once a lane has bowled, and otherwise takes effect at once. For SEPARATE, where the turns are sound, each
team's turns then stand on its home lane, those brought from the partner behind those there. Neither lane is taken as
REACHED where one could be taken on. -/
def Obligations.PairModeTakesEffectOrWaits : Prop :=
  ∀ (s : State) (r : Slot) (p : PairIx) (m : PairMode), s.front .pairMode r → (s.station p).state ≠ .absent →
    (m = (s.pair p).mode → (s.pair p).pendingMode = none →
      exec (.pairMode true (pairNumber p) (some m)) s = .next (s.answered r .noChange (.pairMode p m none)))
    ∧ (∀ pend, m = (s.pair p).mode → (s.pair p).pendingMode = some pend → (s.lane (laneA p)).boundary = .unmarked →
        (s.lane (laneB p)).boundary = .unmarked →
      exec (.pairMode true (pairNumber p) (some m)) s = .next (State.answered
        (s.setPair p { s.pair p with pendingMode := none }) r .noChange (.pairMode p m none)))
    ∧ (m ≠ (s.pair p).mode → m = .alternate →
      ¬((s.lane (laneA p)).session = .open_ ∧ (s.lane (laneB p)).session = .open_) →
      exec (.pairMode true (pairNumber p) (some m)) s = .next (s.refusedWith r .noSession))
    ∧ (m ≠ (s.pair p).mode → (m = .alternate → (s.lane (laneA p)).session = .open_ ∧ (s.lane (laneB p)).session = .open_) →
      (s.hasBowled (laneA p) = true ∨ s.hasBowled (laneB p) = true →
        exec (.pairMode true (pairNumber p) (some m)) s = .next (State.answered
          (s.setPair p { s.pair p with pendingMode := some m }) r .ok (.pairMode p (s.pair p).mode (some m))))
      ∧ (s.hasBowled (laneA p) = false → s.hasBowled (laneB p) = false → (s.lane (laneA p)).boundary = .unmarked →
          (s.lane (laneB p)).boundary = .unmarked →
        ∃ t, exec (.pairMode true (pairNumber p) (some m)) s = .next t ∧ (t.pair p).mode = m ∧ (t.pair p).pendingMode = none
          ∧ (m = .alternate → ∀ k : LaneIx, (t.lane k).queue = (s.lane k).queue)
          ∧ (m = .separate → (t.lane (laneA p)).startLane = laneA p ∧ (t.lane (laneB p)).startLane = laneB p)
          ∧ (m = .separate → s.turnsSound → ∀ l : LaneIx, pairOf l = p → (t.lane l).queue
              = (s.lane l).queue.filter (fun u => u.home = l) ++ (s.lane (partner l)).queue.filter (fun u => u.home = l))
          ∧ t.link.slots = markBuilt s.link.slots
          ∧ t.link.replies = s.link.replies ++ [⟨0x97, r.tag, .ok, .pairMode p m none⟩]))
    ∧ exec (.pairMode true (pairNumber p) none) s = .next
        (s.answered r .adjusted (.pairMode p (s.pair p).mode (s.pair p).pendingMode))

/-- The end of a frame below the tenth takes the head turn off its lane and puts the bowler's next frame at the tail of
the same lane in SEPARATE, and of the other lane of the pair in ALTERNATE. The end of a tenth frame takes the turn away.
It leaves the bowler's home lane as it stands while a game of it is in progress, and otherwise brings it to its
boundary: a SEPARATE lane ends its series, is held, or goes on to its next game at home; an ALTERNATE lane waits for its
partner, and then both go on, each on the lane opposite its last start, or, where a series ends, the pair becomes SEPARATE
and each lane goes its own way. No bowler is taken as holding a record of the next game. -/
def Obligations.FrameOverMovesPlayOn : Prop :=
  ∀ (s : State) (l : LaneIx) (t : Turn) (rest : List Turn), (s.lane l).queue = t :: rest →
    let s' := s.frameOver l
    let next : Turn := ⟨t.home, t.slot, t.game, t.frame + 1⟩
    let h := t.home
    let p := pairOf l
    let left (k : LaneIx) : List Turn := if k = l then rest else (s.lane k).queue
    let team (start k : LaneIx) (g : LaneIx) : List Turn := if start = k then s.nextTurns g else []
    let kept (k : LaneIx) : Prop := (s'.lane k).game = (s.lane k).game ∧ (s'.lane k).session = (s.lane k).session
      ∧ (s'.lane k).roster = (s.lane k).roster ∧ (s'.lane k).startLane = (s.lane k).startLane
    let alone (k : LaneIx) : Prop := if s.seriesEnds k = true then
        (s'.lane k).session = .seriesDone ∧ (s'.lane k).boundary = .unmarked ∧ (s'.lane k).game = (s.lane k).game
          ∧ (s'.lane k).roster = (s.lane k).roster
      else if s.hold = true then (s'.lane k).boundary = .reached ∧ kept k
      else s.wentOn s' k k
    (t.frame < 10 →
      ((s.pair p).mode = .separate → (s'.lane l).queue = rest ++ [next] ∧ ∀ k : LaneIx, k ≠ l → (s'.lane k).queue = (s.lane k).queue)
      ∧ ((s.pair p).mode = .alternate → (s'.lane l).queue = rest ∧ (s'.lane (partner l)).queue = (s.lane (partner l)).queue ++ [next]
        ∧ ∀ k : LaneIx, k ≠ l → k ≠ partner l → (s'.lane k).queue = (s.lane k).queue))
    ∧ (10 ≤ t.frame → (s.lane h).session ≠ .open_ ∨ s.gameEnded h = false →
      ∀ k : LaneIx, (s'.lane k).queue = left k ∧ (s'.lane k).boundary = (s.lane k).boundary ∧ kept k)
    ∧ (10 ≤ t.frame → (s.lane h).session = .open_ → (s.lane h).boundary = .unmarked → s.gameEnded h = true → pairOf h = p →
        s.nextUnplayed (laneA p) → s.nextUnplayed (laneB p) →
      (s.link.reports.length < 40 → s.teamDone h ∈ s'.link.reports)
      ∧ ((s.pair p).mode = .separate → (s.pair p).pendingMode = none → h = l →
        alone l ∧ (∀ k : LaneIx, k ≠ l → s'.lane k = s.lane k)
        ∧ (s'.lane l).queue = (if s.seriesEnds l = true ∨ s.hold = true then rest else rest ++ s.nextTurns l))
      ∧ ((s.pair p).mode = .alternate → (s.pair p).pendingMode = none →
        ((s.lane (partner h)).boundary = .unmarked → (s'.lane h).boundary = .reached ∧ s'.pair p = { s.pair p with
              station := s'.station p }
            ∧ ∀ k : LaneIx, (s'.lane k).queue = left k ∧ kept k)
        ∧ ((s.lane (partner h)).boundary = .reached →
          (s.eitherEnds p = false → s.hold = false → (s'.pair p).mode = .alternate
            ∧ ∃ a b : LaneIx, a = partner (s.lane (laneA p)).startLane ∧ b = partner (s.lane (laneB p)).startLane
              ∧ s.wentOn s' (laneA p) a ∧ s.wentOn s' (laneB p) b
              ∧ ∀ k : LaneIx, (s'.lane k).queue = left k ++ team a k (laneA p) ++ team b k (laneB p))
          ∧ (s.eitherEnds p = false → s.hold = true → (s'.pair p).mode = .alternate ∧ (s'.lane h).boundary = .reached
            ∧ ∀ k : LaneIx, (s'.lane k).queue = left k ∧ kept k)
          ∧ (s.eitherEnds p = true → (s'.pair p).mode = .separate ∧ alone (laneA p) ∧ alone (laneB p)))))

/-! ### Game records -/

/-- ACK_CHECK acknowledges the OPEN checks of the balls named, or answers NO_CHANGE; it is refused CERTIFIED on a
CERTIFIED record. -/
def Obligations.AckCheckAcknowledges : Prop :=
  ∀ (s : State) (r : Slot) (l : LaneIx) (slot game frame : Nat) (ball : Option Nat) (b : Bowler) (g : Game),
    s.front .ackCheck r → s.fits l → ((s.lane l).session ≠ .closed ∨ (s.lane l).lastRoster = true) →
    s.bowler l slot = some b → b.game game = some g →
    (g.state = .certified → exec (.ackCheck true ⟨laneNumber l, slot, game⟩ frame ball) s = .next (s.refusedWith r .certified))
    ∧ (g.state ≠ .certified → 1 ≤ frame → frame ≤ 10 → (∀ n, ball = some n → 1 ≤ n ∧ n ≤ 3 ∧ n ≤ (g.frame frame).balls.length) →
      let old := (g.frame frame).balls
      ∃ acked : List Ball, acked.length = old.length
        ∧ (∀ (i : Nat) (x : Ball), old[i]? = some x → acked[i]? = some
            (if (ball = none ∨ ball = some (i + 1)) ∧ x.check = .open_ then { x with check := .acknowledged } else x))
        ∧ (acked = old → exec (.ackCheck true ⟨laneNumber l, slot, game⟩ frame ball) s = .next
            (s.answered r .noChange (.checks l slot game frame (acked.map (·.check)))))
        ∧ (acked ≠ old →
          let b' := b.modGame game fun g => g.modFrame frame fun f => { f with balls := acked }
          exec (.ackCheck true ⟨laneNumber l, slot, game⟩ frame ball) s = .next (State.answered
            (s.setLane l { s.lane l with roster := (s.lane l).roster.set (slot - 1) b' }) r .ok
            (.checks l slot game frame (acked.map (·.check))))))

/-- CORRECT_FRAME on a completed frame stores the balls given with the mark their pinfalls make, sets the corrected flag
and re-resolves from two frames before; the frames before those, the state and the handicap are kept; and a FINISHED
record queues GAME_CORRECTED with its new total. A list that is no valid completed frame is refused BAD_VALUE, which for
a list of no entries or of more than 3 is the model's choice (log 8). -/
def Obligations.CorrectFrameRewritesTheFrame : Prop :=
  ∀ (s : State) (r : Slot) (l : LaneIx) (slot game frame : Nat) (balls : List BallField) (b : Bowler) (g : Game),
    s.front .correctFrame r → s.fits l → ((s.lane l).session ≠ .closed ∨ (s.lane l).lastRoster = true) →
    s.bowler l slot = some b → b.game game = some g → g.state ≠ .certified → g.state ≠ .blind → 1 ≤ frame → frame ≤ 10 →
    (g.frame frame).mark.complete = true →
    (validFrame frame balls = false →
      exec (.correctFrame true ⟨laneNumber l, slot, game⟩ frame balls) s = .next (s.refusedWith r .badValue))
    ∧ (validFrame frame balls = true →
      ∃ t g', exec (.correctFrame true ⟨laneNumber l, slot, game⟩ frame balls) s = .next t
        ∧ (t.bowler l slot).bind (·.game game) = some g' ∧ g'.state = g.state ∧ g'.handicap = g.handicap
        ∧ g'.number = g.number ∧ (g'.frame frame).corrected = true ∧ (g'.frame frame).lane = (g.frame frame).lane
        ∧ (g'.frame frame).balls = balls.map (fun x => ⟨x.pinfall, x.foul, none, none, false, .clear, none⟩)
        ∧ (g'.frame frame).mark = (match balls.map (·.pinfall) with
            | 10 :: _ => .strike
            | x :: y :: _ => if x + y = 10 then .spare else .open_
            | _ => .open_)
        ∧ (∀ n, 1 ≤ n → n ≤ 10 → n ≠ frame → (g'.frame n).balls = (g.frame n).balls ∧ (g'.frame n).mark = (g.frame n).mark)
        ∧ (∀ n, 1 ≤ n → n + 2 < frame → g'.frame n = g.frame n)
        ∧ (∀ n, 1 ≤ n → n ≤ 10 → frame ≤ n + 2 → (g'.frame n).score = scoreOf g'.frames.toList (n - 1))
        ∧ (t.lane l).queue = (s.lane l).queue ∧ (t.lane l).account = (s.lane l).account ∧ t.machine l = s.machine l
        ∧ t.gate l = s.gate l ∧ (∀ k : LaneIx, k ≠ l → t.lane k = s.lane k) ∧ t.pairs = s.pairs
        ∧ (g.state ≠ .finished → t.link.reports = s.link.reports)
        ∧ (g.state = .finished → ∀ n, (g'.frame 10).cumulative = some n → t.link.reports
            = (Link.queue (.gameCorrected l slot game frame n g.handicap (n + g.handicap)) s.link).reports))

/-- CERTIFY_GAME certifies every record of the game number at once, each from the state it left; it is refused
while one is IN_PROGRESS or carries an OPEN check. -/
def Obligations.CertifyGameCertifiesTheTeam : Prop :=
  ∀ (s : State) (r : Slot) (l : LaneIx) (game : Nat), s.front .certifyGame r → s.fits l →
    ((s.lane l).session ≠ .closed ∨ (s.lane l).lastRoster = true) →
    1 ≤ game → game ≤ (s.lane l).game → (∀ b ∈ (s.lane l).roster, b.gone game = false) →
    (∃ b ∈ (s.lane l).roster, (b.game game).isSome = true) →
    let all (P : Game → Prop) : Prop := ∀ b ∈ (s.lane l).roster, ∀ g, b.game game = some g → P g
    (¬all (fun g => g.state ≠ .inProgress) → exec (.certifyGame true (laneNumber l) game) s = .next (s.refusedWith r .notFinished))
    ∧ (all (fun g => g.state ≠ .inProgress) → ¬all (fun g => g.checkOpen = false) →
      exec (.certifyGame true (laneNumber l) game) s = .next (s.refusedWith r .checkOpen))
    ∧ (all (fun g => g.state ≠ .inProgress) → all (fun g => g.checkOpen = false) → ¬all (fun g => g.state = .certified) →
      ∃ roster body, exec (.certifyGame true (laneNumber l) game) s = .next
          (State.answered (s.setLane l { s.lane l with roster := roster }) r .ok body)
        ∧ roster.length = (s.lane l).roster.length
        ∧ ∀ (i : Nat) (b : Bowler), (s.lane l).roster[i]? = some b → ∃ b', roster[i]? = some b' ∧ b'.name = b.name
            ∧ b'.state = b.state ∧ b'.games.length = b.games.length
            ∧ ∀ g, b.game game = some g → ∃ g', b'.game game = some g' ∧ g'.state = .certified ∧ g'.frames = g.frames
              ∧ g'.handicap = g.handicap
              ∧ g'.certifiedFrom = (if g.state = .certified then g.certifiedFrom else some g.state))

/-! ### Accounts -/

/-- ADD_CREDIT raises a prepaid allowance, held at its limit, and clears the out and warned flags as they apply;
the other modes are refused WRONG_STATE. Where the lane's head is its own and its time is no longer spent, BILLING
leaves the gate. -/
def Obligations.AddCreditRaisesTheAllowance : Prop :=
  ∀ (s : State) (r : Slot) (l : LaneIx) (amount : Nat) (a : Account), s.front .addCredit r → s.fits l →
    (s.lane l).session ≠ .closed → (s.lane l).account = some a →
    (a.mode ≠ .prepaidTime → a.mode ≠ .prepaidGames →
      exec (.addCredit true (laneNumber l) amount) s = .next (s.refusedWith r .wrongState))
    ∧ (∀ limit, (a.mode = .prepaidTime ∧ limit = 999) ∨ (a.mode = .prepaidGames ∧ limit = 99) →
      (amount = 0 ∨ limit ≤ a.allowance → ∃ body,
        exec (.addCredit true (laneNumber l) amount) s = .next (s.answered r .noChange body))
      ∧ (amount ≠ 0 → a.allowance < limit →
        ∃ t body, exec (.addCredit true (laneNumber l) amount) s = .next t
          ∧ (t.lane l).account = some { a with
              allowance := min limit (a.allowance + amount)
              allowanceOut := a.allowanceOut && !(decide (a.used < min limit (a.allowance + amount)))
              warned := a.warned && !(decide (a.mode = .prepaidTime)
                && decide (a.used < min limit (a.allowance + amount) - s.meter.settings.warningLead)) }
          ∧ t.link.replies = s.link.replies
              ++ [⟨0xA9, r.tag, if limit < a.allowance + amount then .adjusted else .ok, body⟩]
          ∧ (∀ k : LaneIx, k ≠ l → (t.lane k).account = (s.lane k).account) ∧ (∀ k : LaneIx, (t.lane k).queue = (s.lane k).queue)
          ∧ (∀ u, (s.lane l).head = some u → u.home = l → a.mode = .prepaidTime →
              a.used < min limit (a.allowance + amount) → (t.gate l).billing = none)
          ∧ t.clock = s.clock ∧ t.meter = s.meter ∧ t.hold = s.hold))

/-! ### Machines -/

/-- MACHINE_POWER on wakes a lane POWERED_DOWN or STANDBY (in a discovery pass too: log 35); off powers down a CLOSED lane at rest whose minimum
on-time has elapsed, is pending where it has not, and is refused SESSION_OPEN while a session runs and WRONG_STATE
while a ball, a cycle, a jam or a loss stands. -/
def Obligations.MachinePowerOnAndOff : Prop :=
  ∀ (s : State) (r : Slot) (l : LaneIx), s.front .machinePower r → s.fits l → (s.station (pairOf l)).state ≠ .resetting →
    ((s.machine l).state = .poweredDown ∨ (s.machine l).state = .standby →
      ∃ t, exec (.machinePowerOn true (laneNumber l) true) s = .next t ∧ (t.machine l).state = .waking
        ∧ (t.machine l).warmed = false ∧ (t.machine l).powerOffPending = false ∧ t.powerOrder l = .on
        ∧ (t.machine l).timer = some ⟨.warmUp, s.returnClock, (s.pair (pairOf l)).settings.warmUp⟩
        ∧ (∀ k : LaneIx, k ≠ l → t.lane k = s.lane k) ∧ t.link.slots = markBuilt s.link.slots)
    ∧ ((s.machine l).state = .outOfService ∨ (s.machine l).state = .linkLost →
      exec (.machinePowerOn true (laneNumber l) true) s = .next (s.refusedWith r .wrongState))
    ∧ ((s.machine l).state = .ballDown ∨ (s.machine l).state = .reading ∨ (s.machine l).state = .cycling
        ∨ (s.machine l).state = .linkLost ∨ (s.machine l).state = .jammed →
      exec (.machinePowerOff true (laneNumber l) true) s = .next (s.refusedWith r .wrongState))
    ∧ ((s.machine l).state = .waking ∨ (s.machine l).state = .deckEmpty ∨ (s.machine l).state = .waiting
        ∨ (s.machine l).state = .ready →
      ((s.lane l).session ≠ .closed → exec (.machinePowerOff true (laneNumber l) true) s = .next (s.refusedWith r .sessionOpen))
      ∧ ((s.lane l).session = .closed → (s.machine l).powerOffPending = false →
        (s.minOnElapsed l = true →
          ∃ t, exec (.machinePowerOff true (laneNumber l) true) s = .next t ∧ (t.machine l).state = .poweredDown
            ∧ (t.machine l).deck = .unknown ∧ (t.machine l).warmed = false ∧ (t.machine l).pendingCycle = none
            ∧ t.powerOrder l = .off ∧ (∀ k : LaneIx, k ≠ l → t.lane k = s.lane k) ∧ t.link.slots = markBuilt s.link.slots)
        ∧ (s.minOnElapsed l = false → ∃ t body,
            t = s.setLane l { s.lane l with machine := { s.machine l with powerOffPending := true } }
            ∧ exec (.machinePowerOff true (laneNumber l) true) s = .next (t.answered r .ok body))))
    ∧ (exec (.machinePowerOn true (laneNumber l) false) s = .next (s.refusedWith r .badValue)
      ∧ exec (.machinePowerOff true (laneNumber l) false) s = .next (s.refusedWith r .badValue))

/-- CLEAR_JAM is refused WRONG_STATE outside JAMMED; in JAMMED it issues RECOVER, or keeps it pending while a
cycle reason stands; jam standing stays set. -/
def Obligations.ClearJamStartsTheRecovery : Prop :=
  ∀ (s : State) (r : Slot) (l : LaneIx), s.front .clearJam r → s.fits l →
    ((s.station (pairOf l)).state = .resetting →
      exec (.clearJam true (laneNumber l)) s = .next (s.refusedWith r .machineBusy))
    ∧ ((s.station (pairOf l)).state ≠ .resetting →
      ((s.machine l).state ≠ .jammed → exec (.clearJam true (laneNumber l)) s = .next (s.refusedWith r .wrongState))
      ∧ ((s.machine l).state = .jammed →
        ∃ t, exec (.clearJam true (laneNumber l)) s = .next t ∧ (t.machine l).jamStanding = (s.machine l).jamStanding
          ∧ (∀ k : LaneIx, k ≠ l → t.lane k = s.lane k) ∧ t.gate l = s.gate l ∧ (t.lane l).queue = (s.lane l).queue
          ∧ (if (s.gate l).deskHold = none ∧ (s.gate l).returnBacklog = none then
              (t.machine l).state = .cycling ∧ (t.machine l).cycleInFlight = some .recover ∧ (t.machine l).pendingCycle = none
              ∧ t.link.replies = s.link.replies ++ [⟨0xB2, r.tag, .ok, .jam l .cycling none⟩]
            else (t.machine l).state = .waiting ∧ (t.machine l).pendingCycle = some ⟨.recover, false, s.headTurn l, s.headNeed l⟩
              ∧ t.link.replies = s.link.replies ++ [⟨0xB2, r.tag, .ok, .jam l .waiting (some .recover)⟩])))

/-- SERVICE OUT takes a lane out of service at once, or marks the removal while a ball or a cycle stands; SERVICE IN
brings a lane that is OUT_OF_SERVICE back to POWERED_DOWN, or to WAKING where a turn stands at its head. -/
def Obligations.ServiceOutAndIn : Prop :=
  ∀ (s : State) (r : Slot) (l : LaneIx), s.front .service r → s.fits l → (s.station (pairOf l)).state ≠ .resetting →
    ((s.machine l).service = .in_ →
      ((s.machine l).state = .ballDown ∨ (s.machine l).state = .reading ∨ (s.machine l).state = .cycling →
        ∃ t, t = s.setLane l { s.lane l with machine := { s.machine l with service := .out, removal := .desk } }
          ∧ exec (.serviceOut true (laneNumber l) true) s = .next
              (t.answered r .ok (.service l .out (s.machine l).state .desk)))
      ∧ ((s.machine l).state = .poweredDown ∨ (s.machine l).state = .deckEmpty ∨ (s.machine l).state = .waiting
          ∨ (s.machine l).state = .ready ∨ (s.machine l).state = .standby ∨ (s.machine l).state = .jammed
          ∨ (s.machine l).state = .waking →
        ∃ t, exec (.serviceOut true (laneNumber l) true) s = .next t ∧ (t.machine l).state = .outOfService
          ∧ (t.machine l).service = .out ∧ (t.machine l).deck = .unknown ∧ (t.machine l).warmed = false
          ∧ (t.machine l).pendingCycle = none ∧ (t.machine l).removal = .unordered ∧ t.powerOrder l = .off
          ∧ (t.lane l).queue = (s.lane l).queue ∧ t.gate l = s.gate l ∧ (∀ k : LaneIx, k ≠ l → t.lane k = s.lane k)
          ∧ t.link.replies = s.link.replies ++ [⟨0xB3, r.tag, .ok, .service l .out .outOfService .unordered⟩])
      ∧ ∃ body, exec (.serviceIn true (laneNumber l) true) s = .next (s.answered r .noChange body))
    ∧ ((s.machine l).service = .out →
      (∃ body, exec (.serviceOut true (laneNumber l) true) s = .next (s.answered r .noChange body))
      ∧ ((s.machine l).state = .outOfService →
        ∃ t, exec (.serviceIn true (laneNumber l) true) s = .next t ∧ (t.machine l).service = .in_
          ∧ (t.machine l).state = (if (s.headTurn l).isSome then .waking else .poweredDown)
          ∧ (t.lane l).queue = (s.lane l).queue ∧ (∀ k : LaneIx, k ≠ l → t.lane k = s.lane k)
          ∧ t.link.slots = markBuilt s.link.slots))

/-! ### Health -/

/-- SET_HEALTH stores the policy, thresholds and preloads it carries and tests each attribute it changes: DISABLED
at threshold 0, ARMED at or below the threshold, ALERTED above it; an attribute it does not change keeps its alert
state, and the window's counts stand. -/
def Obligations.SetHealthStoresAndTests : Prop :=
  ∀ (s : State) (r : Slot) (l : LaneIx) (f : HealthFields), s.front .setHealth r → f.lane = laneNumber l → s.fits l →
    let held (limit : Nat) (given : Option Nat) (kept : Nat) : Nat := match given with
      | none => kept
      | some n => min limit n
    let tested (old : Attr) (value threshold : Nat) (preloaded : Bool) : Attr :=
      if value = old.value ∧ threshold = old.threshold ∧ preloaded = false then old
      else ⟨value, threshold, if threshold = 0 then .disabled else if value ≤ threshold then .armed else .alerted⟩
    let h := (s.lane l).health
    let q := (s.pair (pairOf l)).health
    ∃ t, exec (.setHealth true f) s = .next t
      ∧ (t.lane l).health = { h with
          policy := (match f.policy with
            | some .report => .report
            | some .remove => .remove
            | some .other => h.policy
            | none => h.policy)
          sampled := h.sampled || f.cycleTimePreload.isSome
          cycleTime := tested h.cycleTime (held 300 f.cycleTimePreload h.cycleTime.value)
            (held 300 f.cycleTimeThreshold h.cycleTime.threshold) (f.cycleTimePreload.isSome && !h.sampled)
          jamWindow := tested h.jamWindow h.jamWindow.value (held 256 f.jamWindowThreshold h.jamWindow.threshold) false
          respotMiss := tested h.respotMiss h.respotMiss.value (held 256 f.respotMissThreshold h.respotMiss.threshold) false
          cycles := tested h.cycles (held 16777215 f.cyclesPreload h.cycles.value)
            (held 16777215 f.cyclesThreshold h.cycles.threshold) false }
      ∧ (t.pair (pairOf l)).health = { q with
          sampled := q.sampled || f.returnTimePreload.isSome
          returnTime := tested q.returnTime ((f.returnTimePreload.map (·.toNat)).getD q.returnTime.value)
            ((f.returnTimeThreshold.map (·.toNat)).getD q.returnTime.threshold) (f.returnTimePreload.isSome && !q.sampled) }
      ∧ (t.lane l).queue = (s.lane l).queue ∧ t.gate l = s.gate l ∧ (∀ k : LaneIx, k ≠ l → t.lane k = s.lane k)
      ∧ t.link.slots = markBuilt s.link.slots

/-! ### Stations and returns -/

/-- STATION_RESET sets the station RESETTING with its hold, clears its commands and makes the RESET poll due; the
fitted lanes of a station that was polled are LINK_LOST and its pair out of reach. -/
def Obligations.StationResetHoldsTheStation : Prop :=
  ∀ (s : State) (r : Slot) (p : PairIx) (hold : Byte), s.front .stationReset r → (s.station p).state ≠ .absent →
    ∃ t applied, applied = max 1 hold.toNat ∧ exec (.stationReset true (pairNumber p) hold) s = .next t
      ∧ (t.station p).state = .resetting ∧ (t.station p).holdRemaining = applied ∧ (t.station p).holding = true
      ∧ (t.station p).missed = 0 ∧ (t.station p).commandA = none ∧ (t.station p).commandB = none
      ∧ (t.station p).lastEvent = none ∧ (t.station p).cls = (s.station p).cls ∧ (t.station p).fitted = (s.station p).fitted
      ∧ t.bus.due.getLast? = some ⟨p, .resetPoll applied⟩
      ∧ ((s.station p).state.polled = true →
          (t.ret p).outOfReach = true ∧ ∀ l ∈ s.fittedLanes p, (t.machine l).state = .linkLost)
      ∧ ((s.station p).state.polled = false → t.lanes = s.lanes)
      ∧ t.link.replies = s.link.replies
          ++ [⟨0xB7, r.tag, if hold = 0 then .adjusted else .ok, .station p applied .resetting⟩]
      ∧ (∀ q : PairIx, q ≠ p → t.pair q = s.pair q) ∧ (∀ k : LaneIx, pairOf k ≠ p → t.lane k = s.lane k)

/-- RETURN_STATUS with settings stores the rack threshold, 4 to 12, and the return timeout, 5 to 60, lowers a rack
count past the new threshold's limit to it, and makes the pause test where the threshold changed.
CLEAR_RETURN_JAM writes the track off, stores the rack count held at F + 2, clears both return reasons on both
lanes and makes the pause test; it is refused WRONG_STATE unless the lift is JAMMED, and MACHINE_BUSY while the
station is LOST or RESETTING. -/
def Obligations.ReturnSettingsAndClearing : Prop :=
  (∀ (s : State) (r : Slot) (p : PairIx) (threshold timeout : Option Nat), s.front .returnStatus r →
    (s.station p).state ≠ .absent → threshold ≠ none ∨ timeout ≠ none →
    let f := (threshold.map fun n => max 4 (min 12 n)).getD (s.ret p).threshold
    let w := (timeout.map fun n => max 5 (min 60 n)).getD (s.ret p).timeout
    ∃ t, exec (.returnStatus true (pairNumber p) threshold timeout) s = .next t
      ∧ (t.ret p).threshold = f ∧ (t.ret p).timeout = w ∧ (t.ret p).rack = min (f + 2) (s.ret p).rack
      ∧ (t.ret p).track = (s.ret p).track ∧ (t.ret p).jamStanding = (s.ret p).jamStanding
      ∧ (t.station p).lift = (if f = (s.ret p).threshold then (s.station p).lift
          else if f ≤ min (f + 2) (s.ret p).rack then .pause else .run)
      ∧ t.lanes = s.lanes ∧ (∀ q : PairIx, q ≠ p → t.pair q = s.pair q) ∧ t.link.slots = markBuilt s.link.slots)
  ∧ ∀ (s : State) (r : Slot) (p : PairIx) (balls : Nat), s.front .clearReturnJam r → (s.station p).state ≠ .absent →
    ((s.station p).state = .lost ∨ (s.station p).state = .resetting →
      exec (.clearReturnJam true (pairNumber p) balls) s = .next (s.refusedWith r .machineBusy))
    ∧ ((s.station p).state ≠ .lost → (s.station p).state ≠ .resetting →
      ((s.ret p).jamStanding = false → exec (.clearReturnJam true (pairNumber p) balls) s = .next (s.refusedWith r .wrongState))
      ∧ ((s.ret p).jamStanding = true →
        ∃ t rack, rack = min ((s.ret p).threshold + 2) balls
          ∧ exec (.clearReturnJam true (pairNumber p) balls) s = .next t
          ∧ (t.ret p).jamStanding = false ∧ (t.ret p).track = [] ∧ (t.ret p).rack = rack ∧ (t.ret p).oldest = 0
          ∧ (t.ret p).threshold = (s.ret p).threshold
          ∧ (∀ l : LaneIx, pairOf l = p → (t.gate l).returnJam = none ∧ (t.gate l).returnBacklog = none
              ∧ (t.gate l).deskHold = (s.gate l).deskHold ∧ (t.gate l).billing = (s.gate l).billing
              ∧ (t.lane l).queue = (s.lane l).queue)
          ∧ (t.station p).lift = (if (s.ret p).threshold ≤ rack then .pause else .run)
          ∧ (∀ q : PairIx, q ≠ p → t.pair q = s.pair q) ∧ (∀ k : LaneIx, pairOf k ≠ p → t.lane k = s.lane k)
          ∧ t.link.slots = markBuilt s.link.slots))

/-! ### Seconds and minutes -/

/-- A second event advances the clock, counts every open account's second as play or down, and counts desk silence, the
oldest entry of a lifting track, a warmed lane's on-time, holding at 600, and the idle count of a lane DECK_EMPTY or READY
with no turn, up to the standby time. The minute part stands as due for the step that takes it, and an idle count past a
lowered standby time stands: the model's readings (logs 10 and 23). -/
def Obligations.SecondEventCounts : Prop :=
  ∀ s : State, s.free → ∃ t, exec .secondEvent s = .next t
    ∧ t.clock = s.clock.tick ∧ t.clockValid = (s.clockValid && decide (s.clock ≠ ⟨2099, 12, 31, 23, 59, 59⟩))
    ∧ (t.due.minute = true ↔ t.clock.second = 0)
    ∧ t.link.silence = (if s.link.timeout ≠ 0 ∧ s.link.lost = none then s.link.silence + 1 else s.link.silence)
    ∧ t.link.slots = s.link.slots ∧ t.link.reports = s.link.reports ∧ t.meter = s.meter
    ∧ (∀ l : LaneIx, (t.lane l).queue = (s.lane l).queue ∧ t.gate l = s.gate l ∧ (t.machine l).state = (s.machine l).state
      ∧ (t.lane l).roster = (s.lane l).roster
      ∧ (t.machine l).onTime = (if (s.machine l).warmed = true then min 600 ((s.machine l).onTime + 1) else (s.machine l).onTime)
      ∧ (let code := (s.pair (pairOf l)).settings.standbyCode
         (t.machine l).idle = (if ((s.machine l).state = .deckEmpty ∨ ((s.machine l).state = .ready ∧ (s.lane l).queue = []))
            ∧ (s.machine l).idle < (if code = 0 then 900 else code * 30) then (s.machine l).idle + 1 else (s.machine l).idle))
      ∧ ((s.lane l).session = .closed → (t.lane l).account = (s.lane l).account)
      ∧ ∀ a, (s.lane l).account = some a → (a.isFinal = true → (t.lane l).account = some a)
        ∧ ((s.lane l).session ≠ .closed → a.isFinal = false →
          ∃ a', (t.lane l).account = some a' ∧ a'.sessionSeconds = min 4294967295 (a.sessionSeconds + 1)
            ∧ a'.used = a.used ∧ a'.accrued = a.accrued ∧ a'.carry = a.carry
            ∧ (a.mode ≠ .perTime → a.mode ≠ .prepaidTime →
                a'.playSeconds = a.playSeconds ∧ a'.downSeconds = a.downSeconds ∧ a'.episode = a.episode)
            ∧ (a.mode = .perTime ∨ a.mode = .prepaidTime →
              ((s.lane l).downtime = false → a'.episode = 0 ∧ a'.playSeconds = min 4294967295 (a.playSeconds + 1)
                ∧ a'.downSeconds = a.downSeconds)
              ∧ ((s.lane l).downtime = true → a'.episode = min 65535 (a.episode + 1)
                ∧ (if s.meter.settings.grace < a'.episode then
                    a'.downSeconds = min 4294967295 (a.downSeconds + 1) ∧ a'.playSeconds = a.playSeconds
                  else a'.playSeconds = min 4294967295 (a.playSeconds + 1) ∧ a'.downSeconds = a.downSeconds)))))
    ∧ ∀ p : PairIx, (t.ret p).track = (s.ret p).track ∧ (t.ret p).rack = (s.ret p).rack
      ∧ (t.ret p).oldest = (if s.liftState p = .lifting ∧ (s.ret p).outOfReach = false then (s.ret p).oldest + 1
          else (s.ret p).oldest)

/-- The minute event installs the pending table and notes the band in force, reporting one that differs from the
band noted. A PREPAID_TIME minute uses the allowance, is charged past it through the carry at the hour rate in force,
the charge held at its limit, and sets the warned and out flags; used holds at 65,535. Where the allowance runs out,
BILLING is raised on each lane of the pair whose head turn is the account's. The due parts are the model's reading of
the table's rows (log 10), and the rate with no band in force is its choice, 0 (log 26). -/
def Obligations.MinuteAndPrepaidMinute : Prop :=
  (∀ s : State, s.held = false → s.due.minute = true →
    ∃ t, exec .minuteEvent s = .next t ∧ t.due.minute = false
      ∧ t.meter.installed = (if s.meter.pendingTable = none then s.meter.installed else s.meter.pendingTable)
      ∧ t.meter.pendingTable = none ∧ t.meter.settings = s.meter.settings
      ∧ (∀ n, t.bandInForce = some n → t.meter.bandNoted = some n
          ∧ t.link = (if s.meter.bandNoted = some n then s.link else Link.queue (.bandChange n) s.link))
      ∧ (t.bandInForce = none → t.meter.bandNoted = s.meter.bandNoted ∧ t.link = s.link)
      ∧ t.lanes = s.lanes ∧ t.pairs = s.pairs ∧ t.clock = s.clock)
  ∧ ∀ (s : State) (l : LaneIx) (a : Account), s.held = false → s.due.minute = false → l ∈ s.due.prepaidMinutes →
    (s.lane l).account = some a →
    ∃ t a', exec (.prepaidMinute l) s = .next t ∧ l ∉ t.due.prepaidMinutes ∧ (t.lane l).account = some a'
      ∧ a'.used = min 65535 (a.used + 1) ∧ a'.playSeconds = a.playSeconds ∧ a'.allowance = a.allowance
      ∧ (a'.used ≤ a.allowance → a'.accrued = a.accrued ∧ a'.carry = a.carry)
      ∧ (a.allowance < a'.used → a'.carry = (a.carry + s.hourRate) % 60
          ∧ a'.accrued = min 9999999 (a.accrued + (a.carry + s.hourRate) / 60))
      ∧ (a'.allowanceOut = true ↔ a.allowanceOut = true ∨ a'.used = a.allowance)
      ∧ (a'.warned = true ↔ a.warned = true ∨ (s.meter.settings.warningLead ≠ 0
          ∧ a.allowance - s.meter.settings.warningLead ≤ a'.used ∧ a'.used < a.allowance))
      ∧ (a.mode = .prepaidTime → a'.used = a.allowance → a.allowanceOut = false → ∀ (k : LaneIx) (u : Turn),
          pairOf k = pairOf l → (s.lane k).head = some u → u.home = l →
          (t.gate k).billing = some ((s.gate k).billing.getD s.clock))
      ∧ (∀ k : LaneIx, k ≠ l → (t.lane k).account = (s.lane k).account)
      ∧ (∀ k : LaneIx, (t.lane k).queue = (s.lane k).queue) ∧ t.clock = s.clock ∧ t.meter = s.meter

/-- In PER_TIME the second that brings play seconds to a multiple of 60 makes a play minute due; it raises used by
one, adds the hour rate in force to the carry, adds the whole part of the carry divided by 60 to the accrued charge
held at its limit, and keeps the remainder as the carry. Used holds at its limit of 65,535. That the minute stands as
due for a step of its own is the model's reading (log 10), and the rate with no band in force its choice (log 26). -/
def Obligations.PlayMinuteChargesThroughTheCarry : Prop :=
  (∀ (s t : State) (l : LaneIx), s.free → exec .secondEvent s = .next t →
    (l ∈ t.due.playMinutes ↔ ∃ a a', (s.lane l).account = some a ∧ (t.lane l).account = some a' ∧ a.mode = .perTime
      ∧ a.playSeconds < a'.playSeconds ∧ a'.playSeconds % 60 = 0))
  ∧ ∀ (s : State) (l : LaneIx) (a : Account), s.held = false → s.due.minute = false → l ∈ s.due.playMinutes →
    (s.lane l).account = some a →
    let sum := a.accrued + (a.carry + s.hourRate) / 60
    exec (.playMinute l) s = .next { s with
      due := { s.due with playMinutes := s.due.playMinutes.filter (· ≠ l) }
      lanes := s.lanes.set l { s.lane l with account := some { a with
        used := min 65535 (a.used + 1), carry := (a.carry + s.hourRate) % 60, accrued := min 9999999 sum
        saturated := a.saturated || decide (9999999 < sum) } }
      link := if 9999999 < sum ∧ a.saturated = false then Link.queue (.accountSaturated l 9999999) s.link else s.link }

/-- The expiries a second event makes due: desk silence enters the desk-lost state and sets the hold; the idle
timer sends a lane with a session to STANDBY with its deck kept, and one without to POWERED_DOWN; a pending
power-off whose minimum on-time has elapsed is carried out; and the oldest entry's expiry jams the return. The due
parts are the model's reading of the table's rows (log 10). -/
def Obligations.SecondExpiriesAct : Prop :=
  ∀ s : State, s.held = false →
    (s.due.deskSilence = true → ∃ t, exec .deskSilenceExpiry s = .next t ∧ t.hold = true
      ∧ t.link = { Link.queue (.deskLost s.clock s.link.timeout) s.link with lost := some s.clock, wasLost := true }
      ∧ t.lanes = s.lanes ∧ t.pairs = s.pairs)
    ∧ (∀ l : LaneIx, l ∈ s.due.idle → (s.lane l).idleRuns = true →
        standbyTime (s.pair (pairOf l)).settings.standbyCode ≤ (s.machine l).idle → s.minOnElapsed l = true →
        ∃ t, exec (.idleTimerExpiry l) s = .next t ∧ t.powerOrder l = .off ∧ (t.machine l).warmed = false
          ∧ (if (s.lane l).session = .closed then (t.machine l).state = .poweredDown ∧ (t.machine l).deck = .unknown
            else (t.machine l).state = .standby ∧ (t.machine l).deck = (s.machine l).deck)
          ∧ (t.lane l).queue = (s.lane l).queue ∧ ∀ k : LaneIx, k ≠ l → t.lane k = s.lane k)
    ∧ (∀ l : LaneIx, l ∈ s.due.onTime → (s.machine l).powerOffPending = true → s.minOnElapsed l = true →
        (s.machine l).state = .deckEmpty ∨ (s.machine l).state = .waiting ∨ (s.machine l).state = .ready →
        (s.lane l).session = .closed →
        ∃ t, exec (.onTimeElapsed l) s = .next t ∧ t.powerOrder l = .off ∧ (t.machine l).state = .poweredDown
          ∧ (t.machine l).deck = .unknown ∧ (t.machine l).powerOffPending = false ∧ ∀ k : LaneIx, k ≠ l → t.lane k = s.lane k)
    ∧ ∀ p : PairIx, p ∈ s.due.oldest → ∃ t, exec (.oldestEntryExpiry p) s = .next t ∧ (t.ret p).jamStanding = true
        ∧ (t.ret p).track = (s.ret p).track ∧ (t.ret p).rack = (s.ret p).rack
        ∧ (∀ l : LaneIx, pairOf l = p → (t.gate l).returnJam = some ((s.gate l).returnJam.getD s.clock)
            ∧ t.machine l = s.machine l ∧ (t.lane l).queue = (s.lane l).queue)
        ∧ (∀ k : LaneIx, pairOf k ≠ p → t.lane k = s.lane k)
        ∧ t.link = Link.queue (.returnJam p ((s.ret p).track.head?.map fun e => ⟨e.seq, e.origin, s.elapsed e.entry⟩)
            (s.ret p).track.length (s.ret p).rack) s.link

/-! ### A ball and a cycle -/

/-- The settle and the re-read settle issue READ_DECK for the next read number; a read timeout issues it again
once, and the second jams the lane with its ball dropped. No removal is taken as pending, and the policy as REPORT.
A timer that runs out takes the time it had still to run: the model's reading (log 11). -/
def Obligations.ReadTimersAct : Prop :=
  ∀ (s : State) (l : LaneIx) (b : PendingBall), s.free → (s.machine l).ball = some b →
    (∀ start length, (s.machine l).state = .ballDown → (s.machine l).timer = some ⟨.settle, start, length⟩ →
      ∃ t, exec (.settleExpiry l) s = .next t ∧ (t.machine l).state = .reading
        ∧ (t.machine l).ball = some { b with reads := b.reads + 1 } ∧ (t.machine l).timer = none
        ∧ (t.machine l).inFlight = some ⟨.readDeck false, t.returnClock, 20, none, none⟩
        ∧ (t.machine l).deck = (s.machine l).deck ∧ ∀ k : LaneIx, k ≠ l → t.lane k = s.lane k)
    ∧ (∀ start length, (s.machine l).state = .reading → (s.machine l).timer = some ⟨.reread, start, length⟩ →
      ∃ t, exec (.rereadSettleExpiry l) s = .next t ∧ (t.machine l).state = .reading
        ∧ (t.machine l).ball = some { b with reads := b.reads + 1 } ∧ (t.machine l).timer = none
        ∧ (t.machine l).inFlight = some ⟨.readDeck false, t.returnClock, 20, none, none⟩
        ∧ ∀ k : LaneIx, k ≠ l → t.lane k = s.lane k)
    ∧ ∀ start length turn need, (s.machine l).state = .reading →
      ((s.machine l).inFlight = some ⟨.readDeck false, start, length, turn, need⟩ →
        ∃ t, exec (.readTimeout l) s = .next t ∧ (t.machine l).state = .reading ∧ (t.machine l).ball = some b
          ∧ (t.machine l).inFlight = some ⟨.readDeck true, t.returnClock, 20, none, none⟩
          ∧ ∀ k : LaneIx, k ≠ l → t.lane k = s.lane k)
      ∧ ((s.machine l).inFlight = some ⟨.readDeck true, start, length, turn, need⟩ → (s.machine l).removal = .unordered →
          (s.lane l).health.policy = .report →
        ∃ t, exec (.readTimeout l) s = .next t ∧ (t.machine l).state = .jammed ∧ (t.machine l).ball = none
          ∧ (t.machine l).inFlight = none ∧ (t.machine l).deck = .unknown ∧ (t.machine l).jamStanding = true
          ∧ (t.lane l).queue = (s.lane l).queue ∧ (t.lane l).roster = (s.lane l).roster
          ∧ ∀ k : LaneIx, k ≠ l → t.lane k = s.lane k)

/-- A cycle timeout jams the lane and counts a cycle outcome. The end of the warm-up sets warmed and derives the
lane's cycle: DECK_EMPTY, a sweep, or the rack for a new frame against the gate. No removal and no power-off is
taken as pending. -/
def Obligations.CycleTimeoutAndWarmUp : Prop :=
  ∀ (s : State) (l : LaneIx), s.free → (s.machine l).removal = .unordered → (s.machine l).powerOffPending = false →
    (∀ c start length turn need, (s.machine l).state = .cycling →
      (s.machine l).inFlight = some ⟨.cycle c, start, length, turn, need⟩ → (s.lane l).health.policy = .report →
      ∃ t, exec (.cycleTimeout l) s = .next t ∧ (t.machine l).state = .jammed ∧ (t.machine l).inFlight = none
        ∧ (t.machine l).pendingCycle = none ∧ (t.machine l).deck = .unknown ∧ (t.machine l).jamStanding = true
        ∧ (t.lane l).health.cycles.value = min 16777215 ((s.lane l).health.cycles.value + 1)
        ∧ (t.lane l).queue = (s.lane l).queue ∧ ∀ k : LaneIx, k ≠ l → t.lane k = s.lane k)
    ∧ (∀ start length, (s.machine l).state = .waking → (s.machine l).timer = some ⟨.warmUp, start, length⟩ →
      ∃ t, exec (.warmUpExpiry l) s = .next t ∧ (t.machine l).warmed = true ∧ (t.machine l).onTime = 0
        ∧ (t.machine l).timer = none ∧ (∀ k : LaneIx, k ≠ l → t.lane k = s.lane k)
        ∧ (s.headTurn l = none → (s.machine l).deck = .empty → (t.machine l).state = .deckEmpty)
        ∧ (s.headTurn l = none → (s.machine l).deck = .unknown → (s.gate l).blocks .sweep = false →
            (t.machine l).state = .cycling ∧ (t.machine l).cycleInFlight = some .sweep)
        ∧ (s.headNeed l = some .newFrame → (s.machine l).deck ≠ .full →
            if (s.gate l).blocks (.fullRack .newFrame) = true then
              (t.machine l).state = .waiting ∧ (t.machine l).pendingCycle
                = some ⟨.fullRack .newFrame, false, s.headTurn l, some .newFrame⟩
            else (t.machine l).state = .cycling ∧ (t.machine l).cycleInFlight = some (.fullRack .newFrame)))

/-- The events of a ball and a foul, answered to a poll. A BALL_AT_DECK on a READY lane with a head turn opens a
ball-pending record and starts the settle, and elsewhere changes no machine state; either way it is entered on the track
with its kind. A FOUL arms the foul of a READY lane with a head turn, marks the ball pending in BALL_DOWN (log 40), and
otherwise queues LATE_FOUL. A BALL_AT_RACK takes the oldest entry off the track, gives RETURN_TIME its travel time, and clears
RETURN_BACKLOG at the sixth entry left; with the track empty it is an unexpected ball. Either way it raises the rack
count, held at F + 2 with RACK_OVERFLOW, with the pause test after. -/
def Obligations.BallsAndFoulsAreTaken : Prop :=
  (∀ (s : State) (p : PairIx) (side : Side) (n : Byte) (a : StatusAnswer), s.hears p a n (.ballAtDeck side) →
    fittedHas (s.station p).fitted side = true → (s.ret p).track.length < 8 →
    let l := laneOf p side
    let entered (kind : BallKind) : List TrackEntry := (s.ret p).track ++ [⟨(s.ret p).nextSeq, side, s.returnClock, kind⟩]
    ∃ t, exec (.statusAnswer a) s = .next t ∧ (t.station p).lastEvent = some n ∧ (t.station p).missed = 0
      ∧ t.bus.exchange = none ∧ (t.ret p).nextSeq = (s.ret p).nextSeq + 1 ∧ (t.ret p).rack = (s.ret p).rack
      ∧ (∀ turn, (s.machine l).state = .ready → s.headTurn l = some turn → (t.machine l).state = .ballDown
          ∧ (t.machine l).ball = some ⟨turn, (s.machine l).armedFoul, 0, decide ((s.machine l).rerack = .set), false, false⟩
          ∧ (t.machine l).timer = some ⟨.settle, s.returnClock, s.settleInForce p⟩ ∧ (t.machine l).armedFoul = false
          ∧ (t.machine l).rerack = .unmarked ∧ (t.ret p).track = entered .scored)
      ∧ ((s.machine l).state ≠ .ready ∨ s.headTurn l = none → t.machine l = s.machine l ∧ (t.ret p).track = entered .stray)
      ∧ (t.lane l).queue = (s.lane l).queue ∧ (∀ k : LaneIx, pairOf k ≠ p → t.lane k = s.lane k)
      ∧ (∀ q : PairIx, q ≠ p → t.pair q = s.pair q))
  ∧ (∀ (s : State) (p : PairIx) (side : Side) (n : Byte) (a : StatusAnswer), s.hears p a n (.foul side) →
    fittedHas (s.station p).fitted side = true →
    let l := laneOf p side
    ∃ t, exec (.statusAnswer a) s = .next t ∧ (t.station p).lastEvent = some n
      ∧ t.lane l = { s.lane l with machine := t.machine l } ∧ (∀ k : LaneIx, k ≠ l → t.lane k = s.lane k)
      ∧ ((s.machine l).state = .ready → s.headTurn l ≠ none → t.machine l = { s.machine l with armedFoul := true }
          ∧ t.link = s.link)
      ∧ ((s.machine l).state = .ballDown → t.link = s.link ∧ t.machine l = { s.machine l with
            ball := (s.machine l).ball.map fun b => { b with foul := true } })
      ∧ ((s.machine l).state ≠ .ballDown → (s.machine l).state ≠ .ready ∨ s.headTurn l = none → t.machine l = s.machine l
          ∧ t.link = Link.queue (.lateFoul l (s.machine l).state) s.link))
  ∧ ∀ (s : State) (p : PairIx) (n : Byte) (a : StatusAnswer), s.hears p a n .ballAtRack →
    let most := (s.ret p).threshold + 2
    let full := most < (s.ret p).rack + 1
    let told : Link := if full then Link.queue (.rackOverflow p most (s.ret p).threshold) s.link else s.link
    ∃ t, exec (.statusAnswer a) s = .next t ∧ (t.station p).lastEvent = some n
      ∧ (t.ret p).rack = (if full then most else (s.ret p).rack + 1) ∧ (t.ret p).track = (s.ret p).track.tail
      ∧ (t.station p).lift = (if (s.ret p).threshold ≤ (t.ret p).rack then .pause else .run)
      ∧ (t.ret p).jamStanding = (s.ret p).jamStanding ∧ (∀ q : PairIx, q ≠ p → t.pair q = s.pair q)
      ∧ (∀ k : LaneIx, pairOf k ≠ p ∨ (s.ret p).track.length ≠ 7 → t.lane k = s.lane k)
      ∧ ((s.ret p).track = [] → t.link = Link.queue (.unexpectedBall p (t.ret p).rack) told
          ∧ (t.pair p).health = (s.pair p).health)
      ∧ (∀ e rest, (s.ret p).track = e :: rest →
          (∀ old new, old = (s.pair p).health → new = (t.pair p).health →
            new.returnTime.value = average old.sampled old.returnTime.value (min 65535 (s.elapsed e.entry)) ∧ new.sampled = true
            ∧ new.returnTime.threshold = old.returnTime.threshold
            ∧ new.returnTime.alert = (if new.returnTime.threshold = 0 then .disabled
                else if new.returnTime.value ≤ new.returnTime.threshold then .armed else .alerted))
          ∧ (full → s.link.reports.length < 48 → .rackOverflow p most (s.ret p).threshold ∈ t.link.reports)
          ∧ (rest ≠ [] → (t.ret p).oldest = 0))
      ∧ ((s.ret p).track.length = 7 → ∀ k : LaneIx, pairOf k = p → t.gate k = { s.gate k with returnBacklog := none }
          ∧ (t.lane k).queue = (s.lane k).queue ∧ ((s.machine k).state ≠ .waiting → t.machine k = s.machine k)
          ∧ ∀ c, (s.gate k).returnBacklog ≠ none → (s.machine k).state = .waiting → (s.machine k).pendingCycle = some c →
              c.served = false → (t.gate k).blocks c.cycle = false →
              (t.machine k).state = .cycling ∧ (t.machine k).cycleInFlight = some c.cycle)

/-- A deck image without an unsettled pin, or that of the third read, finishes the ball: the record of its turn
takes the ball with the pins that read unsettled counted standing, no record of another game or another bowler changes,
and the ball-pending record is closed. An image with an unsettled pin on an earlier read starts the re-read settle. The
turn is taken as its lane's head, below the tenth frame. -/
def Obligations.DeckImageRecordsTheBall : Prop :=
  ∀ (s : State) (p : PairIx) (side : Side) (n seq : Byte) (pins : Vector PinState 10) (a : StatusAnswer) (b : PendingBall)
    (f : InFlight) (again : Bool), s.hears p a n (.deckImage side seq pins) → fittedHas (s.station p).fitted side = true →
    ((s.station p).command side).map (·.seq) = some seq.toNat →
    let l := laneOf p side
    let image := imageFromStation (s.station p).cls pins
    (s.machine l).state = .reading → (s.machine l).inFlight = some f → f.op = .readDeck again → (s.machine l).ball = some b →
    (pinsIn .unsettled image ≠ 0#10 → b.reads < 3 →
      ∃ t, exec (.statusAnswer a) s = .next t ∧ t.machine l = { s.machine l with
          inFlight := none, timer := some ⟨.reread, s.returnClock, 5⟩ }
        ∧ (∀ k : LaneIx, k ≠ l → t.lane k = s.lane k) ∧ t.link = s.link ∧ (t.station p).lastEvent = some n)
    ∧ (∀ g : Game, pinsIn .unsettled image = 0#10 ∨ 3 ≤ b.reads → b.orphan = false → s.headTurn l = some b.turn →
        b.turn.frame < 10 → s.gameOf b.turn = some g →
      let g' := g.addBall ⟨l, b.turn, pinsIn .standing image ||| pinsIn .unsettled image, b.reads, b.foul, b.rerack⟩
      ∃ t, exec (.statusAnswer a) s = .next t ∧ t.gameOf b.turn = some g' ∧ (t.machine l).ball = none
        ∧ (g'.frame b.turn.frame).balls.length = (g.frame b.turn.frame).balls.length + (if 1 ≤ b.turn.frame then 1 else 0)
        ∧ (∀ k : LaneIx, k ≠ b.turn.home → (t.lane k).roster = (s.lane k).roster)
        ∧ (∀ number, number ≠ b.turn.game → (t.bowler b.turn.home b.turn.slot).bind (·.game number)
            = (s.bowler b.turn.home b.turn.slot).bind (·.game number))
        ∧ (∀ i, i + 1 ≠ b.turn.slot → (t.lane b.turn.home).roster[i]? = (s.lane b.turn.home).roster[i]?)
        ∧ ((g'.frame b.turn.frame).mark.complete = false → ∀ k : LaneIx, (t.lane k).queue = (s.lane k).queue)
        ∧ (t.station p).lastEvent = some n ∧ t.clock = s.clock ∧ t.meter = s.meter ∧ t.hold = s.hold)

/-- A ball that is not a foul leaves the pins of its set that the image reports standing, and its pinfall is the
number of pins of the set that the image reports down; a foul leaves the set as it was with pinfall 0. The pinfall
is at most the set, the set left is part of it, and pins outside the set change neither. A second ball bowled on the
set that a ball on the full rack left brings the sum of the two to ten less the pins still standing. -/
def Obligations.BallIsScoredAgainstItsSet : Prop :=
  ∀ (b : BallIn) (before : PinSet), ∃ after pinfall,
    (ballRecord b before).before = some before ∧ (ballRecord b before).after = some after
    ∧ (ballRecord b before).pinfall = pinfall ∧ (ballRecord b before).foul = b.foul ∧ (ballRecord b before).reads = some b.reads
    ∧ (b.foul = false → after = before &&& b.image ∧ pinfall + pinCount after = pinCount before
        ∧ pinfall = pinCount (before &&& ~~~b.image))
    ∧ (b.foul = true → after = before ∧ pinfall = 0)
    ∧ pinfall ≤ pinCount before ∧ after &&& before = after
    ∧ (before = fullRack → ∀ c : BallIn, ∃ left, (ballRecord c after).after = some left
        ∧ pinfall + (ballRecord c after).pinfall + pinCount left = 10)
    ∧ ∀ extra : PinSet, extra &&& before = 0#10 →
        (ballRecord { b with image := b.image ||| extra } before).after = some after
        ∧ (ballRecord { b with image := b.image ||| extra } before).pinfall = pinfall

/-- A game started, a ball added to a frame that a ball is due in, and a valid correction keep every frame's balls
within their pins, every frame score at most 30 and every cumulative total at most 30 a frame, so that a scratch
total is at most 300. -/
def Obligations.ScoresStayInRange : Prop :=
  (∀ (c : ScoreSettings) (number applied : Nat) (lane : LaneIx) (fixed : Option Nat) (blind : Bool),
    (Game.start c number lane applied fixed blind).scoresSound)
  ∧ (∀ (g : Game) (b : BallIn), g.scoresSound → 1 ≤ b.turn.frame → b.turn.frame ≤ 10 →
      (nextDue b.turn.frame (g.frame b.turn.frame).balls).isSome = true → (g.addBall b).scoresSound)
  ∧ (∀ (g : Game) (frame : Nat) (balls : List BallField), g.scoresSound → 1 ≤ frame → frame ≤ 10 →
      validFrame frame balls = true → (g.correct frame balls).scoresSound)
  ∧ ∀ g : Game, g.scoresSound → ∀ n, g.scratch = some n → n ≤ 300

/-- The events of a cycle and a jam, answered to a poll. A CYCLE_DONE of the lane's command in flight takes the deck
reported and counts the outcome, and a set other than the one commanded queues RESPOT_MISS. A rack or respot for the head
and the need it was issued for makes the lane READY; for others the lane's cycle is derived again. A sweep with no head
leaves DECK_EMPTY. RECOVER clears jam standing, sets warmed and the rerack mark DUE, and derives. A MACHINE_JAM in a
state that can jam makes the lane JAMMED with its command, timer, pending cycle and ball dropped, and reports it; in the
other states it changes nothing. No removal and no power-off is taken as pending, and the policy as REPORT. -/
def Obligations.CyclesDoneAndJamsAreTaken : Prop :=
  (∀ (s : State) (p : PairIx) (side : Side) (n seq : Byte) (pins : PinSet) (a : StatusAnswer) (c : Cycle) (start : Reading)
    (length : Nat) (turn : Option Turn) (need : Option Need), s.hears p a n (.cycleDone side seq pins) →
    fittedHas (s.station p).fitted side = true → ((s.station p).command side).map (·.seq) = some seq.toNat →
    let l := laneOf p side
    let set := setFromStation (s.station p).cls pins
    let deck := deckOf set
    let mark := if c = .fullRack .rerack then .set else (s.machine l).rerack
    (s.machine l).state = .cycling → (s.machine l).inFlight = some ⟨.cycle c, start, length, turn, need⟩ →
    (s.machine l).removal = .unordered → (s.machine l).powerOffPending = false → (s.lane l).health.policy = .report →
    ∃ t, exec (.statusAnswer a) s = .next t ∧ (t.machine l).deck = deck ∧ (t.lane l).queue = (s.lane l).queue
      ∧ (t.lane l).health.cycles.value = min 16777215 ((s.lane l).health.cycles.value + 1) ∧ t.gate l = s.gate l
      ∧ (∀ k : LaneIx, k ≠ l → t.lane k = s.lane k)
      ∧ (set ≠ c.commanded → s.link.reports.length < 40 → .respotMiss l c.commanded set ∈ t.link.reports)
      ∧ (c ≠ .sweep → c ≠ .recover →
        (turn ≠ none → s.headTurn l = turn → s.headNeed l = need → (t.machine l).state = .ready
          ∧ (t.machine l).inFlight = none ∧ (t.machine l).pendingCycle = none ∧ (t.machine l).rerack = mark)
        ∧ (s.headTurn l = none ∨ s.headTurn l ≠ turn ∨ s.headNeed l ≠ need → s.took t l (derived (s.headNeed l) deck mark)))
      ∧ (c = .sweep → (s.headTurn l = none → (t.machine l).state = .deckEmpty ∧ (t.machine l).pendingCycle = none
            ∧ (t.machine l).inFlight = none)
        ∧ (s.headTurn l ≠ none → s.took t l (derived (s.headNeed l) deck mark)))
      ∧ (c = .recover → (t.machine l).jamStanding = false ∧ (t.machine l).warmed = true
        ∧ (t.machine l).onTime = (if (s.machine l).warmed = true then (s.machine l).onTime else 0)
        ∧ s.took t l (derived (s.headNeed l) deck .due)))
  ∧ ∀ (s : State) (p : PairIx) (side : Side) (n : Byte) (source : JamSource) (a : StatusAnswer),
    s.hears p a n (.machineJam side source) → fittedHas (s.station p).fitted side = true →
    let l := laneOf p side
    ∃ t, exec (.statusAnswer a) s = .next t ∧ (t.station p).lastEvent = some n
      ∧ ((s.machine l).state ∈ [.poweredDown, .standby, .jammed, .linkLost, .outOfService] → t.lanes = s.lanes ∧ t.link = s.link)
      ∧ ((s.machine l).state ∈ [.waking, .deckEmpty, .waiting, .ready, .ballDown, .reading, .cycling] →
          (s.machine l).removal = .unordered → (s.lane l).health.policy = .report →
          (t.machine l).state = .jammed ∧ (t.machine l).inFlight = none ∧ (t.machine l).timer = none
          ∧ (t.machine l).pendingCycle = none ∧ (t.machine l).ball = none ∧ (t.machine l).armedFoul = false
          ∧ (t.machine l).deck = .unknown ∧ (t.machine l).jamStanding = true ∧ (t.machine l).warmed = (s.machine l).warmed
          ∧ (t.lane l).health.cycles.value = min 16777215 ((s.lane l).health.cycles.value + 1)
          ∧ (s.link.reports.length < 40 → .machineJam l (.station source) ((s.machine l).inFlight.map (·.op))
              (s.machine l).ball.isSome ∈ t.link.reports)
          ∧ (t.lane l).queue = (s.lane l).queue ∧ (t.lane l).roster = (s.lane l).roster ∧ t.gate l = s.gate l
          ∧ ∀ k : LaneIx, k ≠ l → t.lane k = s.lane k)

/-! ### The station bus -/

/-- The pace timer makes the probes and the DARK polls due; a reset hold's end makes its probe due; and SBM sends
the exchange due first, or polls the next ATTACHED station, one exchange at a time. That a DARK station awaiting its probe
for lost events gets no DARK poll, and that a DARK poll still due is sent to a station that has since left DARK, is the
model's reading (log 20). That the three commands that send change nothing while an exchange is in progress is its choice
(log 2). -/
def Obligations.BusTimersAndPolls : Prop :=
  ∀ s : State, s.free →
    (s.bus.passing = false → ∃ t, exec .paceTimerExpiry s = .next t ∧ t.bus.paceTenths = 0
      ∧ t.bus.paceCount = (if 9 ≤ s.bus.paceCount then 0 else s.bus.paceCount + 1)
      ∧ t.bus.due = s.bus.due ++ allPairs.flatMap (fun p => match (s.station p).state with
          | .lost => [⟨p, .probe .reprobe⟩]
          | .dark => if (s.station p).probeOwed then [] else [⟨p, .darkPoll⟩]
          | .absent => if 9 ≤ s.bus.paceCount then [⟨p, .probe .reprobe⟩] else []
          | .attached => []
          | .resetting => [])
      ∧ t.lanes = s.lanes ∧ t.link = s.link ∧ t.clock = s.clock)
    ∧ (∀ p : PairIx, (s.station p).state = .resetting → (s.station p).holding = true →
      ∃ t, exec (.resetHoldExpiry p) s = .next t ∧ (t.station p).holding = false ∧ (t.station p).holdRemaining = 0
        ∧ (t.station p).state = .resetting ∧ t.bus.due = s.bus.due ++ [⟨p, .probe .afterHold⟩] ∧ t.lanes = s.lanes
        ∧ t.link = s.link)
    ∧ (s.bus.exchange ≠ none → exec .sendPoll s = .next s ∧ exec .sendProbe s = .next s ∧ exec .sendResetPoll s = .next s)
    ∧ (s.bus.exchange = none →
      (∀ p reason rest, s.bus.due = ⟨p, .probe reason⟩ :: rest → exec .sendProbe s = .next { s with bus := { s.bus with
          due := rest, exchange := some ⟨p, .probe reason⟩, lastSent := some (.probe p) } })
      ∧ (∀ p hold rest, s.bus.due = ⟨p, .resetPoll hold⟩ :: rest → exec .sendResetPoll s = .next { s with bus := { s.bus with
          due := rest, lastSent := some (.reset p hold) } })
      ∧ (∀ p rest, s.bus.due = ⟨p, .darkPoll⟩ :: rest → (s.station p).state.polled = true →
          exec .sendPoll s = .next { s with bus := { s.bus with
            due := rest, exchange := some ⟨p, .poll⟩, lastSent := some (s.pollFrame p) } })
      ∧ (∀ p, s.bus.due = [] → s.bus.passing = false → s.nextPolled s.bus.lastPolled = some p →
          (s.station p).state = .attached ∧ exec .sendPoll s = .next { s with bus := { s.bus with
            exchange := some ⟨p, .poll⟩, lastSent := some (s.pollFrame p), lastPolled := p } }))

/-- A missed answer to a POLL raises the missed polls, and the third makes the station LOST with its fitted lanes
LINK_LOST and its pair out of reach. A HELLO answer to a probe of an ABSENT station in the pass, or of a LOST
station, attaches it with its class, its fitted lanes and its rack count. -/
def Obligations.AnswersMissedAndHello : Prop :=
  ∀ (s : State) (p : PairIx), s.free →
    (s.bus.exchange = some ⟨p, .poll⟩ → (s.station p).state.polled = true →
      ((s.station p).missed + 1 < 3 → (s.station p).probeOwed = false →
        ∃ t, t = s.setPair p { s.pair p with station := { s.station p with missed := (s.station p).missed + 1 } }
          ∧ exec .answerWindowExpiry s = .next { t with bus := { s.bus with exchange := none } })
      ∧ (3 ≤ (s.station p).missed + 1 →
        ∃ t, exec .answerWindowExpiry s = .next t ∧ (t.station p).state = .lost ∧ (t.station p).missed = 0
          ∧ (t.station p).commandA = none ∧ (t.station p).commandB = none ∧ (t.station p).lastEvent = none
          ∧ (t.ret p).outOfReach = true ∧ (t.ret p).track = (s.ret p).track
          ∧ (∀ l ∈ s.fittedLanes p, (t.machine l).state = .linkLost ∧ (t.machine l).ball = (s.machine l).ball
              ∧ (t.machine l).inFlight = none ∧ (t.lane l).queue = (s.lane l).queue)
          ∧ (∀ k : LaneIx, pairOf k ≠ p → t.lane k = s.lane k) ∧ ∀ q : PairIx, q ≠ p → t.pair q = s.pair q))
    ∧ ∀ a : HelloAnswer, a.address = pairNumber p →
      let attached (t : State) : Prop := (t.station p).state.polled = true ∧ (t.station p).cls = a.cls
        ∧ (t.station p).fitted = a.fitted ∧ (t.station p).missed = 0 ∧ (t.ret p).track = [] ∧ (t.ret p).jamStanding = false
        ∧ (t.ret p).outOfReach = false ∧ (t.ret p).rack = min ((s.ret p).threshold + 2) a.rackCount.toNat
        ∧ t.bus.exchange = none ∧ (∀ k : LaneIx, pairOf k ≠ p → t.lane k = s.lane k)
        ∧ ∀ q : PairIx, q ≠ p → t.pair q = s.pair q
      (s.bus.exchange = some ⟨p, .probe .discovery⟩ → p ≠ 7 → (s.station p).state = .absent →
        ∃ t, exec (.helloAnswer a) s = .next t ∧ attached t)
      ∧ (s.bus.exchange = some ⟨p, .probe .reprobe⟩ → (s.station p).state = .lost → (s.station p).ordersOwed = false →
        ∃ t, exec (.helloAnswer a) s = .next t ∧ attached t
          ∧ ∀ side : Side, fittedHas a.fitted side = true → reportedPower a side = .off → s.headTurn (laneOf p side) = none →
            (s.machine (laneOf p side)).state = .linkLost → (s.machine (laneOf p side)).ball = none →
            (s.machine (laneOf p side)).jamStanding = false → (s.machine (laneOf p side)).service = .in_ →
            (t.machine (laneOf p side)).state = .poweredDown ∧ (t.machine (laneOf p side)).deck = .unknown
              ∧ (t.machine (laneOf p side)).warmed = false)

/-- A BALL_TAKEN lowers the rack count by one, holding at 0, with the pause test after a change; at 0 it changes
nothing and queues no report; and it clears no jam. -/
def Obligations.BallTakenLowersTheRack : Prop :=
  ∀ (s : State) (p : PairIx) (n : Byte) (a : StatusAnswer), s.hears p a n .ballTaken →
    ∃ t, exec (.statusAnswer a) s = .next t ∧ (t.station p).lastEvent = some n ∧ t.lanes = s.lanes ∧ t.link = s.link
      ∧ ((s.ret p).rack = 0 → t.ret p = s.ret p ∧ (t.station p).lift = (s.station p).lift)
      ∧ (0 < (s.ret p).rack → (t.ret p).rack = (s.ret p).rack - 1 ∧ (t.ret p).track = (s.ret p).track
          ∧ (t.ret p).jamStanding = (s.ret p).jamStanding
          ∧ (t.station p).lift = (if (s.ret p).threshold ≤ (s.ret p).rack - 1 then .pause else .run))
      ∧ ∀ q : PairIx, q ≠ p → t.pair q = s.pair q

/-! ### Arithmetic -/

/-- A running average takes its first sample, and then moves by an eighth of the difference truncated toward
zero, staying between the old value and the sample. -/
def Obligations.RunningAverageMovesByAnEighth : Prop :=
  ∀ value sample : Nat, average false value sample = sample
    ∧ (average true value sample : Int) = (value : Int) + Int.tdiv ((sample : Int) - value) 8
    ∧ min value sample ≤ average true value sample ∧ average true value sample ≤ max value sample
    ∧ (average true value sample = value ↔ value ≤ sample + 7 ∧ sample ≤ value + 7)

/-- A class-1 station's position n is the pin the wiring table names, in sets sent, in sets taken and in images
taken; a set sent and read back is the same set, with the same number of pins; and a class-2 station's pass
untranslated. -/
def Obligations.WiringOrderIsUndone : Prop :=
  let wiring : Vector (Fin 10) 10 := #v[6, 7, 8, 9, 3, 4, 5, 1, 2, 0]
  (∀ set : PinSet, setFromStation .class1 (setToStation .class1 set) = set
    ∧ setToStation .class1 (setFromStation .class1 set) = set ∧ pinCount (setToStation .class1 set) = pinCount set
    ∧ setToStation .class2 set = set ∧ setFromStation .class2 set = set
    ∧ ∀ w : Fin 10, (setToStation .class1 set).getLsb w = set.getLsb wiring[w]
        ∧ (setFromStation .class1 set).getLsb wiring[w] = set.getLsb w)
  ∧ ∀ image : Vector PinState 10, imageFromStation .class2 image = image
    ∧ ∀ w : Fin 10, (imageFromStation .class1 image)[wiring[w]] = image[w]

/-- A report arriving at a queue of 48 in class order: a more urgent one than the last held drops that last, which
is of the least urgent class present, and is queued; any other is itself dropped; and the flag and the lost
class stand. With fewer held it is queued, behind the last report of its class. -/
def Obligations.FullQueueDropsTheLeastUrgent : Prop :=
  ∀ (k : Link) (r : Report), (k.reports.map Report.rank).Pairwise (· ≤ ·) →
    (k.reports.length < 48 → ∃ before after, k.reports = before ++ after
      ∧ (Link.queue r k) = { k with reports := before ++ r :: after }
      ∧ (∀ q ∈ before, q.rank ≤ r.rank) ∧ ∀ q ∈ after, r.rank < q.rank)
    ∧ (∀ held last, k.reports = held ++ [last] → k.reports.length = 48 → (∀ q ∈ k.reports, q.rank ≤ last.rank)
      ∧ (last.rank ≤ r.rank → Link.queue r k = { k with reportsLost := true, lostClasses := k.lostClasses.add r.cls })
      ∧ (r.rank < last.rank → ∃ before after, held = before ++ after
          ∧ (∀ q ∈ before, q.rank ≤ r.rank) ∧ (∀ q ∈ after, r.rank < q.rank)
          ∧ Link.queue r k = { k with
              reports := before ++ r :: after, reportsLost := true, lostClasses := k.lostClasses.add last.cls }))

/-! ### What every step keeps -/

/-- Every step keeps the link sound: at most 48 reports in class order, 4 faults, 2 slots, and the replies those of
the oldest slots in the order they were taken. -/
def Obligations.StepsKeepTheLinkSound : Prop := ∀ s t : State, s.linkSound → step s = .next t → t.linkSound

/-- Every step keeps every account sound: its ranges, the limit of its charge, and every counted second of the time
modes play or down. -/
def Obligations.StepsKeepTheAccountsSound : Prop := ∀ s t : State, s.accountsSound → step s = .next t → t.accountsSound

/-- Every step keeps every machine record sound: a pending cycle exactly in WAITING, a cycle in flight exactly in
CYCLING, a deck read only in READING, and a ball pending in BALL_DOWN, READING or LINK_LOST. -/
def Obligations.StepsKeepTheMachinesSound : Prop := ∀ s t : State, s.machinesSound → step s = .next t → t.machinesSound

/-- Every step keeps the gates and returns sound: NO_SESSION, RETURN_JAM and RETURN_BACKLOG stand exactly while their
conditions do, DESK_HOLD only on a running session (BILLING is not spoken of), a lane REACHED is OPEN, the track and the
rack stay in their ranges, a start lane stays in its pair, and the hold follows the desk-lost state. -/
def Obligations.StepsKeepThePlaySound : Prop := ∀ s t : State, s.playSound → step s = .next t → t.playSound

/-- Every step keeps the station table sound: missed polls below 3, sequences in 1 to 255, and nothing held for a
station that is not polled. -/
def Obligations.StepsKeepTheStationsSound : Prop := ∀ s t : State, s.stationsSound → step s = .next t → t.stationsSound

/-- Every step keeps each station that is polled DARK exactly while its fitted lanes are CLOSED and dark and its
track is empty. -/
def Obligations.StepsKeepTheDarkStations : Prop := ∀ s t : State, s.darkSound → step s = .next t → t.darkSound

/-- The part right after reset meets all of these invariants. -/
def Obligations.ResetIsSound : Prop :=
  State.reset.linkSound ∧ State.reset.accountsSound ∧ State.reset.machinesSound ∧ State.reset.playSound
    ∧ State.reset.stationsSound ∧ State.reset.darkSound ∧ State.reset.turnsSound

/-- A lane or pair request leaves every other pair's lanes, records and station alone, and neither the clock, the
meter nor the hold changes. Start lanes are taken as in their own pairs. -/
def Obligations.RequestsStayInTheirPair : Prop :=
  ∀ (c : Instr) (kind : RequestKind) (agrees isLane : Bool) (n : Nat) (s t : State),
    requestNamed c = some (kind, agrees, isLane, n) → s.free → s.startsAtHome → exec c s = .next t →
    (∀ l : LaneIx, numberedPair isLane n ≠ some (pairOf l) → t.lane l = s.lane l)
    ∧ (∀ p : PairIx, numberedPair isLane n ≠ some p → t.pair p = s.pair p)
    ∧ t.clock = s.clock ∧ t.clockValid = s.clockValid ∧ t.meter = s.meter ∧ t.hold = s.hold ∧ t.returnClock = s.returnClock
end

