-- ==== Sys2Proof/Laws/State.lean ====
section
/-! SUPPORT. One lemma for each field and each update of the state, true by rfl, and the lemmas that read a lane or
a pair back after a write. -/

namespace Sys2Proof.Machine

/-! ### The setters -/

@[simp] theorem State.setLane_pending (s : State) (l : LaneIx) (x : Lane) : (s.setLane l x).pending = s.pending := rfl
@[simp] theorem State.setLane_held (s : State) (l : LaneIx) (x : Lane) : (s.setLane l x).held = s.held := rfl
@[simp] theorem State.setLane_due (s : State) (l : LaneIx) (x : Lane) : (s.setLane l x).due = s.due := rfl
@[simp] theorem State.setLane_returnClock (s : State) (l : LaneIx) (x : Lane) : (s.setLane l x).returnClock = s.returnClock := rfl
@[simp] theorem State.setLane_sinceSecond (s : State) (l : LaneIx) (x : Lane) : (s.setLane l x).sinceSecond = s.sinceSecond := rfl
@[simp] theorem State.setLane_clock (s : State) (l : LaneIx) (x : Lane) : (s.setLane l x).clock = s.clock := rfl
@[simp] theorem State.setLane_clockValid (s : State) (l : LaneIx) (x : Lane) : (s.setLane l x).clockValid = s.clockValid := rfl
@[simp] theorem State.setLane_meter (s : State) (l : LaneIx) (x : Lane) : (s.setLane l x).meter = s.meter := rfl
@[simp] theorem State.setLane_pairs (s : State) (l : LaneIx) (x : Lane) : (s.setLane l x).pairs = s.pairs := rfl
@[simp] theorem State.setLane_hold (s : State) (l : LaneIx) (x : Lane) : (s.setLane l x).hold = s.hold := rfl
@[simp] theorem State.setLane_bus (s : State) (l : LaneIx) (x : Lane) : (s.setLane l x).bus = s.bus := rfl
@[simp] theorem State.setLane_link (s : State) (l : LaneIx) (x : Lane) : (s.setLane l x).link = s.link := rfl

@[simp] theorem State.setPair_pending (s : State) (p : PairIx) (x : Pair) : (s.setPair p x).pending = s.pending := rfl
@[simp] theorem State.setPair_held (s : State) (p : PairIx) (x : Pair) : (s.setPair p x).held = s.held := rfl
@[simp] theorem State.setPair_due (s : State) (p : PairIx) (x : Pair) : (s.setPair p x).due = s.due := rfl
@[simp] theorem State.setPair_returnClock (s : State) (p : PairIx) (x : Pair) : (s.setPair p x).returnClock = s.returnClock := rfl
@[simp] theorem State.setPair_sinceSecond (s : State) (p : PairIx) (x : Pair) : (s.setPair p x).sinceSecond = s.sinceSecond := rfl
@[simp] theorem State.setPair_clock (s : State) (p : PairIx) (x : Pair) : (s.setPair p x).clock = s.clock := rfl
@[simp] theorem State.setPair_clockValid (s : State) (p : PairIx) (x : Pair) : (s.setPair p x).clockValid = s.clockValid := rfl
@[simp] theorem State.setPair_meter (s : State) (p : PairIx) (x : Pair) : (s.setPair p x).meter = s.meter := rfl
@[simp] theorem State.setPair_lanes (s : State) (p : PairIx) (x : Pair) : (s.setPair p x).lanes = s.lanes := rfl
@[simp] theorem State.setPair_hold (s : State) (p : PairIx) (x : Pair) : (s.setPair p x).hold = s.hold := rfl
@[simp] theorem State.setPair_bus (s : State) (p : PairIx) (x : Pair) : (s.setPair p x).bus = s.bus := rfl
@[simp] theorem State.setPair_link (s : State) (p : PairIx) (x : Pair) : (s.setPair p x).link = s.link := rfl

@[simp] theorem State.modLane_pending (s : State) (l : LaneIx) (f : Lane → Lane) : (s.modLane l f).pending = s.pending := rfl
@[simp] theorem State.modLane_held (s : State) (l : LaneIx) (f : Lane → Lane) : (s.modLane l f).held = s.held := rfl
@[simp] theorem State.modLane_due (s : State) (l : LaneIx) (f : Lane → Lane) : (s.modLane l f).due = s.due := rfl
@[simp] theorem State.modLane_returnClock (s : State) (l : LaneIx) (f : Lane → Lane) : (s.modLane l f).returnClock = s.returnClock := rfl
@[simp] theorem State.modLane_sinceSecond (s : State) (l : LaneIx) (f : Lane → Lane) : (s.modLane l f).sinceSecond = s.sinceSecond := rfl
@[simp] theorem State.modLane_clock (s : State) (l : LaneIx) (f : Lane → Lane) : (s.modLane l f).clock = s.clock := rfl
@[simp] theorem State.modLane_clockValid (s : State) (l : LaneIx) (f : Lane → Lane) : (s.modLane l f).clockValid = s.clockValid := rfl
@[simp] theorem State.modLane_meter (s : State) (l : LaneIx) (f : Lane → Lane) : (s.modLane l f).meter = s.meter := rfl
@[simp] theorem State.modLane_pairs (s : State) (l : LaneIx) (f : Lane → Lane) : (s.modLane l f).pairs = s.pairs := rfl
@[simp] theorem State.modLane_hold (s : State) (l : LaneIx) (f : Lane → Lane) : (s.modLane l f).hold = s.hold := rfl
@[simp] theorem State.modLane_bus (s : State) (l : LaneIx) (f : Lane → Lane) : (s.modLane l f).bus = s.bus := rfl
@[simp] theorem State.modLane_link (s : State) (l : LaneIx) (f : Lane → Lane) : (s.modLane l f).link = s.link := rfl

@[simp] theorem State.modPair_pending (s : State) (p : PairIx) (f : Pair → Pair) : (s.modPair p f).pending = s.pending := rfl
@[simp] theorem State.modPair_held (s : State) (p : PairIx) (f : Pair → Pair) : (s.modPair p f).held = s.held := rfl
@[simp] theorem State.modPair_due (s : State) (p : PairIx) (f : Pair → Pair) : (s.modPair p f).due = s.due := rfl
@[simp] theorem State.modPair_returnClock (s : State) (p : PairIx) (f : Pair → Pair) : (s.modPair p f).returnClock = s.returnClock := rfl
@[simp] theorem State.modPair_sinceSecond (s : State) (p : PairIx) (f : Pair → Pair) : (s.modPair p f).sinceSecond = s.sinceSecond := rfl
@[simp] theorem State.modPair_clock (s : State) (p : PairIx) (f : Pair → Pair) : (s.modPair p f).clock = s.clock := rfl
@[simp] theorem State.modPair_clockValid (s : State) (p : PairIx) (f : Pair → Pair) : (s.modPair p f).clockValid = s.clockValid := rfl
@[simp] theorem State.modPair_meter (s : State) (p : PairIx) (f : Pair → Pair) : (s.modPair p f).meter = s.meter := rfl
@[simp] theorem State.modPair_lanes (s : State) (p : PairIx) (f : Pair → Pair) : (s.modPair p f).lanes = s.lanes := rfl
@[simp] theorem State.modPair_hold (s : State) (p : PairIx) (f : Pair → Pair) : (s.modPair p f).hold = s.hold := rfl
@[simp] theorem State.modPair_bus (s : State) (p : PairIx) (f : Pair → Pair) : (s.modPair p f).bus = s.bus := rfl
@[simp] theorem State.modPair_link (s : State) (p : PairIx) (f : Pair → Pair) : (s.modPair p f).link = s.link := rfl

@[simp] theorem State.modMachine_pending (s : State) (l : LaneIx) (f : MachineRec → MachineRec) : (s.modMachine l f).pending = s.pending := rfl
@[simp] theorem State.modMachine_held (s : State) (l : LaneIx) (f : MachineRec → MachineRec) : (s.modMachine l f).held = s.held := rfl
@[simp] theorem State.modMachine_due (s : State) (l : LaneIx) (f : MachineRec → MachineRec) : (s.modMachine l f).due = s.due := rfl
@[simp] theorem State.modMachine_returnClock (s : State) (l : LaneIx) (f : MachineRec → MachineRec) : (s.modMachine l f).returnClock = s.returnClock := rfl
@[simp] theorem State.modMachine_sinceSecond (s : State) (l : LaneIx) (f : MachineRec → MachineRec) : (s.modMachine l f).sinceSecond = s.sinceSecond := rfl
@[simp] theorem State.modMachine_clock (s : State) (l : LaneIx) (f : MachineRec → MachineRec) : (s.modMachine l f).clock = s.clock := rfl
@[simp] theorem State.modMachine_clockValid (s : State) (l : LaneIx) (f : MachineRec → MachineRec) : (s.modMachine l f).clockValid = s.clockValid := rfl
@[simp] theorem State.modMachine_meter (s : State) (l : LaneIx) (f : MachineRec → MachineRec) : (s.modMachine l f).meter = s.meter := rfl
@[simp] theorem State.modMachine_pairs (s : State) (l : LaneIx) (f : MachineRec → MachineRec) : (s.modMachine l f).pairs = s.pairs := rfl
@[simp] theorem State.modMachine_hold (s : State) (l : LaneIx) (f : MachineRec → MachineRec) : (s.modMachine l f).hold = s.hold := rfl
@[simp] theorem State.modMachine_bus (s : State) (l : LaneIx) (f : MachineRec → MachineRec) : (s.modMachine l f).bus = s.bus := rfl
@[simp] theorem State.modMachine_link (s : State) (l : LaneIx) (f : MachineRec → MachineRec) : (s.modMachine l f).link = s.link := rfl

@[simp] theorem State.modAccount_pending (s : State) (l : LaneIx) (f : Account → Account) : (s.modAccount l f).pending = s.pending := rfl
@[simp] theorem State.modAccount_held (s : State) (l : LaneIx) (f : Account → Account) : (s.modAccount l f).held = s.held := rfl
@[simp] theorem State.modAccount_due (s : State) (l : LaneIx) (f : Account → Account) : (s.modAccount l f).due = s.due := rfl
@[simp] theorem State.modAccount_returnClock (s : State) (l : LaneIx) (f : Account → Account) : (s.modAccount l f).returnClock = s.returnClock := rfl
@[simp] theorem State.modAccount_sinceSecond (s : State) (l : LaneIx) (f : Account → Account) : (s.modAccount l f).sinceSecond = s.sinceSecond := rfl
@[simp] theorem State.modAccount_clock (s : State) (l : LaneIx) (f : Account → Account) : (s.modAccount l f).clock = s.clock := rfl
@[simp] theorem State.modAccount_clockValid (s : State) (l : LaneIx) (f : Account → Account) : (s.modAccount l f).clockValid = s.clockValid := rfl
@[simp] theorem State.modAccount_meter (s : State) (l : LaneIx) (f : Account → Account) : (s.modAccount l f).meter = s.meter := rfl
@[simp] theorem State.modAccount_pairs (s : State) (l : LaneIx) (f : Account → Account) : (s.modAccount l f).pairs = s.pairs := rfl
@[simp] theorem State.modAccount_hold (s : State) (l : LaneIx) (f : Account → Account) : (s.modAccount l f).hold = s.hold := rfl
@[simp] theorem State.modAccount_bus (s : State) (l : LaneIx) (f : Account → Account) : (s.modAccount l f).bus = s.bus := rfl
@[simp] theorem State.modAccount_link (s : State) (l : LaneIx) (f : Account → Account) : (s.modAccount l f).link = s.link := rfl

@[simp] theorem State.modStation_pending (s : State) (p : PairIx) (f : Station → Station) : (s.modStation p f).pending = s.pending := rfl
@[simp] theorem State.modStation_held (s : State) (p : PairIx) (f : Station → Station) : (s.modStation p f).held = s.held := rfl
@[simp] theorem State.modStation_due (s : State) (p : PairIx) (f : Station → Station) : (s.modStation p f).due = s.due := rfl
@[simp] theorem State.modStation_returnClock (s : State) (p : PairIx) (f : Station → Station) : (s.modStation p f).returnClock = s.returnClock := rfl
@[simp] theorem State.modStation_sinceSecond (s : State) (p : PairIx) (f : Station → Station) : (s.modStation p f).sinceSecond = s.sinceSecond := rfl
@[simp] theorem State.modStation_clock (s : State) (p : PairIx) (f : Station → Station) : (s.modStation p f).clock = s.clock := rfl
@[simp] theorem State.modStation_clockValid (s : State) (p : PairIx) (f : Station → Station) : (s.modStation p f).clockValid = s.clockValid := rfl
@[simp] theorem State.modStation_meter (s : State) (p : PairIx) (f : Station → Station) : (s.modStation p f).meter = s.meter := rfl
@[simp] theorem State.modStation_lanes (s : State) (p : PairIx) (f : Station → Station) : (s.modStation p f).lanes = s.lanes := rfl
@[simp] theorem State.modStation_hold (s : State) (p : PairIx) (f : Station → Station) : (s.modStation p f).hold = s.hold := rfl
@[simp] theorem State.modStation_bus (s : State) (p : PairIx) (f : Station → Station) : (s.modStation p f).bus = s.bus := rfl
@[simp] theorem State.modStation_link (s : State) (p : PairIx) (f : Station → Station) : (s.modStation p f).link = s.link := rfl

@[simp] theorem State.modReturn_pending (s : State) (p : PairIx) (f : ReturnRec → ReturnRec) : (s.modReturn p f).pending = s.pending := rfl
@[simp] theorem State.modReturn_held (s : State) (p : PairIx) (f : ReturnRec → ReturnRec) : (s.modReturn p f).held = s.held := rfl
@[simp] theorem State.modReturn_due (s : State) (p : PairIx) (f : ReturnRec → ReturnRec) : (s.modReturn p f).due = s.due := rfl
@[simp] theorem State.modReturn_returnClock (s : State) (p : PairIx) (f : ReturnRec → ReturnRec) : (s.modReturn p f).returnClock = s.returnClock := rfl
@[simp] theorem State.modReturn_sinceSecond (s : State) (p : PairIx) (f : ReturnRec → ReturnRec) : (s.modReturn p f).sinceSecond = s.sinceSecond := rfl
@[simp] theorem State.modReturn_clock (s : State) (p : PairIx) (f : ReturnRec → ReturnRec) : (s.modReturn p f).clock = s.clock := rfl
@[simp] theorem State.modReturn_clockValid (s : State) (p : PairIx) (f : ReturnRec → ReturnRec) : (s.modReturn p f).clockValid = s.clockValid := rfl
@[simp] theorem State.modReturn_meter (s : State) (p : PairIx) (f : ReturnRec → ReturnRec) : (s.modReturn p f).meter = s.meter := rfl
@[simp] theorem State.modReturn_lanes (s : State) (p : PairIx) (f : ReturnRec → ReturnRec) : (s.modReturn p f).lanes = s.lanes := rfl
@[simp] theorem State.modReturn_hold (s : State) (p : PairIx) (f : ReturnRec → ReturnRec) : (s.modReturn p f).hold = s.hold := rfl
@[simp] theorem State.modReturn_bus (s : State) (p : PairIx) (f : ReturnRec → ReturnRec) : (s.modReturn p f).bus = s.bus := rfl
@[simp] theorem State.modReturn_link (s : State) (p : PairIx) (f : ReturnRec → ReturnRec) : (s.modReturn p f).link = s.link := rfl

@[simp] theorem State.modLink_pending (s : State) (f : Link → Link) : (s.modLink f).pending = s.pending := rfl
@[simp] theorem State.modLink_held (s : State) (f : Link → Link) : (s.modLink f).held = s.held := rfl
@[simp] theorem State.modLink_due (s : State) (f : Link → Link) : (s.modLink f).due = s.due := rfl
@[simp] theorem State.modLink_returnClock (s : State) (f : Link → Link) : (s.modLink f).returnClock = s.returnClock := rfl
@[simp] theorem State.modLink_sinceSecond (s : State) (f : Link → Link) : (s.modLink f).sinceSecond = s.sinceSecond := rfl
@[simp] theorem State.modLink_clock (s : State) (f : Link → Link) : (s.modLink f).clock = s.clock := rfl
@[simp] theorem State.modLink_clockValid (s : State) (f : Link → Link) : (s.modLink f).clockValid = s.clockValid := rfl
@[simp] theorem State.modLink_meter (s : State) (f : Link → Link) : (s.modLink f).meter = s.meter := rfl
@[simp] theorem State.modLink_lanes (s : State) (f : Link → Link) : (s.modLink f).lanes = s.lanes := rfl
@[simp] theorem State.modLink_pairs (s : State) (f : Link → Link) : (s.modLink f).pairs = s.pairs := rfl
@[simp] theorem State.modLink_hold (s : State) (f : Link → Link) : (s.modLink f).hold = s.hold := rfl
@[simp] theorem State.modLink_bus (s : State) (f : Link → Link) : (s.modLink f).bus = s.bus := rfl

@[simp] theorem State.modBus_pending (s : State) (f : Bus → Bus) : (s.modBus f).pending = s.pending := rfl
@[simp] theorem State.modBus_held (s : State) (f : Bus → Bus) : (s.modBus f).held = s.held := rfl
@[simp] theorem State.modBus_due (s : State) (f : Bus → Bus) : (s.modBus f).due = s.due := rfl
@[simp] theorem State.modBus_returnClock (s : State) (f : Bus → Bus) : (s.modBus f).returnClock = s.returnClock := rfl
@[simp] theorem State.modBus_sinceSecond (s : State) (f : Bus → Bus) : (s.modBus f).sinceSecond = s.sinceSecond := rfl
@[simp] theorem State.modBus_clock (s : State) (f : Bus → Bus) : (s.modBus f).clock = s.clock := rfl
@[simp] theorem State.modBus_clockValid (s : State) (f : Bus → Bus) : (s.modBus f).clockValid = s.clockValid := rfl
@[simp] theorem State.modBus_meter (s : State) (f : Bus → Bus) : (s.modBus f).meter = s.meter := rfl
@[simp] theorem State.modBus_lanes (s : State) (f : Bus → Bus) : (s.modBus f).lanes = s.lanes := rfl
@[simp] theorem State.modBus_pairs (s : State) (f : Bus → Bus) : (s.modBus f).pairs = s.pairs := rfl
@[simp] theorem State.modBus_hold (s : State) (f : Bus → Bus) : (s.modBus f).hold = s.hold := rfl
@[simp] theorem State.modBus_link (s : State) (f : Bus → Bus) : (s.modBus f).link = s.link := rfl

@[simp] theorem State.report_pending (s : State) (r : Report) : (s.report r).pending = s.pending := rfl
@[simp] theorem State.report_held (s : State) (r : Report) : (s.report r).held = s.held := rfl
@[simp] theorem State.report_due (s : State) (r : Report) : (s.report r).due = s.due := rfl
@[simp] theorem State.report_returnClock (s : State) (r : Report) : (s.report r).returnClock = s.returnClock := rfl
@[simp] theorem State.report_sinceSecond (s : State) (r : Report) : (s.report r).sinceSecond = s.sinceSecond := rfl
@[simp] theorem State.report_clock (s : State) (r : Report) : (s.report r).clock = s.clock := rfl
@[simp] theorem State.report_clockValid (s : State) (r : Report) : (s.report r).clockValid = s.clockValid := rfl
@[simp] theorem State.report_meter (s : State) (r : Report) : (s.report r).meter = s.meter := rfl
@[simp] theorem State.report_lanes (s : State) (r : Report) : (s.report r).lanes = s.lanes := rfl
@[simp] theorem State.report_pairs (s : State) (r : Report) : (s.report r).pairs = s.pairs := rfl
@[simp] theorem State.report_hold (s : State) (r : Report) : (s.report r).hold = s.hold := rfl
@[simp] theorem State.report_bus (s : State) (r : Report) : (s.report r).bus = s.bus := rfl

@[simp] theorem State.modLink_link (s : State) (f : Link → Link) : (s.modLink f).link = f s.link := rfl
@[simp] theorem State.modBus_bus (s : State) (f : Bus → Bus) : (s.modBus f).bus = f s.bus := rfl
@[simp] theorem State.report_link (s : State) (r : Report) : (s.report r).link = Link.queue r s.link := rfl

/-! ### Lanes and pairs read back -/

@[simp] theorem State.lane_setLane_self (s : State) (l : LaneIx) (x : Lane) : (s.setLane l x).lane l = x := by
  simp [State.lane, State.setLane]

theorem State.lane_setLane_ne (s : State) (l k : LaneIx) (x : Lane) (h : k ≠ l) : (s.setLane l x).lane k = s.lane k := by
  have h' : l.val ≠ k.val := fun e => h (Fin.ext e.symm)
  simp [State.lane, State.setLane, Vector.getElem_set_ne, h']

@[simp] theorem State.pair_setPair_self (s : State) (p : PairIx) (x : Pair) : (s.setPair p x).pair p = x := by
  simp [State.pair, State.setPair]

theorem State.pair_setPair_ne (s : State) (p q : PairIx) (x : Pair) (h : q ≠ p) : (s.setPair p x).pair q = s.pair q := by
  have h' : p.val ≠ q.val := fun e => h (Fin.ext e.symm)
  simp [State.pair, State.setPair, Vector.getElem_set_ne, h']

@[simp] theorem State.lane_setPair (s : State) (p : PairIx) (x : Pair) (k : LaneIx) : (s.setPair p x).lane k = s.lane k := rfl
@[simp] theorem State.pair_setLane (s : State) (l : LaneIx) (x : Lane) (q : PairIx) : (s.setLane l x).pair q = s.pair q := rfl

@[simp] theorem State.lane_modLane_self (s : State) (l : LaneIx) (f : Lane → Lane) : (s.modLane l f).lane l = f (s.lane l) :=
  s.lane_setLane_self l _

theorem State.lane_modLane_ne (s : State) (l k : LaneIx) (f : Lane → Lane) (h : k ≠ l) : (s.modLane l f).lane k = s.lane k :=
  s.lane_setLane_ne l k _ h

@[simp] theorem State.pair_modPair_self (s : State) (p : PairIx) (f : Pair → Pair) : (s.modPair p f).pair p = f (s.pair p) :=
  s.pair_setPair_self p _

theorem State.pair_modPair_ne (s : State) (p q : PairIx) (f : Pair → Pair) (h : q ≠ p) : (s.modPair p f).pair q = s.pair q :=
  s.pair_setPair_ne p q _ h

@[simp] theorem State.lane_modPair (s : State) (p : PairIx) (f : Pair → Pair) (k : LaneIx) : (s.modPair p f).lane k = s.lane k := rfl
@[simp] theorem State.pair_modLane (s : State) (l : LaneIx) (f : Lane → Lane) (q : PairIx) : (s.modLane l f).pair q = s.pair q := rfl
@[simp] theorem State.lane_modLink (s : State) (f : Link → Link) (k : LaneIx) : (s.modLink f).lane k = s.lane k := rfl
@[simp] theorem State.pair_modLink (s : State) (f : Link → Link) (q : PairIx) : (s.modLink f).pair q = s.pair q := rfl
@[simp] theorem State.lane_modBus (s : State) (f : Bus → Bus) (k : LaneIx) : (s.modBus f).lane k = s.lane k := rfl
@[simp] theorem State.pair_modBus (s : State) (f : Bus → Bus) (q : PairIx) : (s.modBus f).pair q = s.pair q := rfl
@[simp] theorem State.lane_report (s : State) (r : Report) (k : LaneIx) : (s.report r).lane k = s.lane k := rfl
@[simp] theorem State.pair_report (s : State) (r : Report) (q : PairIx) : (s.report r).pair q = s.pair q := rfl
@[simp] theorem State.pair_modMachine (s : State) (l : LaneIx) (f : MachineRec → MachineRec) (q : PairIx) :
    (s.modMachine l f).pair q = s.pair q := rfl
@[simp] theorem State.pair_modAccount (s : State) (l : LaneIx) (f : Account → Account) (q : PairIx) :
    (s.modAccount l f).pair q = s.pair q := rfl
@[simp] theorem State.lane_modStation (s : State) (p : PairIx) (f : Station → Station) (k : LaneIx) :
    (s.modStation p f).lane k = s.lane k := rfl
@[simp] theorem State.lane_modReturn (s : State) (p : PairIx) (f : ReturnRec → ReturnRec) (k : LaneIx) :
    (s.modReturn p f).lane k = s.lane k := rfl

@[simp] theorem State.lane_modMachine_self (s : State) (l : LaneIx) (f : MachineRec → MachineRec) :
    (s.modMachine l f).lane l = { s.lane l with machine := f (s.lane l).machine } := s.lane_modLane_self l _

theorem State.lane_modMachine_ne (s : State) (l k : LaneIx) (f : MachineRec → MachineRec) (h : k ≠ l) :
    (s.modMachine l f).lane k = s.lane k := s.lane_modLane_ne l k _ h

@[simp] theorem State.machine_modMachine_self (s : State) (l : LaneIx) (f : MachineRec → MachineRec) :
    (s.modMachine l f).machine l = f (s.machine l) := by simp [State.machine]

@[simp] theorem State.lane_modAccount_self (s : State) (l : LaneIx) (f : Account → Account) :
    (s.modAccount l f).lane l = { s.lane l with account := (s.lane l).account.map f } := s.lane_modLane_self l _

theorem State.lane_modAccount_ne (s : State) (l k : LaneIx) (f : Account → Account) (h : k ≠ l) :
    (s.modAccount l f).lane k = s.lane k := s.lane_modLane_ne l k _ h

@[simp] theorem State.pair_modStation_self (s : State) (p : PairIx) (f : Station → Station) :
    (s.modStation p f).pair p = { s.pair p with station := f (s.pair p).station } := s.pair_modPair_self p _

theorem State.pair_modStation_ne (s : State) (p q : PairIx) (f : Station → Station) (h : q ≠ p) :
    (s.modStation p f).pair q = s.pair q := s.pair_modPair_ne p q _ h

@[simp] theorem State.station_modStation_self (s : State) (p : PairIx) (f : Station → Station) :
    (s.modStation p f).station p = f (s.station p) := by simp [State.station]

@[simp] theorem State.pair_modReturn_self (s : State) (p : PairIx) (f : ReturnRec → ReturnRec) :
    (s.modReturn p f).pair p = { s.pair p with ret := f (s.pair p).ret } := s.pair_modPair_self p _

theorem State.pair_modReturn_ne (s : State) (p q : PairIx) (f : ReturnRec → ReturnRec) (h : q ≠ p) :
    (s.modReturn p f).pair q = s.pair q := s.pair_modPair_ne p q _ h

@[simp] theorem State.ret_modReturn_self (s : State) (p : PairIx) (f : ReturnRec → ReturnRec) :
    (s.modReturn p f).ret p = f (s.ret p) := by simp [State.ret]

/-! ### The link -/

@[simp] theorem Link.lose_rate (c : ReportClass) (k : Link) : (k.lose c).rate = k.rate := rfl
@[simp] theorem Link.lose_timeout (c : ReportClass) (k : Link) : (k.lose c).timeout = k.timeout := rfl
@[simp] theorem Link.lose_receiver (c : ReportClass) (k : Link) : (k.lose c).receiver = k.receiver := rfl
@[simp] theorem Link.lose_slots (c : ReportClass) (k : Link) : (k.lose c).slots = k.slots := rfl
@[simp] theorem Link.lose_replies (c : ReportClass) (k : Link) : (k.lose c).replies = k.replies := rfl
@[simp] theorem Link.lose_faults (c : ReportClass) (k : Link) : (k.lose c).faults = k.faults := rfl
@[simp] theorem Link.lose_faultsDropped (c : ReportClass) (k : Link) : (k.lose c).faultsDropped = k.faultsDropped := rfl
@[simp] theorem Link.lose_lost (c : ReportClass) (k : Link) : (k.lose c).lost = k.lost := rfl
@[simp] theorem Link.lose_wasLost (c : ReportClass) (k : Link) : (k.lose c).wasLost = k.wasLost := rfl
@[simp] theorem Link.lose_silence (c : ReportClass) (k : Link) : (k.lose c).silence = k.silence := rfl
@[simp] theorem Link.lose_tx (c : ReportClass) (k : Link) : (k.lose c).tx = k.tx := rfl
@[simp] theorem Link.lose_reports (c : ReportClass) (k : Link) : (k.lose c).reports = k.reports := rfl

/-! ### The gate -/

@[simp] theorem Gate.put_noSession_noSession (t : Option DateTime) (g : Gate) : (g.put .noSession t).noSession = t := rfl
@[simp] theorem Gate.put_noSession_billing (t : Option DateTime) (g : Gate) : (g.put .noSession t).billing = g.billing := rfl
@[simp] theorem Gate.put_noSession_returnJam (t : Option DateTime) (g : Gate) : (g.put .noSession t).returnJam = g.returnJam := rfl
@[simp] theorem Gate.put_noSession_deskHold (t : Option DateTime) (g : Gate) : (g.put .noSession t).deskHold = g.deskHold := rfl
@[simp] theorem Gate.put_noSession_returnBacklog (t : Option DateTime) (g : Gate) : (g.put .noSession t).returnBacklog = g.returnBacklog := rfl
@[simp] theorem Gate.put_billing_noSession (t : Option DateTime) (g : Gate) : (g.put .billing t).noSession = g.noSession := rfl
@[simp] theorem Gate.put_billing_billing (t : Option DateTime) (g : Gate) : (g.put .billing t).billing = t := rfl
@[simp] theorem Gate.put_billing_returnJam (t : Option DateTime) (g : Gate) : (g.put .billing t).returnJam = g.returnJam := rfl
@[simp] theorem Gate.put_billing_deskHold (t : Option DateTime) (g : Gate) : (g.put .billing t).deskHold = g.deskHold := rfl
@[simp] theorem Gate.put_billing_returnBacklog (t : Option DateTime) (g : Gate) : (g.put .billing t).returnBacklog = g.returnBacklog := rfl
@[simp] theorem Gate.put_returnJam_noSession (t : Option DateTime) (g : Gate) : (g.put .returnJam t).noSession = g.noSession := rfl
@[simp] theorem Gate.put_returnJam_billing (t : Option DateTime) (g : Gate) : (g.put .returnJam t).billing = g.billing := rfl
@[simp] theorem Gate.put_returnJam_returnJam (t : Option DateTime) (g : Gate) : (g.put .returnJam t).returnJam = t := rfl
@[simp] theorem Gate.put_returnJam_deskHold (t : Option DateTime) (g : Gate) : (g.put .returnJam t).deskHold = g.deskHold := rfl
@[simp] theorem Gate.put_returnJam_returnBacklog (t : Option DateTime) (g : Gate) : (g.put .returnJam t).returnBacklog = g.returnBacklog := rfl
@[simp] theorem Gate.put_deskHold_noSession (t : Option DateTime) (g : Gate) : (g.put .deskHold t).noSession = g.noSession := rfl
@[simp] theorem Gate.put_deskHold_billing (t : Option DateTime) (g : Gate) : (g.put .deskHold t).billing = g.billing := rfl
@[simp] theorem Gate.put_deskHold_returnJam (t : Option DateTime) (g : Gate) : (g.put .deskHold t).returnJam = g.returnJam := rfl
@[simp] theorem Gate.put_deskHold_deskHold (t : Option DateTime) (g : Gate) : (g.put .deskHold t).deskHold = t := rfl
@[simp] theorem Gate.put_deskHold_returnBacklog (t : Option DateTime) (g : Gate) : (g.put .deskHold t).returnBacklog = g.returnBacklog := rfl
@[simp] theorem Gate.put_returnBacklog_noSession (t : Option DateTime) (g : Gate) : (g.put .returnBacklog t).noSession = g.noSession := rfl
@[simp] theorem Gate.put_returnBacklog_billing (t : Option DateTime) (g : Gate) : (g.put .returnBacklog t).billing = g.billing := rfl
@[simp] theorem Gate.put_returnBacklog_returnJam (t : Option DateTime) (g : Gate) : (g.put .returnBacklog t).returnJam = g.returnJam := rfl
@[simp] theorem Gate.put_returnBacklog_deskHold (t : Option DateTime) (g : Gate) : (g.put .returnBacklog t).deskHold = g.deskHold := rfl
@[simp] theorem Gate.put_returnBacklog_returnBacklog (t : Option DateTime) (g : Gate) : (g.put .returnBacklog t).returnBacklog = t := rfl

end Sys2Proof.Machine
end

