-- ==== Sys2Proof/Laws/Ops.lean ====
section
/-! SUPPORT. What the shared operations can do, each said once: the numbers of lanes and pairs, the report queue,
the occasion of a step, the carrying out of a request and its checks, the gate, and the passing of time. -/

namespace Sys2Proof.Machine

/-! ### Lanes and pairs -/

@[simp] theorem findLane_laneNumber (l : LaneIx) : findLane (laneNumber l) = some l := by
  simp [findLane, laneNumber]

@[simp] theorem findPair_pairNumber (p : PairIx) : findPair (pairNumber p) = some p := by
  simp [findPair, pairNumber]

theorem findLane_none_iff (n : Nat) : findLane n = none ↔ numberInRange true n = false := by
  simp only [findLane, numberInRange]
  split <;> simp <;> omega

theorem findPair_none_iff (n : Nat) : findPair n = none ↔ numberInRange false n = false := by
  simp only [findPair, numberInRange]
  split <;> simp <;> omega

@[simp] theorem laneOf_sideOf (l : LaneIx) : laneOf (pairOf l) (sideOf l) = l := by revert l; decide
@[simp] theorem pairOf_laneOf (p : PairIx) (d : Side) : pairOf (laneOf p d) = p := by revert p; cases d <;> decide
@[simp] theorem sideOf_laneOf (p : PairIx) (d : Side) : sideOf (laneOf p d) = d := by revert p; cases d <;> decide
@[simp] theorem pairOf_laneA (p : PairIx) : pairOf (laneA p) = p := by revert p; decide
@[simp] theorem pairOf_laneB (p : PairIx) : pairOf (laneB p) = p := by revert p; decide
@[simp] theorem pairOf_partner (l : LaneIx) : pairOf (partner l) = pairOf l := by revert l; decide
@[simp] theorem partner_partner (l : LaneIx) : partner (partner l) = l := by revert l; decide
theorem partner_ne (l : LaneIx) : partner l ≠ l := by revert l; decide

theorem pairOf_eq_iff (k l : LaneIx) : pairOf k = pairOf l ↔ k = l ∨ k = partner l := by revert k l; decide

theorem mem_fittedLanes (s : State) (p : PairIx) (l : LaneIx) :
    l ∈ s.fittedLanes p ↔ pairOf l = p ∧ fittedHas (s.station p).fitted (sideOf l) = true := by
  simp only [State.fittedLanes, List.mem_map, List.mem_filter]
  constructor
  · rintro ⟨d, ⟨-, h⟩, rfl⟩
    simp [h]
  · rintro ⟨rfl, h⟩
    exact ⟨sideOf l, ⟨by cases sideOf l <;> simp, h⟩, by simp⟩

@[simp] theorem mapLanes_get (f : LaneIx → Lane → Lane) (v : Vector Lane 16) (l : LaneIx) : (mapLanes f v)[l.val] = f l v[l.val] := by
  fin_cases l <;> rfl

@[simp] theorem mapPairs_get (f : PairIx → Pair → Pair) (v : Vector Pair 8) (p : PairIx) : (mapPairs f v)[p.val] = f p v[p.val] := by
  fin_cases p <;> rfl

/-! ### The report queue (R176, R177) -/

theorem insertReport_length (qs : List Report) (r : Report) : (insertReport qs r).length = qs.length + 1 := by
  induction qs with
  | nil => rfl
  | cons q qs ih => simp only [insertReport]; split <;> simp [ih]

/-- Where a report enters: behind every report of its class or a more urgent one, before every less urgent one. -/
theorem insertReport_split (qs : List Report) (r : Report) (h : (qs.map Report.rank).Pairwise (· ≤ ·)) :
    ∃ before after, qs = before ++ after ∧ insertReport qs r = before ++ r :: after ∧ (∀ q ∈ before, q.rank ≤ r.rank)
      ∧ ∀ q ∈ after, r.rank < q.rank := by
  induction qs with
  | nil => exact ⟨[], [], rfl, rfl, by simp, by simp⟩
  | cons q qs ih =>
    simp only [List.map_cons, List.pairwise_cons, List.mem_map, forall_exists_index, and_imp, forall_apply_eq_imp_iff₂] at h
    by_cases hq : q.rank ≤ r.rank
    · obtain ⟨b, a, rfl, e, hb, ha⟩ := ih h.2
      exact ⟨q :: b, a, rfl, by simp [insertReport, hq, e], by simpa [hq] using hb, ha⟩
    · exact ⟨[], q :: qs, rfl, by simp [insertReport, hq], by simp, by
        simp only [List.mem_cons, forall_eq_or_imp]
        exact ⟨by omega, fun x hx => by have := h.1 x hx; omega⟩⟩

theorem insertReport_sorted (qs : List Report) (r : Report) (h : (qs.map Report.rank).Pairwise (· ≤ ·)) :
    ((insertReport qs r).map Report.rank).Pairwise (· ≤ ·) := by
  obtain ⟨b, a, rfl, e, hb, ha⟩ := insertReport_split qs r h
  rw [e]
  simp only [List.map_append, List.map_cons, List.pairwise_append, List.pairwise_cons, List.mem_map, List.mem_cons,
    forall_exists_index, and_imp, forall_apply_eq_imp_iff₂, forall_eq_or_imp] at h ⊢
  exact ⟨h.1, ⟨fun x hx => Nat.le_of_lt (ha x hx), h.2.1⟩, fun x hx => ⟨hb x hx, h.2.2 x hx⟩⟩

/-- A report queued changes nothing of the link but the queue, the flag and the lost classes. -/
theorem Link.queue_eq (r : Report) (k : Link) : ∃ reports lost classes,
    Link.queue r k = { k with reports := reports, reportsLost := lost, lostClasses := classes } := by
  unfold Link.queue
  split
  · exact ⟨_, _, _, rfl⟩
  · split
    · exact ⟨k.reports, k.reportsLost, k.lostClasses, rfl⟩
    · split <;> exact ⟨_, _, _, rfl⟩

@[simp] theorem Link.queue_rate (r : Report) (k : Link) : (Link.queue r k).rate = k.rate := by
  obtain ⟨_, _, _, e⟩ := Link.queue_eq r k; rw [e]
@[simp] theorem Link.queue_timeout (r : Report) (k : Link) : (Link.queue r k).timeout = k.timeout := by
  obtain ⟨_, _, _, e⟩ := Link.queue_eq r k; rw [e]
@[simp] theorem Link.queue_receiver (r : Report) (k : Link) : (Link.queue r k).receiver = k.receiver := by
  obtain ⟨_, _, _, e⟩ := Link.queue_eq r k; rw [e]
@[simp] theorem Link.queue_slots (r : Report) (k : Link) : (Link.queue r k).slots = k.slots := by
  obtain ⟨_, _, _, e⟩ := Link.queue_eq r k; rw [e]
@[simp] theorem Link.queue_replies (r : Report) (k : Link) : (Link.queue r k).replies = k.replies := by
  obtain ⟨_, _, _, e⟩ := Link.queue_eq r k; rw [e]
@[simp] theorem Link.queue_faults (r : Report) (k : Link) : (Link.queue r k).faults = k.faults := by
  obtain ⟨_, _, _, e⟩ := Link.queue_eq r k; rw [e]
@[simp] theorem Link.queue_faultsDropped (r : Report) (k : Link) : (Link.queue r k).faultsDropped = k.faultsDropped := by
  obtain ⟨_, _, _, e⟩ := Link.queue_eq r k; rw [e]
@[simp] theorem Link.queue_lost (r : Report) (k : Link) : (Link.queue r k).lost = k.lost := by
  obtain ⟨_, _, _, e⟩ := Link.queue_eq r k; rw [e]
@[simp] theorem Link.queue_wasLost (r : Report) (k : Link) : (Link.queue r k).wasLost = k.wasLost := by
  obtain ⟨_, _, _, e⟩ := Link.queue_eq r k; rw [e]
@[simp] theorem Link.queue_silence (r : Report) (k : Link) : (Link.queue r k).silence = k.silence := by
  obtain ⟨_, _, _, e⟩ := Link.queue_eq r k; rw [e]
@[simp] theorem Link.queue_tx (r : Report) (k : Link) : (Link.queue r k).tx = k.tx := by
  obtain ⟨_, _, _, e⟩ := Link.queue_eq r k; rw [e]

/-- The queue never holds more than it held, or 48. -/
theorem Link.queue_length (r : Report) (k : Link) (h : k.reports.length ≤ 48) : (Link.queue r k).reports.length ≤ 48 := by
  unfold Link.queue
  split
  · rename_i lt
    have lt : k.reports.length < 48 := lt
    simp only [insertReport_length]
    omega
  · split
    · exact h
    · split
      · simp only [Link.lose_reports, insertReport_length, List.length_dropLast]
        omega
      · exact h

/-- The queue stays in class order. -/
theorem Link.queue_sorted (r : Report) (k : Link) (h : (k.reports.map Report.rank).Pairwise (· ≤ ·)) :
    ((Link.queue r k).reports.map Report.rank).Pairwise (· ≤ ·) := by
  unfold Link.queue
  split
  · exact insertReport_sorted _ r h
  · split
    · exact h
    · split
      · exact insertReport_sorted _ r (h.sublist ((List.dropLast_sublist _).map _))
      · exact h

/-! ### The occasion of a step (R149, R150) -/

theorem State.drain_of_free {s : State} (h : s.free) : s.drain = s := by simp [State.drain, h.2]

theorem State.live_of_free {s : State} (h : s.free) (f : State → State) : State.live f s = f s := by
  simp [State.live, h.1, State.drain_of_free h]

theorem State.live_of_held {s : State} (h : s.held = true) (f : State → State) : State.live f s = s := by
  simp [State.live, h]

/-! ### A request carried out (R1, R173, R174) -/

theorem markBuilt_length (rs : List Slot) : (markBuilt rs).length = rs.length := by
  induction rs with
  | nil => rfl
  | cons r rs ih => simp only [markBuilt]; split <;> simp [ih]

/-- The oldest request of a free part, of its kind, is carried out and its reply placed. -/
theorem State.carryOut_of_front {s : State} {kind : RequestKind} {r : Slot} (h : s.front kind r) (f : List Byte → State → Answer) :
    State.live (State.carryOut kind f) s = (f r.body s).state.answered r (f r.body s).status (f r.body s).body := by
  simp [State.live_of_free h.1, State.carryOut, h.2.1, h.2.2, State.modLink, Link.place, State.answered, replyKind]

/-- A request of another kind, or none, is no occasion for the command. -/
theorem State.carryOut_of_other {s : State} {kind : RequestKind} (h : ∀ r, s.link.nextRequest = some r → r.kind ≠ kind.code)
    (f : List Byte → State → Answer) : State.carryOut kind f s = s := by
  unfold State.carryOut
  split
  · rfl
  · rename_i r e
    rw [if_neg (h r e)]

theorem checkLane_of_fits {s : State} {l : LaneIx} (h : s.fits l) (k : LaneIx → State → Answer) :
    checkLane (laneNumber l) k s = k l s := by
  simp [checkLane, State.laneFitted, h.1, h.2]

theorem checkLaneExempt_of_fits {s : State} {l : LaneIx} (h : s.fits l) (k : LaneIx → State → Answer) :
    checkLaneExempt (laneNumber l) k s = k l s := by
  simp [checkLaneExempt, State.laneFitted, h.1, h.2]

theorem checkLaneExempt_of_running {s : State} {l : LaneIx} (h : (s.lane l).session ≠ .closed) (k : LaneIx → State → Answer) :
    checkLaneExempt (laneNumber l) k s = k l s := by
  cases e : (s.lane l).session <;> simp_all [checkLaneExempt, SessionState.running]

theorem checkPair_of_present {s : State} {p : PairIx} (h : (s.station p).state ≠ .absent) (k : PairIx → State → Answer) :
    checkPair (pairNumber p) k s = k p s := by
  simp [checkPair, h]

/-- Each check answers the request's own refusal, with nothing changed, or goes on. -/
theorem checkLane_cases (n : Nat) (k : LaneIx → State → Answer) (s : State) :
    checkLane n k s = refuse .badLane s ∨ checkLane n k s = refuse .notFitted s ∨ ∃ l, findLane n = some l ∧ checkLane n k s = k l s := by
  unfold checkLane
  split
  · exact .inl rfl
  · rename_i l e
    split
    · exact .inr (.inr ⟨l, e, rfl⟩)
    · exact .inr (.inl rfl)

theorem checkLaneExempt_cases (n : Nat) (k : LaneIx → State → Answer) (s : State) :
    checkLaneExempt n k s = refuse .badLane s ∨ checkLaneExempt n k s = refuse .notFitted s
      ∨ ∃ l, findLane n = some l ∧ checkLaneExempt n k s = k l s := by
  unfold checkLaneExempt
  split
  · exact .inl rfl
  · rename_i l e
    split
    · exact .inr (.inr ⟨l, e, rfl⟩)
    · exact .inr (.inl rfl)

theorem checkPair_cases (n : Nat) (k : PairIx → State → Answer) (s : State) :
    checkPair n k s = refuse .badLane s ∨ checkPair n k s = refuse .notFitted s ∨ ∃ p, findPair n = some p ∧ checkPair n k s = k p s := by
  unfold checkPair
  split
  · exact .inl rfl
  · rename_i p e
    split
    · exact .inr (.inl rfl)
    · exact .inr (.inr ⟨p, e, rfl⟩)

/-! ### Ranges -/

theorem hold_le {lo hi : Nat} (h : lo ≤ hi) (v : Nat) : hold lo hi v ≤ hi := by simp only [hold]; omega
theorem le_hold (lo hi v : Nat) : lo ≤ hold lo hi v := by simp only [hold]; omega
theorem hold_of_mem {lo hi v : Nat} (h : lo ≤ v) (h' : v ≤ hi) : hold lo hi v = v := by simp only [hold]; omega

/-! ### The gate (R12, R13) -/

theorem Gate.blocks_iff (g : Gate) (c : Cycle) :
    g.blocks c = true ↔ g.deskHold.isSome = true ∨ g.returnBacklog.isSome = true
      ∨ (c = .fullRack .newFrame ∧ (g.noSession.isSome = true ∨ g.billing.isSome = true ∨ g.returnJam.isSome = true)) := by
  simp [Gate.blocks, Gate.hasClass, allReasons, Reason.cls, Gate.has, Gate.raisedAt]
  tauto

/-! ### Queues -/

@[simp] theorem State.lane_setQueue_queue (s : State) (l : LaneIx) (q : List Turn) : ((s.setQueue l q).lane l).queue = q := by
  simp only [State.setQueue, State.lane_modLane_self]
  split <;> simp_all

theorem State.lane_setQueue_ne (s : State) (l k : LaneIx) (q : List Turn) (h : k ≠ l) : (s.setQueue l q).lane k = s.lane k :=
  s.lane_modLane_ne l k _ h

/-! ### The passing of time (R135, R148) -/

@[simp] theorem State.advance_lanes (n : Nat) (s : State) : (s.advance n).lanes = s.lanes := rfl
@[simp] theorem State.advance_link (n : Nat) (s : State) : (s.advance n).link = s.link := rfl
@[simp] theorem State.advance_clock (n : Nat) (s : State) : (s.advance n).clock = s.clock := rfl
@[simp] theorem State.advance_meter (n : Nat) (s : State) : (s.advance n).meter = s.meter := rfl
@[simp] theorem State.advance_hold (n : Nat) (s : State) : (s.advance n).hold = s.hold := rfl
@[simp] theorem State.advance_held (n : Nat) (s : State) : (s.advance n).held = s.held := rfl
@[simp] theorem State.advance_due (n : Nat) (s : State) : (s.advance n).due = s.due := rfl
@[simp] theorem State.advance_pending (n : Nat) (s : State) : (s.advance n).pending = s.pending := rfl

/-- Time passing changes nothing of a pair but the hold its station has left. -/
theorem State.advance_pair (n : Nat) (s : State) (p : PairIx) : ∃ left,
    (s.advance n).pair p = { s.pair p with station := { s.station p with holdRemaining := left } } := by
  by_cases h : s.held
  · exact ⟨(s.station p).holdRemaining, by simp [State.advance, State.pair, State.station, h]⟩
  · by_cases r : s.pairs[p.val].station.state = .resetting
    · exact ⟨(s.station p).holdRemaining - n, by simp [State.advance, State.pair, State.station, h, r]⟩
    · exact ⟨(s.station p).holdRemaining, by simp [State.advance, State.pair, State.station, h, r]⟩

end Sys2Proof.Machine
end

