-- ==== Sys2Proof/Laws/Pinsetter.lean ====
section
/-! SUPPORT. What the operations of the Pinsetter Supervisor on one lane leave alone. outside l forgets what they may
change: the machine, gate and health records of lane l, the attachment, commands and power orders of its station,
and the report queue. Each operation keeps outside l, which says the rest of the state is unchanged by it. -/

namespace Sys2Proof.Machine

/-- The state with what PSV's operations on lane l may change set to fixed values. -/
def State.outside (l : LaneIx) (s : State) : State :=
  { s with
    lanes := s.lanes.set l { s.lane l with machine := .initial, gate := .onlyNoSession none, health := .initial }
    pairs := s.pairs.set (pairOf l) { s.pair (pairOf l) with station := { s.station (pairOf l) with
      state := .absent, commandA := none, commandB := none, powerA := .off, powerB := .off, nextSeqA := 1, nextSeqB := 1 } }
    link := { s.link with reports := [], reportsLost := false, lostClasses := .empty } }

/-! ### What equal outsides say -/

theorem lane_of_outside {l k : LaneIx} {s t : State} (h : t.outside l = s.outside l) (hk : k ≠ l) : t.lane k = s.lane k := by
  have e := congrArg (fun x : State => x.lane k) h
  have h' : l.val ≠ k.val := fun e => hk (Fin.ext e.symm)
  simpa [State.outside, State.lane, Vector.getElem_set_ne, h'] using e

theorem pair_of_outside {l : LaneIx} {p : PairIx} {s t : State} (h : t.outside l = s.outside l) (hp : p ≠ pairOf l) :
    t.pair p = s.pair p := by
  have e := congrArg (fun x : State => x.pair p) h
  have h' : (pairOf l).val ≠ p.val := fun e => hp (Fin.ext e.symm)
  simpa [State.outside, State.pair, Vector.getElem_set_ne, h'] using e

/-- Of lane l itself, everything but its machine, gate and health record. -/
theorem lane_self_of_outside {l : LaneIx} {s t : State} (h : t.outside l = s.outside l) :
    t.lane l = { s.lane l with machine := t.machine l, gate := t.gate l, health := (t.lane l).health } := by
  have e := congrArg (fun x : State => x.lane l) h
  simp only [State.outside, State.lane, Fin.getElem_fin, Vector.getElem_set_self] at e
  simp only [State.machine, State.gate, State.lane, Fin.getElem_fin]
  generalize s.lanes[l.val] = x at e ⊢
  generalize t.lanes[l.val] = y at e ⊢
  cases x
  cases y
  simp_all

/-- Of its pair, everything but the station, and of the station all but its attachment, commands and orders. -/
theorem pair_self_of_outside {l : LaneIx} {s t : State} (h : t.outside l = s.outside l) :
    t.pair (pairOf l) = { s.pair (pairOf l) with station := { s.station (pairOf l) with
      state := (t.station (pairOf l)).state, commandA := (t.station (pairOf l)).commandA
      commandB := (t.station (pairOf l)).commandB, powerA := (t.station (pairOf l)).powerA
      powerB := (t.station (pairOf l)).powerB, nextSeqA := (t.station (pairOf l)).nextSeqA
      nextSeqB := (t.station (pairOf l)).nextSeqB } } := by
  have e := congrArg (fun x : State => x.pair (pairOf l)) h
  simp only [State.outside, State.pair, State.station, Fin.getElem_fin, Vector.getElem_set_self] at e
  simp only [State.station, State.pair, Fin.getElem_fin]
  generalize s.pairs[(pairOf l).val] = x at e ⊢
  generalize t.pairs[(pairOf l).val] = y at e ⊢
  obtain ⟨_, _, _, _, _, sx⟩ := x
  obtain ⟨_, _, _, _, _, sy⟩ := y
  cases sx
  cases sy
  simp_all

/-- Of the link, everything but the report queue, its flag and its lost classes. -/
theorem link_of_outside {l : LaneIx} {s t : State} (h : t.outside l = s.outside l) :
    t.link = { s.link with reports := t.link.reports, reportsLost := t.link.reportsLost, lostClasses := t.link.lostClasses } := by
  have e := congrArg State.link h
  simp only [State.outside] at e
  generalize s.link = x at e ⊢
  generalize t.link = y at e ⊢
  cases x
  cases y
  simp_all

/-- Of the rest, everything. -/
theorem rest_of_outside {l : LaneIx} {s t : State} (h : t.outside l = s.outside l) :
    t = { s with lanes := t.lanes, pairs := t.pairs, link := t.link } := by
  have e := h
  simp only [State.outside] at e
  generalize s.lane l = a at e
  generalize t.lane l = b at e
  generalize s.pair (pairOf l) = c at e
  generalize t.pair (pairOf l) = d at e
  generalize s.station (pairOf l) = c' at e
  generalize t.station (pairOf l) = d' at e
  cases s
  cases t
  simp_all

theorem queue_of_outside {l : LaneIx} {s t : State} (h : t.outside l = s.outside l) (k : LaneIx) :
    (t.lane k).queue = (s.lane k).queue := by
  by_cases hk : k = l
  · rw [hk, lane_self_of_outside h]
  · rw [lane_of_outside h hk]

theorem roster_of_outside {l : LaneIx} {s t : State} (h : t.outside l = s.outside l) (k : LaneIx) :
    (t.lane k).roster = (s.lane k).roster := by
  by_cases hk : k = l
  · rw [hk, lane_self_of_outside h]
  · rw [lane_of_outside h hk]

theorem account_of_outside {l : LaneIx} {s t : State} (h : t.outside l = s.outside l) (k : LaneIx) :
    (t.lane k).account = (s.lane k).account := by
  by_cases hk : k = l
  · rw [hk, lane_self_of_outside h]
  · rw [lane_of_outside h hk]

/-! ### The operations -/

@[simp] theorem outside_report (l : LaneIx) (r : Report) (s : State) : (s.report r).outside l = s.outside l := by
  obtain ⟨_, _, _, e⟩ := Link.queue_eq r s.link
  simp [State.outside, State.report, State.modLink, e, State.lane, State.pair, State.station]

@[simp] theorem outside_modMachine (l : LaneIx) (f : MachineRec → MachineRec) (s : State) :
    (s.modMachine l f).outside l = s.outside l := by
  simp [State.outside, State.modMachine, State.modLane, State.setLane, State.lane, State.pair, State.station]

theorem outside_modGate (l : LaneIx) (f : Gate → Gate) (s : State) :
    (s.modLane l fun x => { x with gate := f x.gate }).outside l = s.outside l := by
  simp [State.outside, State.modLane, State.setLane, State.lane, State.pair, State.station]

theorem outside_modHealth (l : LaneIx) (f : LaneHealth → LaneHealth) (s : State) :
    (s.modLane l fun x => { x with health := f x.health }).outside l = s.outside l := by
  simp [State.outside, State.modLane, State.setLane, State.lane, State.pair, State.station]

@[simp] theorem outside_setStation (l : LaneIx) (st : StationState) (s : State) :
    (s.setStation (pairOf l) st).outside l = s.outside l := by
  simp [State.outside, State.setStation, State.modStation, State.modPair, State.setPair, State.lane, State.pair, State.station]

@[simp] theorem outside_setPower (l : LaneIx) (o : Power) (s : State) : (s.setPower l o).outside l = s.outside l := by
  unfold State.setPower
  cases sideOf l <;>
    simp [State.outside, State.modStation, State.modPair, State.setPair, State.lane, State.pair, State.station]

@[simp] theorem outside_handCommand (l : LaneIx) (c : BusCommand) (s : State) : (s.handCommand l c).outside l = s.outside l := by
  simp only [State.handCommand]
  split
  · cases sideOf l <;>
      simp [State.outside, State.modStation, State.modPair, State.setPair, State.lane, State.pair, State.station, Station.write]
  · rfl

@[simp] theorem outside_darkTest (l : LaneIx) (s : State) : (s.darkTest (pairOf l)).outside l = s.outside l := by
  unfold State.darkTest
  split
  · split <;> simp
  · split <;> simp
  · rfl

theorem outside_when (l : LaneIx) (c : Bool) (f : State → State) (s : State) (h : (f s).outside l = s.outside l) :
    (s.when c f).outside l = s.outside l := by
  unfold State.when
  split
  · exact h
  · rfl

@[simp] theorem outside_enterSilent (l : LaneIx) (st : MachineState) (s : State) : (s.enterSilent l st).outside l = s.outside l := by
  simp [State.enterSilent, outside_when]

@[simp] theorem outside_enter (l : LaneIx) (st : MachineState) (s : State) : (s.enter l st).outside l = s.outside l := by
  simp [State.enter, outside_when]

@[simp] theorem outside_startTimer (l : LaneIx) (k : TimerKind) (n : Nat) (s : State) : (s.startTimer l k n).outside l = s.outside l := by
  simp [State.startTimer]

@[simp] theorem outside_issueRead (l : LaneIx) (again : Bool) (s : State) : (s.issueRead l again).outside l = s.outside l := by
  simp [State.issueRead]

@[simp] theorem outside_issueCycle (l : LaneIx) (c : Cycle) (turn : Option Turn) (need : Option Need) (s : State) :
    (s.issueCycle l c turn need).outside l = s.outside l := by
  simp [State.issueCycle]

@[simp] theorem outside_holdCycle (l : LaneIx) (c : Cycle) (served : Bool) (s : State) :
    (s.holdCycle l c served).outside l = s.outside l := by
  simp [State.holdCycle]

@[simp] theorem outside_makeReady (l : LaneIx) (s : State) : (s.makeReady l).outside l = s.outside l := by simp [State.makeReady]
@[simp] theorem outside_makeEmpty (l : LaneIx) (s : State) : (s.makeEmpty l).outside l = s.outside l := by simp [State.makeEmpty]

@[simp] theorem outside_startCycle (l : LaneIx) (c : Cycle) (s : State) : (s.startCycle l c).outside l = s.outside l := by
  unfold State.startCycle
  split <;> simp

@[simp] theorem outside_serve (l : LaneIx) (c : Cycle) (s : State) : (s.serve l c).outside l = s.outside l := by
  unfold State.serve
  split <;> simp

@[simp] theorem outside_cutPower (l : LaneIx) (s : State) : (s.cutPower l).outside l = s.outside l := by simp [State.cutPower]
@[simp] theorem outside_forgetDeck (l : LaneIx) (s : State) : (s.forgetDeck l).outside l = s.outside l := by simp [State.forgetDeck]
@[simp] theorem outside_powerDown (l : LaneIx) (s : State) : (s.powerDown l).outside l = s.outside l := by simp [State.powerDown]

@[simp] theorem outside_idlePowerOff (l : LaneIx) (s : State) : (s.idlePowerOff l).outside l = s.outside l := by
  unfold State.idlePowerOff
  split <;> simp

@[simp] theorem outside_serviceOut (l : LaneIx) (s : State) : (s.serviceOut l).outside l = s.outside l := by simp [State.serviceOut]
@[simp] theorem outside_sendPowerOn (l : LaneIx) (s : State) : (s.sendPowerOn l).outside l = s.outside l := by
  simp [State.sendPowerOn]
@[simp] theorem outside_wake (l : LaneIx) (s : State) : (s.wake l).outside l = s.outside l := by simp [State.wake]

@[simp] theorem outside_wakeForHead (l : LaneIx) (s : State) : (s.wakeForHead l).outside l = s.outside l := by
  simp [State.wakeForHead, outside_when]

@[simp] theorem outside_rest (l : LaneIx) (s : State) : (s.rest l).outside l = s.outside l := by
  simp only [State.rest]
  repeat' split
  all_goals simp

@[simp] theorem outside_follow (l : LaneIx) (d : Derived) (s : State) : (s.follow l d).outside l = s.outside l := by
  unfold State.follow
  cases d <;> simp

@[simp] theorem outside_derive (l : LaneIx) (s : State) : (s.derive l).outside l = s.outside l := by simp [State.derive]

@[simp] theorem outside_afterBall (l : LaneIx) (need : Need) (orphan onReturn : Bool) (s : State) :
    (s.afterBall l need orphan onReturn).outside l = s.outside l := by
  simp only [State.afterBall]
  repeat' split
  all_goals simp

@[simp] theorem outside_headTold (l : LaneIx) (s : State) : (s.headTold l).outside l = s.outside l := by
  unfold State.headTold
  split <;> simp

@[simp] theorem outside_raiseReason (l : LaneIx) (r : Reason) (t : DateTime) (s : State) :
    (s.raiseReason r t l).outside l = s.outside l := by
  unfold State.raiseReason
  split
  · rfl
  · exact outside_modGate l (Gate.put r (some t)) s

@[simp] theorem outside_release (l : LaneIx) (s : State) : (s.release l).outside l = s.outside l := by
  unfold State.release
  repeat' split
  all_goals simp

@[simp] theorem outside_clearReason (l : LaneIx) (r : Reason) (s : State) : (s.clearReason r l).outside l = s.outside l := by
  unfold State.clearReason
  split
  · rw [outside_release]
    exact outside_modGate l (Gate.put r none) s
  · rfl

@[simp] theorem outside_removalOrder (l : LaneIx) (s : State) : (s.removalOrder l).outside l = s.outside l := by
  simp only [State.removalOrder]
  repeat' split
  all_goals simp

theorem outside_reports (l : LaneIx) (rs : List Report) (s : State) : (s.each rs State.report).outside l = s.outside l := by
  unfold State.each
  induction rs generalizing s with
  | nil => rfl
  | cons r rs ih => rw [List.foldl_cons, ih, outside_report]

@[simp] theorem outside_outcome (l : LaneIx) (o : CycleOutcome) (s : State) : (s.outcome l o).outside l = s.outside l := by
  simp only [State.outcome, State.testLane]
  rw [outside_reports]
  exact outside_modHealth l (fun _ => _) s

@[simp] theorem outside_jam (l : LaneIx) (cause : JamCause) (s : State) : (s.jam l cause).outside l = s.outside l := by
  simp [State.jam, outside_when]

@[simp] theorem outside_machineJam (l : LaneIx) (source : JamSource) (s : State) :
    (s.machineJam l source).outside l = s.outside l := by
  unfold State.machineJam
  split <;> simp

@[simp] theorem outside_foul (l : LaneIx) (s : State) : (s.foul l).outside l = s.outside l := by
  unfold State.foul
  split <;> simp

@[simp] theorem outside_moveOn (l : LaneIx) (c : Cycle) (turn : Option Turn) (need : Option Need) (s : State) :
    (s.moveOn l c turn need).outside l = s.outside l := by
  unfold State.moveOn
  repeat' split
  all_goals simp

@[simp] theorem outside_cycleDone (l : LaneIx) (set : PinSet) (s : State) : (s.cycleDone l set).outside l = s.outside l := by
  simp only [State.cycleDone]
  repeat' split
  all_goals simp [outside_when]

@[simp] theorem outside_loseLane (l : LaneIx) (silent : Bool) (s : State) : (s.loseLane silent l).outside l = s.outside l := by
  simp only [State.loseLane]
  split <;> simp

@[simp] theorem outside_returnLane (l : LaneIx) (power : Power) (s : State) : (s.returnLane l power).outside l = s.outside l := by
  have e : (s.dropInHand l).outside l = s.outside l := by simp [State.dropInHand]
  simp only [State.returnLane]
  generalize s.dropInHand l = t at e ⊢
  rw [← e]
  split
  · simp [outside_when]
  · by_cases h : (t.machine l).jamStanding
    · simp [h, outside_when]
    · simp only [h]
      split
      · rename_i h
        exact absurd h (by simp)
      · split
        · simp
        · split <;> simp

end Sys2Proof.Machine
end

