-- ==== Sys2Proof/Laws/Frame.lean ====
section
/-! SUPPORT. What the operations of play, of the meters, of the turns, of the return and of a ball leave alone
wherever they act: the clock, the tariffs, the hold, the bus, the time, the parts of a second still due, and the
commands that wait. kept forgets the lanes, the pairs and the link. -/

namespace Sys2Proof.Machine

/-- The state with its lanes, pairs and link set to fixed values. -/
def State.kept (s : State) : State :=
  { s with lanes := State.reset.lanes, pairs := State.reset.pairs, link := State.reset.link }

/-- What equal kept parts say. -/
theorem fields_of_kept {s t : State} (h : t.kept = s.kept) :
    t.pending = s.pending ∧ t.held = s.held ∧ t.due = s.due ∧ t.returnClock = s.returnClock ∧ t.sinceSecond = s.sinceSecond
      ∧ t.clock = s.clock ∧ t.clockValid = s.clockValid ∧ t.meter = s.meter ∧ t.hold = s.hold ∧ t.bus = s.bus := by
  cases s
  cases t
  simpa [State.kept] using h

theorem kept_of_outside {l : LaneIx} {s t : State} (h : t.outside l = s.outside l) : t.kept = s.kept := by
  rw [rest_of_outside h]
  rfl

/-! ### The updates -/

@[simp] theorem kept_setLane (s : State) (l : LaneIx) (x : Lane) : (s.setLane l x).kept = s.kept := rfl
@[simp] theorem kept_setPair (s : State) (p : PairIx) (x : Pair) : (s.setPair p x).kept = s.kept := rfl
@[simp] theorem kept_modLane (s : State) (l : LaneIx) (f : Lane → Lane) : (s.modLane l f).kept = s.kept := rfl
@[simp] theorem kept_modPair (s : State) (p : PairIx) (f : Pair → Pair) : (s.modPair p f).kept = s.kept := rfl
@[simp] theorem kept_modMachine (s : State) (l : LaneIx) (f : MachineRec → MachineRec) : (s.modMachine l f).kept = s.kept := rfl
@[simp] theorem kept_modAccount (s : State) (l : LaneIx) (f : Account → Account) : (s.modAccount l f).kept = s.kept := rfl
@[simp] theorem kept_modStation (s : State) (p : PairIx) (f : Station → Station) : (s.modStation p f).kept = s.kept := rfl
@[simp] theorem kept_modReturn (s : State) (p : PairIx) (f : ReturnRec → ReturnRec) : (s.modReturn p f).kept = s.kept := rfl
@[simp] theorem kept_modLink (s : State) (f : Link → Link) : (s.modLink f).kept = s.kept := rfl
@[simp] theorem kept_report (s : State) (r : Report) : (s.report r).kept = s.kept := rfl
@[simp] theorem kept_setQueue (s : State) (l : LaneIx) (q : List Turn) : (s.setQueue l q).kept = s.kept := rfl
@[simp] theorem kept_setLift (s : State) (p : PairIx) (o : LiftOrder) : (s.setLift p o).kept = s.kept := rfl
@[simp] theorem kept_changeMode (s : State) (p : PairIx) (m : PairMode) (c : ModeCause) : (s.changeMode p m c).kept = s.kept := rfl
@[simp] theorem kept_dropPending (s : State) (p : PairIx) : (s.dropPending p).kept = s.kept := rfl

@[simp] theorem kept_when (c : Bool) (f : State → State) (s : State) :
    (s.when c f).kept = if c then (f s).kept else s.kept := by
  cases c <;> rfl

theorem kept_each {α : Type} (xs : List α) (f : α → State → State) (h : ∀ x s, (f x s).kept = s.kept) (s : State) :
    (s.each xs f).kept = s.kept := by
  unfold State.each
  induction xs generalizing s with
  | nil => rfl
  | cons x xs ih => rw [List.foldl_cons, ih, h]

@[simp] theorem kept_darkTest (s : State) (p : PairIx) : (s.darkTest p).kept = s.kept := by
  unfold State.darkTest
  repeat' split
  all_goals rfl

@[simp] theorem kept_setSession (s : State) (l : LaneIx) (st : SessionState) : (s.setSession l st).kept = s.kept := by
  simp [State.setSession]

/-! ### The Pinsetter Supervisor -/

@[simp] theorem kept_enter (s : State) (l : LaneIx) (st : MachineState) : (s.enter l st).kept = s.kept := kept_of_outside (l := l) (by simp)
@[simp] theorem kept_headTold (s : State) (l : LaneIx) : (s.headTold l).kept = s.kept := kept_of_outside (l := l) (by simp)
@[simp] theorem kept_afterBall (s : State) (l : LaneIx) (n : Need) (o r : Bool) : (s.afterBall l n o r).kept = s.kept :=
  kept_of_outside (l := l) (by simp)
@[simp] theorem kept_raiseReason (s : State) (l : LaneIx) (r : Reason) (t : DateTime) : (s.raiseReason r t l).kept = s.kept :=
  kept_of_outside (l := l) (by simp)
@[simp] theorem kept_clearReason (s : State) (l : LaneIx) (r : Reason) : (s.clearReason r l).kept = s.kept :=
  kept_of_outside (l := l) (by simp)
@[simp] theorem kept_forgetDeck (s : State) (l : LaneIx) : (s.forgetDeck l).kept = s.kept := rfl
@[simp] theorem kept_startTimer (s : State) (l : LaneIx) (k : TimerKind) (n : Nat) : (s.startTimer l k n).kept = s.kept := rfl

/-! ### The Billing Meter -/

@[simp] theorem kept_charge (s : State) (l : LaneIx) (n : Nat) : (s.charge l n).kept = s.kept := by
  unfold State.charge
  repeat' split
  all_goals simp

@[simp] theorem kept_chargeMinute (s : State) (l : LaneIx) (n : Nat) : (s.chargeMinute l n).kept = s.kept := by
  unfold State.chargeMinute
  split <;> simp

@[simp] theorem kept_evaluateBilling (s : State) (l : LaneIx) : (s.evaluateBilling l).kept = s.kept := by
  unfold State.evaluateBilling
  repeat' split
  all_goals simp

@[simp] theorem kept_evaluateAccount (s : State) (l : LaneIx) : (s.evaluateAccount l).kept = s.kept :=
  kept_each _ _ (fun _ _ => by simp) s

@[simp] theorem kept_allowanceOut (s : State) (l : LaneIx) (a : Account) : (s.allowanceOut l a).kept = s.kept := by
  simp [State.allowanceOut]

@[simp] theorem kept_firstBall (s : State) (home : LaneIx) (slot game : Nat) : (s.firstBall home slot game).kept = s.kept := by
  simp only [State.firstBall]
  repeat' split
  all_goals simp

@[simp] theorem kept_finalise (s : State) (l : LaneIx) : (s.finalise l).kept = s.kept := by
  simp only [State.finalise]
  split
  · rfl
  · simp [kept_each]

/-! ### The Turn Scheduler -/

@[simp] theorem kept_reportHead (s : State) (l : LaneIx) : (s.reportHead l).kept = s.kept := by
  unfold State.reportHead
  split <;> simp

@[simp] theorem kept_tellMeter (s : State) (l : LaneIx) : (s.tellMeter l).kept = s.kept := by simp [State.tellMeter]
@[simp] theorem kept_handHead (s : State) (l : LaneIx) : (s.handHead l).kept = s.kept := by simp [State.handHead]
@[simp] theorem kept_headChanged (s : State) (l : LaneIx) : (s.headChanged l).kept = s.kept := by simp [State.headChanged]

@[simp] theorem kept_handOffs (s before : State) (ls : List LaneIx) : (s.handOffs before ls).kept = s.kept :=
  kept_each _ _ (fun _ _ => by simp) s

@[simp] theorem kept_beginGame (s : State) (l start : LaneIx) : (s.beginGame l start).kept = s.kept := by simp [State.beginGame]
@[simp] theorem kept_endSeries (s : State) (l : LaneIx) : (s.endSeries l).kept = s.kept := by simp [State.endSeries]

@[simp] theorem kept_startAlone (s : State) (l : LaneIx) : (s.startAlone l).kept = s.kept := by
  unfold State.startAlone
  repeat' split
  all_goals simp

@[simp] theorem kept_startEach (s : State) (p : PairIx) : (s.startEach p).kept = s.kept := by simp [State.startEach]
@[simp] theorem kept_startBoth (s : State) (p : PairIx) : (s.startBoth p).kept = s.kept := by simp [State.startBoth]

@[simp] theorem kept_pairBoundary (s : State) (p : PairIx) : (s.pairBoundary p).kept = s.kept := by
  unfold State.pairBoundary
  repeat' split
  all_goals simp

@[simp] theorem kept_takeBoundary (s : State) (l : LaneIx) : (s.takeBoundary l).kept = s.kept := by
  unfold State.takeBoundary
  repeat' split
  all_goals simp

@[simp] theorem kept_retakePair (s : State) (p : PairIx) : (s.retakePair p).kept = s.kept := by simp [State.retakePair]

/-- Clearing the hold changes nothing kept but the hold. -/
theorem kept_clearHold (s : State) : (s.clearHold).kept = { s.kept with hold := false } :=
  kept_each _ _ (fun _ _ => by simp) _

@[simp] theorem kept_testBoundary (s : State) (l : LaneIx) : (s.testBoundary l).kept = s.kept := by
  unfold State.testBoundary
  split <;> simp

@[simp] theorem kept_frameOver (s : State) (l : LaneIx) : (s.frameOver l).kept = s.kept := by
  simp only [State.frameOver]
  repeat' split
  all_goals simp

@[simp] theorem kept_removeTurn (s : State) (l : LaneIx) (slot : Nat) : (s.removeTurn l slot).kept = s.kept := by
  simp [State.removeTurn]

@[simp] theorem kept_bringHome (s : State) (l : LaneIx) : (s.bringHome l).kept = s.kept := by
  simp only [State.bringHome]
  split <;> simp

@[simp] theorem kept_changeModeNow (s : State) (p : PairIx) (m : PairMode) : (s.changeModeNow p m).kept = s.kept := by
  cases m <;> simp [State.changeModeNow]

@[simp] theorem kept_closeTurns (s : State) (l : LaneIx) : (s.closeTurns l).kept = s.kept := by
  simp only [State.closeTurns]
  split <;> simp

/-! ### The Ball Return Monitor -/

@[simp] theorem kept_raiseBoth (s : State) (r : Reason) (p : PairIx) : (s.raiseBoth r p).kept = s.kept := by simp [State.raiseBoth]
@[simp] theorem kept_clearBoth (s : State) (r : Reason) (p : PairIx) : (s.clearBoth r p).kept = s.kept := by simp [State.clearBoth]

@[simp] theorem kept_pauseTest (s : State) (p : PairIx) : (s.pauseTest p).kept = s.kept := by
  simp only [State.pauseTest]
  repeat' split
  all_goals simp

@[simp] theorem kept_trackAppend (s : State) (l : LaneIx) (k : BallKind) : (s.trackAppend l k).kept = s.kept := by
  simp only [State.trackAppend]
  split
  · simp
  · simp

@[simp] theorem kept_declareReturnJam (s : State) (p : PairIx) : (s.declareReturnJam p).kept = s.kept := by
  simp [State.declareReturnJam]

@[simp] theorem kept_writeOff (s : State) (p : PairIx) : (s.writeOff p).kept = s.kept := by simp [State.writeOff]

@[simp] theorem kept_ballTaken (s : State) (p : PairIx) : (s.ballTaken p).kept = s.kept := by
  unfold State.ballTaken
  split <;> simp

/-! ### A ball and a closing lane -/

@[simp] theorem kept_modGame (s : State) (home : LaneIx) (slot number : Nat) (f : Game → Game) :
    (s.modGame home slot number f).kept = s.kept := rfl

@[simp] theorem kept_recordBall (s : State) (b : BallIn) (g : Game) : (s.recordBall b g).kept = s.kept := by
  simp only [State.recordBall, State.reportCheck]
  simp [State.finishGame]

@[simp] theorem kept_finishBall (s : State) (l : LaneIx) (set : PinSet) : (s.finishBall l set).kept = s.kept := by
  simp only [State.finishBall, State.closeBall]
  repeat' split
  all_goals simp

@[simp] theorem kept_orphan (s : State) (l : LaneIx) : (s.orphan l).kept = s.kept := rfl

@[simp] theorem kept_closeLane (s : State) (l : LaneIx) : (s.closeLane l).kept = s.kept := by
  simp only [State.closeLane, State.orphanBalls]
  simp

@[simp] theorem kept_closeSession (s : State) (l : LaneIx) : (s.closeSession l).kept = s.kept := by
  simp [State.closeSession, State.closeStandby]

end Sys2Proof.Machine
end

