-- ==== Sys2Proof/WellFormed.lean ====
section
/-! DEFINITION. The commands the two lines can carry: a BODY of a frame fits its LEN, a LENGTH fault is
given by a LEN out of range, a BYTE fault stands in its frame, and an answer bears one of the eight station addresses. -/

namespace Sys2Proof

/-- LEN as R170 gives it, 2 to 242. -/
def lenInRange (len : Nat) : Bool := 2 ≤ len && len ≤ Config.bodyMax + 2

/-- A station address (R83). -/
def addressInRange (address : Nat) : Bool := 1 ≤ address && address ≤ 8

/-- The roster count OPEN_SESSION's list can carry: one byte of BODY an entry at the least (R170). -/
def listFits (length : Nat) : Bool := length ≤ Config.bodyMax

/-- The bytes left after a bad byte fit a LEN in range: after KIND or TAG 1 to 242, and after a BODY byte or CHECK
at most 240 (R170, R171). -/
def FaultPlace.fits : FaultPlace → Bool
  | .start => true
  | .head left => 1 ≤ left && left ≤ Config.bodyMax + 2
  | .body _ left => left ≤ Config.bodyMax

/-- The command can be carried by the line that brings it. -/
def Instr.wellFormed : Instr → Bool
  | .frameReceived _ _ body _ => lenInRange (body.length + 2)
  | .byteFault place => place.fits
  | .lengthFault len => !lenInRange len.toNat
  | .helloAnswer answer => addressInRange answer.address
  | .statusAnswer answer => addressInRange answer.address
  | .openSession _ fields => listFits fields.roster.length
  | .setTariff _ weekday weekend => listFits (weekday.length + weekend.length)
  | .correctFrame _ _ _ balls => listFits balls.length
  | .addBowler _ fields => listFits fields.name.length
  | .powerOn _ _ | .resetLine _ _ | .gapFault _ | .transmitFrameStart | .transmitFrameEnd
  | .unknownKind | .ping | .status | .peek | .resetCentre | .resetLink | .setLink | .getLink
  | .setClock _ _ | .getClock | .getTariff | .setBilling _ _ | .closeSession _ _ | .setBowler _ _
  | .withdrawBowler _ _ _ | .markBlind _ _ _ | .skipTurn _ _ | .pairMode _ _ _ | .holdLane _ _
  | .releaseLane _ _ | .laneStatus _ _ | .getGame _ _ | .certifyGame _ _ _ | .ackCheck _ _ _ _
  | .getTeam _ _ _ | .getAccount _ _ | .addCredit _ _ _ | .machinePowerOn _ _ _ | .machinePowerOff _ _ _
  | .clearJam _ _ | .serviceOut _ _ _ | .serviceIn _ _ _ | .setMachine _ _ | .getHealth _ _ | .setHealth _ _
  | .stationReset _ _ _ | .returnStatus _ _ _ _ | .clearReturnJam _ _ _ | .secondEvent | .minuteEvent
  | .playMinute _ | .prepaidMinute _ | .deskSilenceExpiry | .idleTimerExpiry _ | .onTimeElapsed _
  | .oldestEntryExpiry _ | .settleExpiry _ | .rereadSettleExpiry _ | .readTimeout _ | .cycleTimeout _
  | .warmUpExpiry _ | .paceTimerExpiry | .resetHoldExpiry _ | .sendPoll | .sendProbe | .sendResetPoll
  | .answerWindowExpiry | .huntStartByte _ | .resetLineAsserted => true

end Sys2Proof
end

