-- ==== Sys2Proof/Laws/PerInstr.lean ====
section
/-! SUPPORT. What well-formedness asks of each command, one lemma per constructor: a BODY of at most 240 bytes, a
LEN out of range, a bad byte's place in its frame, the address of a station, a list that one frame can carry; and nothing of any other. -/

namespace Sys2Proof.Laws.WellFormedness

open Sys2Proof Sys2Proof.Machine

/-- A command is well formed exactly where the line that brings it can carry it (R83, R170, R171). -/
def Statement (i : Instr) : Prop :=
  i.wellFormed = true ↔
    match i with
    | .frameReceived _ _ body _ => body.length ≤ 240
    | .byteFault place => (∀ n, place = .head n → 1 ≤ n ∧ n ≤ 242) ∧ ∀ tag n, place = .body tag n → n ≤ 240
    | .lengthFault len => len.toNat < 2 ∨ 242 < len.toNat
    | .helloAnswer a => ∃ p : PairIx, a.address = pairNumber p
    | .statusAnswer a => ∃ p : PairIx, a.address = pairNumber p
    | .openSession _ f => f.roster.length ≤ 240
    | .setTariff _ weekday weekend => weekday.length + weekend.length ≤ 240
    | .correctFrame _ _ _ balls => balls.length ≤ 240
    | .addBowler _ f => f.name.length ≤ 240
    | _ => True

/-- The eight station addresses are the pair numbers. -/
theorem address_iff (n : Nat) : addressInRange n = true ↔ ∃ p : PairIx, n = pairNumber p := by
  simp only [addressInRange, pairNumber, Bool.and_eq_true, decide_eq_true_eq]
  constructor
  · rintro ⟨h, h'⟩
    exact ⟨⟨n - 1, by omega⟩, by simp; omega⟩
  · rintro ⟨p, rfl⟩
    omega

theorem powerOn (rate1 rate0 : Bool) : Statement (.powerOn rate1 rate0) := iff_of_true rfl trivial

theorem resetLine (rate1 rate0 : Bool) : Statement (.resetLine rate1 rate0) := iff_of_true rfl trivial

theorem frameReceived (kind tag : Byte) (body : List Byte) (check : Byte) : Statement (.frameReceived kind tag body check) :=
  by simp [Statement, Instr.wellFormed, lenInRange]

theorem byteFault (place : FaultPlace) : Statement (.byteFault place) := by
  cases place <;> simp [Statement, Instr.wellFormed, FaultPlace.fits]

theorem lengthFault (len : Byte) : Statement (.lengthFault len) := by simp [Statement, Instr.wellFormed, lenInRange]

theorem gapFault (tag : Option Byte) : Statement (.gapFault tag) := iff_of_true rfl trivial

theorem transmitFrameStart : Statement .transmitFrameStart := iff_of_true rfl trivial

theorem transmitFrameEnd : Statement .transmitFrameEnd := iff_of_true rfl trivial

theorem unknownKind : Statement .unknownKind := iff_of_true rfl trivial

theorem ping : Statement .ping := iff_of_true rfl trivial

theorem status : Statement .status := iff_of_true rfl trivial

theorem peek : Statement .peek := iff_of_true rfl trivial

theorem resetCentre : Statement .resetCentre := iff_of_true rfl trivial

theorem resetLink : Statement .resetLink := iff_of_true rfl trivial

theorem setLink : Statement .setLink := iff_of_true rfl trivial

theorem getLink : Statement .getLink := iff_of_true rfl trivial

theorem setClock (agrees : Bool) (fields : ClockFields) : Statement (.setClock agrees fields) := iff_of_true rfl trivial

theorem getClock : Statement .getClock := iff_of_true rfl trivial

theorem setTariff (agrees : Bool) (weekday weekend : List BandField) : Statement (.setTariff agrees weekday weekend) :=
  decide_eq_true_iff

theorem getTariff : Statement .getTariff := iff_of_true rfl trivial

theorem setBilling (agrees : Bool) (fields : BillingFields) : Statement (.setBilling agrees fields) := iff_of_true rfl trivial

theorem openSession (agrees : Bool) (fields : OpenFields) : Statement (.openSession agrees fields) := decide_eq_true_iff

theorem closeSession (agrees : Bool) (lane : Nat) : Statement (.closeSession agrees lane) := iff_of_true rfl trivial

theorem addBowler (agrees : Bool) (fields : AddBowlerFields) : Statement (.addBowler agrees fields) := decide_eq_true_iff

theorem setBowler (agrees : Bool) (fields : SetBowlerFields) : Statement (.setBowler agrees fields) := iff_of_true rfl trivial

theorem withdrawBowler (agrees : Bool) (lane slot : Nat) : Statement (.withdrawBowler agrees lane slot) := iff_of_true rfl trivial

theorem markBlind (agrees : Bool) (lane slot : Nat) : Statement (.markBlind agrees lane slot) := iff_of_true rfl trivial

theorem skipTurn (agrees : Bool) (lane : Nat) : Statement (.skipTurn agrees lane) := iff_of_true rfl trivial

theorem pairMode (agrees : Bool) (pair : Nat) (mode : Option PairMode) : Statement (.pairMode agrees pair mode) :=
  iff_of_true rfl trivial

theorem holdLane (agrees : Bool) (lane : Nat) : Statement (.holdLane agrees lane) := iff_of_true rfl trivial

theorem releaseLane (agrees : Bool) (lane : Nat) : Statement (.releaseLane agrees lane) := iff_of_true rfl trivial

theorem laneStatus (agrees : Bool) (lane : Nat) : Statement (.laneStatus agrees lane) := iff_of_true rfl trivial

theorem getGame (agrees : Bool) (name : RecordName) : Statement (.getGame agrees name) := iff_of_true rfl trivial

theorem correctFrame (agrees : Bool) (name : RecordName) (frame : Nat) (balls : List BallField) : Statement (.correctFrame agrees name frame balls) :=
  decide_eq_true_iff

theorem certifyGame (agrees : Bool) (lane game : Nat) : Statement (.certifyGame agrees lane game) := iff_of_true rfl trivial

theorem ackCheck (agrees : Bool) (name : RecordName) (frame : Nat) (ball : Option Nat) : Statement (.ackCheck agrees name frame ball) :=
  iff_of_true rfl trivial

theorem getTeam (agrees : Bool) (lane game : Nat) : Statement (.getTeam agrees lane game) := iff_of_true rfl trivial

theorem getAccount (agrees : Bool) (lane : Nat) : Statement (.getAccount agrees lane) := iff_of_true rfl trivial

theorem addCredit (agrees : Bool) (lane amount : Nat) : Statement (.addCredit agrees lane amount) := iff_of_true rfl trivial

theorem machinePowerOn (agrees : Bool) (lane : Nat) (valid : Bool) : Statement (.machinePowerOn agrees lane valid) :=
  iff_of_true rfl trivial

theorem machinePowerOff (agrees : Bool) (lane : Nat) (valid : Bool) : Statement (.machinePowerOff agrees lane valid) :=
  iff_of_true rfl trivial

theorem clearJam (agrees : Bool) (lane : Nat) : Statement (.clearJam agrees lane) := iff_of_true rfl trivial

theorem serviceOut (agrees : Bool) (lane : Nat) (valid : Bool) : Statement (.serviceOut agrees lane valid) :=
  iff_of_true rfl trivial

theorem serviceIn (agrees : Bool) (lane : Nat) (valid : Bool) : Statement (.serviceIn agrees lane valid) :=
  iff_of_true rfl trivial

theorem setMachine (agrees : Bool) (fields : MachineFields) : Statement (.setMachine agrees fields) := iff_of_true rfl trivial

theorem getHealth (agrees : Bool) (lane : Nat) : Statement (.getHealth agrees lane) := iff_of_true rfl trivial

theorem setHealth (agrees : Bool) (fields : HealthFields) : Statement (.setHealth agrees fields) := iff_of_true rfl trivial

theorem stationReset (agrees : Bool) (pair : Nat) (hold : Byte) : Statement (.stationReset agrees pair hold) :=
  iff_of_true rfl trivial

theorem returnStatus (agrees : Bool) (pair : Nat) (threshold timeout : Option Nat) : Statement (.returnStatus agrees pair threshold timeout) :=
  iff_of_true rfl trivial

theorem clearReturnJam (agrees : Bool) (pair balls : Nat) : Statement (.clearReturnJam agrees pair balls) :=
  iff_of_true rfl trivial

theorem secondEvent : Statement .secondEvent := iff_of_true rfl trivial

theorem minuteEvent : Statement .minuteEvent := iff_of_true rfl trivial

theorem playMinute (lane : LaneIx) : Statement (.playMinute lane) := iff_of_true rfl trivial

theorem prepaidMinute (lane : LaneIx) : Statement (.prepaidMinute lane) := iff_of_true rfl trivial

theorem deskSilenceExpiry : Statement .deskSilenceExpiry := iff_of_true rfl trivial

theorem idleTimerExpiry (lane : LaneIx) : Statement (.idleTimerExpiry lane) := iff_of_true rfl trivial

theorem onTimeElapsed (lane : LaneIx) : Statement (.onTimeElapsed lane) := iff_of_true rfl trivial

theorem oldestEntryExpiry (pair : PairIx) : Statement (.oldestEntryExpiry pair) := iff_of_true rfl trivial

theorem settleExpiry (lane : LaneIx) : Statement (.settleExpiry lane) := iff_of_true rfl trivial

theorem rereadSettleExpiry (lane : LaneIx) : Statement (.rereadSettleExpiry lane) := iff_of_true rfl trivial

theorem readTimeout (lane : LaneIx) : Statement (.readTimeout lane) := iff_of_true rfl trivial

theorem cycleTimeout (lane : LaneIx) : Statement (.cycleTimeout lane) := iff_of_true rfl trivial

theorem warmUpExpiry (lane : LaneIx) : Statement (.warmUpExpiry lane) := iff_of_true rfl trivial

theorem paceTimerExpiry : Statement .paceTimerExpiry := iff_of_true rfl trivial

theorem resetHoldExpiry (pair : PairIx) : Statement (.resetHoldExpiry pair) := iff_of_true rfl trivial

theorem sendPoll : Statement .sendPoll := iff_of_true rfl trivial

theorem sendProbe : Statement .sendProbe := iff_of_true rfl trivial

theorem sendResetPoll : Statement .sendResetPoll := iff_of_true rfl trivial

theorem answerWindowExpiry : Statement .answerWindowExpiry := iff_of_true rfl trivial

theorem helloAnswer (answer : HelloAnswer) : Statement (.helloAnswer answer) := address_iff _

theorem statusAnswer (answer : StatusAnswer) : Statement (.statusAnswer answer) := address_iff _

theorem huntStartByte (byte : Byte) : Statement (.huntStartByte byte) := iff_of_true rfl trivial

theorem resetLineAsserted : Statement .resetLineAsserted := iff_of_true rfl trivial

end Sys2Proof.Laws.WellFormedness
end

