-- ==== Sys2Proof/Tests/Slice0.lean ====
section
/-! SUPPORT. Tests of the model: ill-formed commands that the check refuses, worked cases of the manual, and for
every statement with hypotheses a state and operands that meet them. -/

namespace Sys2Proof.Tests

open Sys2Proof Sys2Proof.Machine

/-! ### Small states -/

/-- The session settings of the worked game (section 3.7). -/
def settings1 : ScoreSettings := ⟨220, 90, 100, 10⟩

/-- The record of game 1 of a bowler with average 163, at its start. -/
def game1 : Game := Game.start settings1 1 0 163 none false

/-- An ACTIVE bowler with that record. -/
def bowler1 : Bowler := ⟨[0x41], 163, 163, none, .active, 0, [game1]⟩

/-- A part whose first station is ATTACHED, with lanes 1 and 2 CLOSED. -/
def present : State :=
  ({ State.reset with bus := { State.reset.bus with passing := false, due := [] } }).modPair 0 fun x => { x with
    ret := { x.ret with outOfReach := false }, station := { x.station with state := .attached } }

/-- A part whose lane 1 plays: a PER_TIME session, one bowler at the start of frame 1, and a READY machine. -/
def playing : State :=
  present.modLane 0 fun x => { x with
    session := .open_, game := 1, settings := settings1, roster := [bowler1], queue := [⟨0, 1, 1, 1⟩]
    account := some (Account.opened 0 .perTime 0 0 1), head := some ⟨0, 1, 1, 1⟩, gate := .onlyNoSession none
    machine := { x.machine with state := .ready, deck := .full, warmed := true, onTime := 60 } }

/-- playing with lane 1's record changed by f. -/
def with1 (f : Lane → Lane) : State := playing.modLane 0 f

/-- playing with lane 1's machine record changed by f. -/
def machine1 (f : MachineRec → MachineRec) : State := playing.modMachine 0 f

/-- playing with lane 1's one bowler changed to b. -/
def bowled (b : Bowler) : State := with1 fun x => { x with roster := [b] }

/-- playing with lane 1's account changed by f. -/
def metered (f : Account → Account) : State := playing.modAccount 0 f

/-- A request as it stands in a receive slot. -/
def ask (kind : RequestKind) (body : List Byte) : Slot := ⟨kind.code, 7, body, false⟩

/-- s with one request in the receive slots. -/
def asked (kind : RequestKind) (s : State) (body : List Byte := []) : State :=
  { s with link := { s.link with slots := [ask kind body] } }

/-- playing with an answer window open at pair 1's station, after a frame of the kind given. -/
def awaiting (kind : ExchangeKind) (s : State) : State := { s with bus := { s.bus with exchange := some ⟨0, kind⟩ } }

/-- The state a command leaves. -/
def after (c : Instr) (s : State) : State :=
  match exec c s with
  | .next t => t
  | .fault _ => s
  | .refused _ => s

/-- The status of the last reply a command places. -/
def statusOf (c : Instr) (s : State) : Option Status := ((after c s).link.replies.getLast?).map (·.status)

/-! ### Ill-formed commands -/

theorem test_body_of_241_refused : Instr.wellFormed (.frameReceived 1 7 (List.replicate 241 0) 0) = false := by decide +kernel
theorem test_fault_at_the_end_of_its_head_refused : Instr.wellFormed (.byteFault (.head 0)) = false := by decide +kernel
theorem test_fault_past_the_body_refused : Instr.wellFormed (.byteFault (.body 7 242)) = false := by decide +kernel
theorem test_length_in_range_is_no_fault : Instr.wellFormed (.lengthFault 242) = false := by decide +kernel
theorem test_hello_address_nine_refused : Instr.wellFormed (.helloAnswer ⟨9, .class2, .both, 0, .on, .on⟩) = false := by decide +kernel
theorem test_status_address_zero_refused : Instr.wellFormed (.statusAnswer ⟨0, 0, 0, false, none⟩) = false := by decide +kernel
theorem test_roster_past_the_body_refused :
    Instr.wellFormed (.openSession true ⟨1, 1, 0, 0, 0, 0, 0, 0, 0, List.replicate 241 ⟨[], 0, none⟩⟩) = false := by decide +kernel
theorem test_bands_past_the_body_refused :
    Instr.wellFormed (.setTariff true (List.replicate 121 ⟨0, 0, 0⟩) (List.replicate 120 ⟨0, 0, 0⟩)) = false := by decide +kernel
theorem test_balls_past_the_body_refused :
    Instr.wellFormed (.correctFrame true ⟨1, 1, 1⟩ 1 (List.replicate 241 ⟨0, false⟩)) = false := by decide +kernel
theorem test_name_past_the_body_refused :
    Instr.wellFormed (.addBowler true ⟨1, List.replicate 241 0x41, 0, none⟩) = false := by decide +kernel

/-! ### Worked cases of the manual -/

/-- A ball of lane 1's bowler in a frame, with the pins its image leaves standing. -/
def ballOn (frame : Nat) (left : List Nat) (g : Game) : Game := g.addBall ⟨0, ⟨0, 1, 1, frame⟩, pinsOf left, 1, false, false⟩

/-- The worked game of section 3.7 up to frame 7. -/
def worked7 : Game :=
  [(1, []), (2, [2, 4, 7]), (2, []), (3, [10]), (3, [10]), (4, []), (5, []), (6, [7, 10]), (6, []), (7, [3, 6, 9, 10]),
    (7, [10])].foldl (fun g b => ballOn b.1 b.2 g) game1

/-- The worked game of section 3.7. -/
def worked : Game :=
  { [(8, []), (9, [1, 2, 3, 4, 5, 6, 7, 8, 9, 10]), (9, []), (10, []), (10, [7]), (10, [])].foldl
      (fun g b => ballOn b.1 b.2 g) worked7 with state := .finished }

theorem test_worked_game_to_frame_seven : worked7.frames.toList.map (·.cumulative)
    = [some 20, some 39, some 48, some 76, some 96, some 112, some 121, none, none, none] := by decide +kernel

theorem test_worked_game_total : worked.scratch = some 181 ∧ worked.handicap = 51 ∧ worked.handicapped = 232 := by decide +kernel

theorem test_worked_game_splits : ((worked.frame 6).balls.map (·.split)) = [true, false]
    ∧ ((worked.frame 7).balls.map (·.split)) = [false, false] := by decide +kernel

/-- Section 4.9, step 3: the ball taken off a rocking pin is corrected to a spare. -/
theorem test_worked_correction : ((worked.correct 3 [⟨9, false⟩, ⟨1, false⟩]).frames.toList.map (·.cumulative))
    = [20, 39, 59, 87, 107, 123, 132, 152, 172, 192].map some := by decide +kernel

/-- R59: twelve strikes. -/
theorem test_twelve_strikes : ((List.range 12).foldl (fun g i => ballOn (min 10 (i + 1)) [] g) game1).scratch = some 300 := by
  decide

/-- The sequence of section 7.5, from its first sample on. -/
theorem test_worked_cycle_time : average false 0 84 = 84 ∧ average true 84 92 = 85 ∧ average true 86 150 = 94
    ∧ average true 94 80 = 93 ∧ average true 93 70 = 91 ∧ average true 91 60 = 88 ∧ average true 88 95 = 88 := by decide

/-- R149: 2000-01-01 was a SATURDAY, and 2100 begins the clock again. -/
theorem test_calendar : DateTime.epoch.dayOfWeek = 5 ∧ DateTime.tick ⟨2024, 2, 28, 23, 59, 59⟩ = ⟨2024, 2, 29, 0, 0, 0⟩
    ∧ DateTime.tick ⟨2099, 12, 31, 23, 59, 59⟩ = .epoch := by decide

/-- Section 9.11: the fourth minute of a PREPAID_TIME allowance of 3 is charged 49 cents with a carry of 50. -/
def prepaid : State :=
  { (with1 fun x => { x with account := some { Account.opened 0 .prepaidTime 3 0 1 with used := 3, warned := true, allowanceOut := true } })
    with due := { DueSteps.clear with prepaidMinutes := [0] }
         meter := { State.reset.meter with
           installed := some ⟨[⟨0, 500, 2990⟩], [⟨0, 500, 2990⟩]⟩, settings := { BillingSettings.initial with warningLead := 1 } } }

theorem test_prepaid_overtime_minute : (((after (.prepaidMinute 0) prepaid).lane 0).account.map fun a => (a.used, a.accrued, a.carry))
    = some (4, 49, 50) := by decide

/-! ### States that meet the hypotheses of the statements, clause by clause -/

theorem witness_StepTakesTheFrontCommand : State.reset.pending = [] ∧ State.reset.free := by decide

theorem witness_ResetLineKeepsClockAndHealth : State.reset.free ∧ ({ State.reset with held := true } : State).held = true
    ∧ (∀ a b, Instr.ping ≠ .powerOn a b) ∧ (∀ a b, Instr.ping ≠ .resetLine a b) ∧ Instr.ping ≠ .secondEvent := by decide

theorem playing_sound : playing.playSound := by
  unfold State.playSound State.gateSound ReturnRec.sound State.startsAtHome State.holdSound; decide

/-- An ALTERNATE pair whose lane 1 plays, with lane 2 REACHED and its one game FINISHED. -/
def waitingB : State := (playing.modLane 1 fun x => { x with
  session := .open_, game := 1, boundary := .reached, gate := .onlyNoSession none
  roster := [{ bowler1 with games := [{ game1 with state := .finished }] }] }).modPair 0 fun x => { x with mode := .alternate }

theorem waitingB_sound : waitingB.playSound := by
  unfold State.playSound State.gateSound ReturnRec.sound State.startsAtHome State.holdSound; decide

theorem witness_ResetCentreEndsEverySession :
    (asked .reset playing [1, 0]).front .reset (ask .reset [1, 0]) ∧ (ask .reset [1, 0]).body = [0x01, 0]
    ∧ (asked .reset playing [1, 0]).playSound ∧ (∃ l : LaneIx, ((asked .reset playing [1, 0]).lane l).session ≠ .closed)
    ∧ (asked .reset playing [1, 1]).front .reset (ask .reset [1, 1]) ∧ (asked .reset playing [1, 1]).playSound
    ∧ (asked .reset present [1, 0]).front .reset (ask .reset [1, 0])
    ∧ (∀ l : LaneIx, ((asked .reset present [1, 0]).lane l).session = .closed)
    ∧ (playing.lane 0).session ≠ .closed ∧ (playing.lane 0).boundary ≠ .reached ∧ (playing.lane 0).roster[0]? = some bowler1
    ∧ (playing.lane 0).account = some (Account.opened 0 .perTime 0 0 1)
    ∧ (asked .reset waitingB [1, 1]).front .reset (ask .reset [1, 1]) ∧ (asked .reset waitingB [1, 1]).playSound
    ∧ (waitingB.lane 1).boundary = .reached :=
  ⟨by decide, rfl, playing_sound, ⟨0, by decide⟩, by decide, playing_sound, by decide, by decide, by decide, by decide, rfl, rfl,
    by decide, waitingB_sound, rfl⟩

/-- R7, R22, R42: lane 1's record becomes WITHDRAWN; lane 2, waiting for lane 1 at its boundary, starts its next game as
lane 1 closes, and that record is WITHDRAWN beside the FINISHED one. -/
theorem test_resetCentre_ends_records :
    let t := after .resetCentre (asked .reset waitingB [1, 1])
    ((t.lane 0).roster.map fun b => b.games.map (·.state)) = [[.withdrawn]]
    ∧ ((t.lane 1).roster.map fun b => b.games.map (·.state)) = [[.finished, .withdrawn]] := by decide +kernel

theorem witness_ResetLinkClearsTheLink :
    (asked .reset playing [2, 9]).front .reset (ask .reset [2, 9]) ∧ (ask .reset [2, 9]).body = [0x02, 9]
    ∧ (asked .reset playing [2]).front .reset (ask .reset [2]) ∧ (ask .reset [2]).body.length ≠ 2
    ∧ (asked .reset playing [3, 0]).front .reset (ask .reset [3, 0]) ∧ (ask .reset [3, 0]).body = [3, 0] := by decide

/-- playing with two requests held. -/
def slotsFull : State := { playing with link := { playing.link with slots := [ask .ping [], ask .peek []] } }

/-- s with its receiver in the mode given. -/
def receiving (m : Receiver) (s : State) : State := { s with link := { s.link with receiver := m } }

/-- playing in the desk-lost state. -/
def deskLost : State := { playing with hold := true, link := { playing.link with lost := some .epoch } }

theorem witness_GoodFrameTakesASlot : (∀ s ∈ [playing, slotsFull, deskLost],
      (receiving .frame s).free ∧ (receiving .frame s).link.receiver = .frame) ∧ (List.replicate 240 (0 : Byte)).length ≤ 240
    ∧ frameSum 1 7 (List.replicate 240 0) 6 = 0 ∧ frameSum 1 7 [] 0xF6 = 0 ∧ playing.link.lost = none
    ∧ playing.link.slots.length < 2 ∧ slotsFull.link.lost = none ∧ ¬slotsFull.link.slots.length < 2
    ∧ deskLost.link.lost = some .epoch ∧ deskLost.link.slots.length < 2
    ∧ ∀ l : LaneIx, (deskLost.lane l).boundary = .unmarked := by decide +kernel

/-- playing with its receiver inside a frame. -/
def framing : State := receiving .frame playing

theorem witness_FaultyFrameListsOneFault :
    (∀ m ∈ [Receiver.hunt, .frame, .skip none, .skip (some 1), .skip (some 3)],
      (receiving m playing).free ∧ (receiving m playing).link.receiver = m) ∧ frameSum 1 7 [] 0xF7 ≠ 0
    ∧ frameSum 1 7 (List.replicate 240 0) 0 ≠ 0 ∧ (1 : Nat) ≤ 242 ∧ (1#8).toNat < 2 ∧ 242 < (243#8).toNat ∧ (0xC2 : Byte) ≠ 0xC3 := by decide +kernel

/-- R171: a START inside the length of a faulty frame begins no frame; after its last byte the receiver hunts. -/
theorem test_faulty_frame_is_spent :
    let left1 := after (.huntStartByte 0xC3) (after (.byteFault (.body 7 2)) framing)
    left1.link.receiver = .skip (some 1) ∧ left1.link.faults = [⟨7, .byte⟩]
    ∧ (after (.huntStartByte 0xC3) left1).link.receiver = .hunt ∧ (after (.gapFault (some 7)) left1).link.receiver = .hunt := by
  decide

/-- playing with a frame being sent on TXD. -/
def sending (f : TxFrame) : State := { playing with link := { playing.link with tx := some f } }

theorem witness_TransmitLineOrder :
    (sending (.reply ⟨0x81, 7, .ok, .bare⟩)).free ∧ (sending (.reply ⟨0x81, 7, .ok, .bare⟩)).link.tx ≠ none
    ∧ (sending (.fault ⟨7, .check⟩)).link.tx = some (.fault ⟨7, .check⟩) ∧ (∀ r, TxFrame.fault ⟨7, .check⟩ ≠ .reply r)
    ∧ playing.free ∧ playing.link.tx = none ∧ playing.link.replies = [] ∧ playing.link.faults = []
    ∧ playing.link.reports = [.powerUp 0x0A 16 1 0]
    ∧ (after .ping (asked .ping playing)).link.replies.length = 1 ∧ (after .ping (asked .ping playing)).link.tx = none
    ∧ (after (.byteFault .start) framing).link.faults = [⟨0, .byte⟩] ∧ (after (.byteFault .start) framing).link.replies = [] :=
  ⟨by decide, by decide, rfl, (fun _ h => by cases h), by decide⟩

/-- playing with a request of an unknown kind. -/
def strange : State := { playing with link := { playing.link with slots := [⟨0x07, 7, [], false⟩] } }

theorem witness_LinkRequestsAnswered : strange.free ∧ strange.link.nextRequest = some ⟨0x07, 7, [], false⟩ ∧ knownKind 0x07 = false
    ∧ (∀ k : RequestKind, k = .ping ∨ k = .peek ∨ k = .getLink ∨ k = .status ∨ k = .getClock ∨ k = .getTariff →
        (asked k playing).front k (ask k []) ∧ (asked k playing [0]).front k (ask k [0]))
    ∧ (asked .setLink playing [2, 88]).front .setLink (ask .setLink [2, 88])
    ∧ (asked .setLink playing [0]).front .setLink (ask .setLink [0]) ∧ (ask .setLink [0]).body.length ≠ 2 :=
  ⟨by decide, by decide, by decide, by intro k hk; rcases hk with rfl | rfl | rfl | rfl | rfl | rfl <;> decide, by decide⟩

/-- R179: the desk timeout at the ends of its range: 4 is raised to 5, 601 lowered to 600, 0 stored, 60 unchanged. -/
theorem test_setLink_range : statusOf .setLink (asked .setLink playing [0, 4]) = some .adjusted
    ∧ (after .setLink (asked .setLink playing [0, 4])).link.timeout = 5
    ∧ (after .setLink (asked .setLink playing [2, 89])).link.timeout = 600
    ∧ (after .setLink (asked .setLink playing [0, 0])).link.timeout = 0
    ∧ statusOf .setLink (asked .setLink playing [0, 60]) = some .noChange := by decide

theorem witness_ClockAndTariffReads : (asked .getClock playing).front .getClock (ask .getClock [])
    ∧ playing.meter.installed = none ∧ (asked .getTariff playing).front .getTariff (ask .getTariff []) := by decide

theorem witness_SettingsAreStoredInRange :
    (asked .setClock playing).front .setClock (ask .setClock []) ∧ (2000 : Nat) ≤ 2096 ∧ (29 : Nat) ≤ daysInMonth 2096 2
    ∧ ¬(29 : Nat) ≤ daysInMonth 2099 2 ∧ (asked .setBilling playing).front .setBilling (ask .setBilling [])
    ∧ (asked .setMachine playing).front .setMachine (ask .setMachine []) ∧ (1 : Nat) = pairNumber 0
    ∧ ((asked .setMachine playing).station 0).state ≠ .absent := by decide

/-- R122: a settle time of 41 is held at 40, and of 9 at 10. -/
theorem test_setMachine_range :
    ((after (.setMachine true ⟨1, 41, 120, 80, 60, 20⟩) (asked .setMachine playing)).pair 0).settings.settle = 40
    ∧ ((after (.setMachine true ⟨1, 9, 120, 80, 60, 20⟩) (asked .setMachine playing)).pair 0).settings.settle = 10 := by decide

/-- playing with a tariff installed that SET_TARIFF converts to itself. -/
def tariffed : State := { playing with meter := { playing.meter with installed := some ⟨[⟨0, 1, 2⟩], [⟨0, 3, 4⟩]⟩ } }

theorem witness_SetTariffLeavesATablePending :
    (asked .setTariff playing).front .setTariff (ask .setTariff [])
    ∧ (asked .setTariff playing).meter.installed ≠ some ⟨convertBands [⟨0, 1, 2⟩], convertBands [⟨0, 3, 4⟩]⟩
    ∧ (asked .setTariff tariffed).front .setTariff (ask .setTariff [])
    ∧ (asked .setTariff tariffed).meter.installed = some ⟨convertBands [⟨0, 1, 2⟩], convertBands [⟨0, 3, 4⟩]⟩
    ∧ 8 < (List.replicate 9 (⟨0, 1, 2⟩ : BandField)).length := by decide

theorem witness_ConvertedBandsRise : ([⟨0, 1, 1⟩, ⟨1440, 2, 2⟩] : List Band) ≠ []
    ∧ ([⟨0, 1, 1⟩, ⟨1440, 2, 2⟩] : List Band) = [⟨0, 1, 1⟩] ++ ⟨1440, 2, 2⟩ :: []
    ∧ (∀ d ∈ ([] : List Band), min 1439 d.start ≠ 1439)
    ∧ ∃ d ∈ ([⟨0, 1, 1⟩, ⟨1440, 2, 2⟩] : List Band), min 1439 d.start < min 1439 1440 := by decide

/-- The fields of an OPEN_SESSION for lane 1 at the limits of its ranges. -/
def opening : OpenFields := ⟨1, 4, 999, 9, 150, 300, 100, 300, 100, List.replicate 8 ⟨[0x41], 300, some 300⟩⟩

theorem witness_OpenSessionOpensTheLane :
    (asked .openSession { tariffed with lanes := present.lanes, clockValid := true }).front .openSession (ask .openSession [])
    ∧ opening.lane = laneNumber 0 ∧ (asked .openSession { tariffed with lanes := present.lanes, clockValid := true }).fits 0
    ∧ ((asked .openSession { tariffed with lanes := present.lanes, clockValid := true }).lane 0).session = .closed
    ∧ 1 ≤ opening.roster.length ∧ opening.roster.length ≤ 8 ∧ billingMode opening.mode = some .prepaidTime
    ∧ (BillingMode.needsTariff .prepaidTime = true → (asked .openSession { tariffed with clockValid := true }).clockValid = true
      ∧ (asked .openSession { tariffed with clockValid := true }).meter.installed.isSome = true) := by decide

theorem witness_CloseSessionClosesTheLane : (asked .closeSession playing).front .closeSession (ask .closeSession [])
    ∧ ((asked .closeSession playing).lane 0).session ≠ .closed ∧ ((asked .closeSession playing).gate 0).noSession = none
    ∧ ((asked .closeSession playing).lane 0).account = some (Account.opened 0 .perTime 0 0 1)
    ∧ ((asked .closeSession playing).lane 0).roster[0]? = some bowler1 ∧ bowler1.games[0]? = some game1
    ∧ game1.state = .inProgress ∧ game1.balls = [] := by decide

/-- R7 step 2: of a bowler's records the one IN_PROGRESS becomes WITHDRAWN and the FINISHED one stays. -/
theorem test_closeSession_ends_records :
    ((after (.closeSession true 1) (asked .closeSession (bowled { bowler1 with games := [{ game1 with state := .finished }, game1] }))).lane
      0).roster.map (fun b => b.games.map (·.state)) = [[.finished, .withdrawn]] := by decide +kernel

/-- Lane 1 held by the desk, WAITING on a rack. -/
def heldLane : State := with1 fun x => { x with
  gate := { x.gate with deskHold := some .epoch }
  machine := { x.machine with state := .waiting, deck := .empty, pendingCycle := some ⟨.fullRack .newFrame, false, some ⟨0, 1, 1, 1⟩, some .newFrame⟩ } }

/-- Lane 1 held by the desk and by a backlog. -/
def heldTwice : State := heldLane.modLane 0 fun x => { x with gate := { x.gate with returnBacklog := some .epoch } }

theorem witness_HoldAndReleaseLane :
    (asked .holdLane present).fits 0 ∧ (asked .holdLane present).front .holdLane (ask .holdLane [])
    ∧ ((asked .holdLane present).lane 0).session = .closed
    ∧ (asked .holdLane playing).fits 0 ∧ (asked .holdLane playing).front .holdLane (ask .holdLane [])
    ∧ ((asked .holdLane playing).lane 0).session ≠ .closed ∧ ((asked .holdLane playing).gate 0).deskHold = none
    ∧ (asked .holdLane heldLane).front .holdLane (ask .holdLane []) ∧ ((asked .holdLane heldLane).gate 0).deskHold ≠ none
    ∧ (asked .releaseLane playing).front .releaseLane (ask .releaseLane [])
    ∧ (asked .releaseLane heldLane).front .releaseLane (ask .releaseLane [])
    ∧ ((asked .releaseLane heldLane).machine 0).state = .waiting
    ∧ ((asked .releaseLane heldLane).machine 0).pendingCycle = some ⟨.fullRack .newFrame, false, some ⟨0, 1, 1, 1⟩, some .newFrame⟩
    ∧ ((after (.releaseLane true 1) (asked .releaseLane heldLane)).gate 0).blocks (.fullRack .newFrame) = false
    ∧ ((after (.releaseLane true 1) (asked .releaseLane heldTwice)).gate 0).blocks (.fullRack .newFrame) = true := by decide

theorem witness_LaneReadsChangeNothing :
    (∀ k : RequestKind, k = .laneStatus ∨ k = .getHealth ∨ k = .returnStatus ∨ k = .getAccount ∨ k = .getGame ∨ k = .getTeam →
      (asked k playing).fits 0 ∧ (asked k playing).front k (ask k []))
    ∧ (playing.lane 0).account = some (Account.opened 0 .perTime 0 0 1) ∧ (playing.lane 0).session ≠ .closed
    ∧ playing.bowler 0 1 = some bowler1 ∧ bowler1.games.getLast? = some game1 ∧ bowler1.game 1 = some game1
    ∧ 1 ≤ (playing.lane 0).game ∧ (playing.lane 0).game ≠ 0 :=
  ⟨by intro k hk; rcases hk with rfl | rfl | rfl | rfl | rfl | rfl <;> decide, by decide⟩

theorem witness_PlaceChecksComeFirst :
    requestNamed (.laneStatus true 17) = some (.laneStatus, true, true, 17) ∧ numberInRange true 17 = false
    ∧ requestNamed (.laneStatus true 0) = some (.laneStatus, true, true, 0) ∧ numberInRange true 0 = false
    ∧ requestNamed (.returnStatus true 9 none none) = some (.returnStatus, true, false, 9) ∧ numberInRange false 9 = false
    ∧ (asked .laneStatus playing).front .laneStatus (ask .laneStatus [])
    ∧ numberedPair true 16 = some 7 ∧ ((asked .laneStatus playing).station 7).state = .absent ∧ findLane 16 = some 15
    ∧ ((asked .laneStatus playing).lane 15).session = .closed := by decide

/-- The bowler after the first ball of frame 1, which left pin 7. -/
def begun : Bowler := { bowler1 with games := [ballOn 1 [7] game1] }

/-- Seven bowlers on lane 1, none of whom has bowled. -/
def seven : State := with1 fun x => { x with roster := List.replicate 7 bowler1 }

theorem witness_AddAndSetBowler :
    (asked .addBowler seven).front .addBowler (ask .addBowler []) ∧ (asked .addBowler seven).fits 0
    ∧ ((asked .addBowler seven).lane 0).session = .open_ ∧ ((asked .addBowler seven).lane 0).roster.length < 8
    ∧ (asked .addBowler seven).hasBowled 0 = false ∧ ((asked .addBowler seven).lane 0).boundary = .unmarked
    ∧ (asked .addBowler (bowled begun)).front .addBowler (ask .addBowler []) ∧ (asked .addBowler (bowled begun)).hasBowled 0 = true
    ∧ (asked .setBowler playing).front .setBowler (ask .setBowler []) ∧ (asked .setBowler playing).fits 0
    ∧ ((asked .setBowler playing).lane 0).session ≠ .closed ∧ (asked .setBowler playing).bowler 0 1 = some bowler1 := by decide

/-- Lane 1's bowler withdrawn, or BLIND, or WAITING. -/
def idleBowler (st : BowlerState) : Bowler := { bowler1 with state := st, games := [] }

theorem witness_WithdrawAndMarkBlind :
    (∀ k : RequestKind, k = .withdrawBowler ∨ k = .markBlind → ∀ b ∈ [idleBowler .withdrawn, idleBowler .blind, idleBowler .waiting,
        begun, bowler1], (asked k (bowled b)).fits 0 ∧ ((asked k (bowled b)).lane 0).session ≠ .closed
          ∧ (asked k (bowled b)).bowler 0 1 = some b ∧ (asked k (bowled b)).front k (ask k []))
    ∧ (bowled begun).bowlerMidFrame 0 1 = true ∧ (bowled begun).gameBegun 0 1 begun = true
    ∧ (bowled (idleBowler .waiting)).gameBegun 0 1 (idleBowler .waiting) = false ∧ (idleBowler .waiting).playing 1 = false ∧ (bowled (idleBowler .waiting)).bowlerMidFrame 0 1 = false
    ∧ bowler1.playing (playing.lane 0).game = true ∧ playing.bowlerMidFrame 0 1 = false ∧ bowler1.game 2 = none
    ∧ playing.gameBegun 0 1 bowler1 = false ∧ (bowler1.games.getLast?.map (·.number)) = some (playing.lane 0).game
    ∧ (bowler1.games.map (·.number)).Nodup :=
  ⟨by intro k hk; rcases hk with rfl | rfl <;> decide, by decide⟩

/-- Two bowlers on lane 1, with the first at the head. -/
def two : State := with1 fun x => { x with roster := [bowler1, bowler1], queue := [⟨0, 1, 1, 1⟩, ⟨0, 2, 1, 1⟩] }

/-- two with a prepaid account whose allowance is used up. -/
def twoOut (mode : BillingMode) : State := two.modAccount 0 fun a => { a with mode := mode, allowanceOut := true }

/-- No turn on lane 1. -/
def noTurns : State := with1 fun x => { x with queue := [] }

theorem witness_SkipTurnMovesTheHead :
    (asked .skipTurn two).front .skipTurn (ask .skipTurn []) ∧ (asked .skipTurn two).fits 0
    ∧ ((asked .skipTurn two).lane 0).session ≠ .closed ∧ ((asked .skipTurn two).lane 0).queue = ⟨0, 1, 1, 1⟩ :: ⟨0, 2, 1, 1⟩ :: []
    ∧ (asked .skipTurn two).midFrame ⟨0, 1, 1, 1⟩ = false ∧ (⟨0, 2, 1, 1⟩ : Turn) ≠ ⟨0, 1, 1, 1⟩ ∧ two.link.reports.length < 48
    ∧ ((twoOut .prepaidTime).lane 0).account
      = some { Account.opened 0 .perTime 0 0 1 with mode := .prepaidTime, allowanceOut := true }
    ∧ ((twoOut .prepaidGames).lane 0).account
      = some { Account.opened 0 .perTime 0 0 1 with mode := .prepaidGames, allowanceOut := true }
    ∧ (Account.opened 0 .perTime 0 0 1).lastCounted 2 < 1 ∧ (two.lane 0).account = some (Account.opened 0 .perTime 0 0 1)
    ∧ ((two.modMachine 0 fun m => { m with state := .standby }).machine 0).state = .standby ∧ (two.machine 0).state = .ready
    ∧ two.standingNeed ⟨0, 2, 1, 1⟩ = .newFrame ∧ (two.machine 0).removal ≠ .health
    ∧ ((after (.skipTurn true 1) (asked .skipTurn two)).gate 0).blocks (.fullRack .newFrame) = false
    ∧ ((after (.skipTurn true 1) (asked .skipTurn (twoOut .prepaidTime))).gate 0).blocks (.fullRack .newFrame) = true
    ∧ ((asked .skipTurn playing).lane 0).queue = [⟨0, 1, 1, 1⟩] ∧ (asked .skipTurn playing).midFrame ⟨0, 1, 1, 1⟩ = false
    ∧ ((asked .skipTurn (bowled begun)).lane 0).queue = [⟨0, 1, 1, 1⟩]
    ∧ (asked .skipTurn (bowled begun)).midFrame ⟨0, 1, 1, 1⟩ = true ∧ ((asked .skipTurn noTurns).lane 0).queue = []
    ∧ (asked .skipTurn noTurns).front .skipTurn (ask .skipTurn []) := by decide

/-- Both lanes of pair 1 OPEN, with neither bowled on. -/
def bothOpen (b : Bowler) : State := (bowled b).modLane 1 fun x => { x with session := .open_, gate := .onlyNoSession none }

/-- playing with pair 1's modes as given. -/
def inMode (m : PairMode) (pend : Option PairMode) (s : State) : State :=
  s.modPair 0 fun x => { x with mode := m, pendingMode := pend }

/-- Both lanes of pair 1 OPEN in ALTERNATE, lane 1's team on lane 2 and lane 2's on lane 1. -/
def crossed : State := inMode .alternate none <|
  ((bothOpen bowler1).modLane 0 fun x => { x with startLane := 1, queue := [⟨1, 1, 1, 1⟩] }).modLane 1 fun x => { x with
    startLane := 0, game := 1, roster := [bowler1], queue := [⟨0, 1, 1, 1⟩] }

theorem crossed_sound : crossed.turnsSound := by
  unfold State.turnsSound State.turnSound State.unbowled State.startsAtHome; decide +kernel

theorem witness_PairModeTakesEffectOrWaits : crossed.turnsSound
    ∧ (asked .pairMode crossed).front .pairMode (ask .pairMode []) ∧ PairMode.separate ≠ ((asked .pairMode crossed).pair 0).mode
    ∧ crossed.hasBowled (laneA 0) = false ∧ crossed.hasBowled (laneB 0) = false ∧ (crossed.lane (laneA 0)).boundary = .unmarked
    ∧ (crossed.lane (laneB 0)).boundary = .unmarked
    ∧ (asked .pairMode (inMode .separate (some .alternate) playing)).front .pairMode (ask .pairMode [])
    ∧ ((inMode .separate (some .alternate) playing).pair 0).pendingMode = some .alternate
    ∧ ((inMode .separate (some .alternate) playing).lane (laneA 0)).boundary = .unmarked
    ∧ ((inMode .separate (some .alternate) playing).lane (laneB 0)).boundary = .unmarked ∧
    (asked .pairMode playing).front .pairMode (ask .pairMode []) ∧ ((asked .pairMode playing).station 0).state ≠ .absent
    ∧ PairMode.separate = ((asked .pairMode playing).pair 0).mode ∧ ((asked .pairMode playing).pair 0).pendingMode = none
    ∧ PairMode.alternate ≠ ((asked .pairMode playing).pair 0).mode
    ∧ ¬(((asked .pairMode playing).lane (laneA 0)).session = .open_ ∧ ((asked .pairMode playing).lane (laneB 0)).session = .open_)
    ∧ (asked .pairMode (bothOpen begun)).front .pairMode (ask .pairMode [])
    ∧ ((asked .pairMode (bothOpen begun)).lane (laneB 0)).session = .open_ ∧ (asked .pairMode (bothOpen begun)).hasBowled (laneA 0) = true
    ∧ (asked .pairMode (bothOpen bowler1)).front .pairMode (ask .pairMode [])
    ∧ ((asked .pairMode (bothOpen bowler1)).lane (laneA 0)).session = .open_
    ∧ ((asked .pairMode (bothOpen bowler1)).lane (laneB 0)).session = .open_
    ∧ (asked .pairMode (bothOpen bowler1)).hasBowled (laneA 0) = false ∧ (asked .pairMode (bothOpen bowler1)).hasBowled (laneB 0) = false
    ∧ ((asked .pairMode (bothOpen bowler1)).lane (laneA 0)).boundary = .unmarked
    ∧ ((asked .pairMode (bothOpen bowler1)).lane (laneB 0)).boundary = .unmarked := ⟨crossed_sound, by decide⟩

/-- The worked game with the check of its ball 3.2 OPEN (section 4.9). -/
def checked : Game := worked.modFrame 3 fun f =>
  { f with balls := f.balls.map fun x => if x.pinfall = 0 then { x with check := .open_ } else x }

/-- Lane 1 with a record of game 1 as given. -/
def recorded (g : Game) : State := bowled { bowler1 with games := [g] }

/-- A record CERTIFIED from FINISHED. -/
def certifiedGame : Game := { worked with state := .certified, certifiedFrom := some .finished }

/-- Pair 1 in ALTERNATE, with lane 1's bowler at frame 9. -/
def alternating : State := ({ playing with
  lanes := (with1 fun x => { x with queue := [⟨0, 1, 1, 9⟩] }).lanes }).modPair 0 fun x => { x with mode := .alternate }

/-- Lane 1 at the end of its bowler's tenth frame, its game FINISHED, with so many games planned. -/
def tenth (planned : Nat) : State := (recorded worked).modLane 0 fun x => { x with queue := [⟨0, 1, 1, 10⟩], gamesPlanned := planned }

/-- tenth in ALTERNATE, with lane 2 OPEN at the boundary mark given. -/
def tenthBoth (planned : Nat) (mark : Boundary) : State := inMode .alternate none <|
  (tenth planned).modLane 1 fun x => { x with session := .open_, game := 1, boundary := mark, roster := [bowler1] }

theorem next_unplayed : ∀ s ∈ [tenth 0, tenth 1, tenthBoth 0 .unmarked, tenthBoth 0 .reached, tenthBoth 1 .reached],
    s.nextUnplayed (laneA 0) ∧ s.nextUnplayed (laneB 0) := by
  unfold State.nextUnplayed; decide +kernel

theorem witness_FrameOverMovesPlayOn : (playing.lane 0).queue = ⟨0, 1, 1, 1⟩ :: [] ∧ (1 : Nat) < 10
    ∧ (playing.pair (pairOf 0)).mode = .separate ∧ (alternating.lane 0).queue = ⟨0, 1, 1, 9⟩ :: [] ∧ (9 : Nat) < 10
    ∧ (alternating.pair (pairOf 0)).mode = .alternate
    ∧ ((with1 fun x => { x with queue := [⟨0, 1, 1, 10⟩] }).lane 0).queue = ⟨0, 1, 1, 10⟩ :: [] ∧ playing.gameEnded 0 = false
    ∧ (∀ s ∈ [tenth 0, tenth 1, tenthBoth 0 .unmarked, tenthBoth 0 .reached, tenthBoth 1 .reached],
        (s.lane 0).queue = ⟨0, 1, 1, 10⟩ :: [] ∧ (s.lane 0).session = .open_ ∧ (s.lane 0).boundary = .unmarked ∧ s.gameEnded 0 = true
        ∧ s.link.reports.length < 40 ∧ (s.pair 0).pendingMode = none ∧ s.hold = false)
    ∧ ((tenth 0).pair 0).mode = .separate ∧ (tenth 0).seriesEnds 0 = false ∧ (tenth 1).seriesEnds 0 = true
    ∧ ({ tenth 0 with hold := true } : State).hold = true ∧ ((tenthBoth 0 .unmarked).pair 0).mode = .alternate
    ∧ ((tenthBoth 0 .reached).lane (partner 0)).boundary = .reached ∧ (tenthBoth 0 .reached).eitherEnds 0 = false
    ∧ (tenthBoth 1 .reached).eitherEnds 0 = true := by decide +kernel

theorem witness_AckCheckAcknowledges :
    (∀ g ∈ [checked, worked, certifiedGame], (asked .ackCheck (recorded g)).front .ackCheck (ask .ackCheck [])
      ∧ (asked .ackCheck (recorded g)).fits 0 ∧ ((asked .ackCheck (recorded g)).lane 0).session ≠ .closed
      ∧ (asked .ackCheck (recorded g)).bowler 0 1 = some { bowler1 with games := [g] }
      ∧ ({ bowler1 with games := [g] } : Bowler).game 1 = some g)
    ∧ certifiedGame.state = .certified ∧ checked.state ≠ .certified ∧ 2 ≤ (checked.frame 3).balls.length
    ∧ 3 ≤ (worked.frame 10).balls.length := by decide +kernel

/-- R73: of a frame's OPEN checks, those named are acknowledged; a frame with none answers NO_CHANGE. -/
theorem test_ackCheck : statusOf (.ackCheck true ⟨1, 1, 1⟩ 3 (some 2)) (asked .ackCheck (recorded checked)) = some .ok
    ∧ statusOf (.ackCheck true ⟨1, 1, 1⟩ 3 (some 1)) (asked .ackCheck (recorded checked)) = some .noChange := by decide +kernel

theorem witness_CorrectFrameRewritesTheFrame :
    (asked .correctFrame (recorded checked)).front .correctFrame (ask .correctFrame []) ∧ (asked .correctFrame (recorded checked)).fits 0
    ∧ ((asked .correctFrame (recorded checked)).lane 0).session ≠ .closed
    ∧ (asked .correctFrame (recorded checked)).bowler 0 1 = some { bowler1 with games := [checked] }
    ∧ ({ bowler1 with games := [checked] } : Bowler).game 1 = some checked ∧ checked.state = .finished
    ∧ (checked.frame 1).mark.complete = true ∧ (checked.frame 3).mark.complete = true ∧ (checked.frame 10).mark.complete = true
    ∧ validFrame 3 [⟨9, false⟩, ⟨2, false⟩] = false ∧ validFrame 3 [⟨9, false⟩, ⟨1, false⟩] = true
    ∧ validFrame 10 [⟨10, false⟩, ⟨9, false⟩, ⟨1, false⟩] = true
    ∧ ((((after (.correctFrame true ⟨1, 1, 1⟩ 3 [⟨9, false⟩, ⟨1, false⟩]) (asked .correctFrame (recorded checked))).bowler 0 1).bind
        (·.game 1)).bind fun g => (g.frame 10).cumulative) = some 192 := by decide +kernel

/-- Section 4.9: [9, 2] is refused, [9, 1] taken with GAME_CORRECTED, and a CERTIFIED record is refused. -/
theorem test_correctFrame_statuses :
    statusOf (.correctFrame true ⟨1, 1, 1⟩ 3 [⟨9, false⟩, ⟨2, false⟩]) (asked .correctFrame (recorded checked)) = some .badValue
    ∧ ((after (.correctFrame true ⟨1, 1, 1⟩ 3 [⟨9, false⟩, ⟨1, false⟩]) (asked .correctFrame (recorded checked))).link.reports.head?)
      = some (.gameCorrected 0 1 1 3 192 51 243)
    ∧ statusOf (.correctFrame true ⟨1, 1, 1⟩ 7 [⟨9, false⟩, ⟨1, false⟩]) (asked .correctFrame (recorded certifiedGame))
      = some .certified := by decide +kernel

theorem witness_CertifyGameCertifiesTheTeam :
    (∀ g ∈ [game1, checked, worked], (asked .certifyGame (recorded g)).front .certifyGame (ask .certifyGame [])
      ∧ (asked .certifyGame (recorded g)).fits 0 ∧ ((asked .certifyGame (recorded g)).lane 0).session ≠ .closed
      ∧ 1 ≤ ((asked .certifyGame (recorded g)).lane 0).game
      ∧ (∀ b ∈ ((asked .certifyGame (recorded g)).lane 0).roster, b.gone 1 = false)
      ∧ ∃ b ∈ ((asked .certifyGame (recorded g)).lane 0).roster, (b.game 1).isSome = true)
    ∧ game1.state = .inProgress ∧ checked.state ≠ .inProgress ∧ checked.checkOpen = true
    ∧ worked.checkOpen = false ∧ worked.state = .finished := by decide +kernel

theorem witness_AddCreditRaisesTheAllowance :
    (∀ a ∈ [Account.opened 0 .perTime 0 0 1, Account.opened 0 .prepaidTime 998 0 1, Account.opened 0 .prepaidTime 999 0 1,
        Account.opened 0 .prepaidGames 98 0 1],
      (asked .addCredit (metered fun _ => a)).front .addCredit (ask .addCredit []) ∧ (asked .addCredit (metered fun _ => a)).fits 0
      ∧ ((asked .addCredit (metered fun _ => a)).lane 0).session ≠ .closed
      ∧ ((asked .addCredit (metered fun _ => a)).lane 0).account = some a)
    ∧ (playing.lane 0).head = some ⟨0, 1, 1, 1⟩ := by decide

/-- Section 9.11, ADD_CREDIT 3 at 20:04:20: the allowance is 6, and both flags and BILLING are cleared. -/
theorem test_worked_credit :
    let s := asked .addCredit (({ prepaid with due := .clear } : State).modLane 0 fun x => { x with
      account := x.account.map (fun a => { a with used := 4 }), gate := { x.gate with billing := some .epoch } })
    (((after (.addCredit true 1 3) s).lane 0).account.map fun a => (a.allowance, a.warned, a.allowanceOut)) = some (6, false, false)
      ∧ ((after (.addCredit true 1 3) s).gate 0).billing = none := by decide +kernel

/-- playing with lane 1's machine in a state, and its session CLOSED where asked. -/
def inState (st : MachineState) (closed : Bool := false) (onTime : Nat := 60) : State := with1 fun x => { x with
  session := if closed then .closed else .open_, machine := { x.machine with state := st, onTime := onTime } }

theorem witness_MachinePowerOnAndOff :
    (∀ st ∈ [MachineState.poweredDown, .standby, .outOfService, .linkLost, .ballDown, .reading, .cycling, .jammed, .waking, .deckEmpty,
        .waiting, .ready], (asked .machinePower (inState st)).front .machinePower (ask .machinePower [])
          ∧ (asked .machinePower (inState st)).fits 0 ∧ ((asked .machinePower (inState st)).station (pairOf 0)).state ≠ .resetting
          ∧ ((asked .machinePower (inState st)).machine 0).state = st)
    ∧ ((inState .ready).lane 0).session ≠ .closed ∧ ((inState .ready true).lane 0).session = .closed
    ∧ ((inState .ready true).machine 0).powerOffPending = false ∧ (inState .ready true).minOnElapsed 0 = true
    ∧ (inState .ready true 59).minOnElapsed 0 = false := by decide

/-- playing with pair 1's station RESETTING. -/
def resetting : State := playing.modStation 0 fun t => { t with state := .resetting, holding := true, holdRemaining := 3 }

/-- Lane 1 JAMMED, and JAMMED while the desk holds it. -/
def jammed : State := machine1 fun m => { m with state := .jammed, jamStanding := true, deck := .unknown }

theorem witness_ClearJamStartsTheRecovery :
    (∀ s ∈ [resetting, playing, jammed], (asked .clearJam s).front .clearJam (ask .clearJam []) ∧ (asked .clearJam s).fits 0)
    ∧ ((asked .clearJam resetting).station (pairOf 0)).state = .resetting
    ∧ ((asked .clearJam playing).station (pairOf 0)).state ≠ .resetting ∧ ((asked .clearJam playing).machine 0).state ≠ .jammed
    ∧ ((asked .clearJam jammed).station (pairOf 0)).state ≠ .resetting ∧ ((asked .clearJam jammed).machine 0).state = .jammed
    ∧ ((asked .clearJam jammed).gate 0).deskHold = none := by decide

/-- playing with lane 1 OUT_OF_SERVICE. -/
def serviceOut : State := machine1 fun m => { m with state := .outOfService, service := .out }

theorem witness_ServiceOutAndIn :
    (∀ s ∈ [playing, inState .cycling, serviceOut], (asked .service s).front .service (ask .service []) ∧ (asked .service s).fits 0
      ∧ ((asked .service s).station (pairOf 0)).state ≠ .resetting)
    ∧ ((asked .service playing).machine 0).service = .in_ ∧ ((asked .service playing).machine 0).state = .ready
    ∧ ((asked .service (inState .cycling)).machine 0).service = .in_ ∧ ((asked .service (inState .cycling)).machine 0).state = .cycling
    ∧ ((asked .service serviceOut).machine 0).service = .out ∧ ((asked .service serviceOut).machine 0).state = .outOfService := by
  decide

theorem witness_SetHealthStoresAndTests : (asked .setHealth playing).front .setHealth (ask .setHealth [])
    ∧ (⟨1, some .remove, some 300, some 256, some 256, some 16777215, some 65535, some 0, some 300, none⟩ : HealthFields).lane
      = laneNumber 0 ∧ (asked .setHealth playing).fits 0 := by decide

theorem witness_StationResetHoldsTheStation :
    (asked .stationReset playing).front .stationReset (ask .stationReset []) ∧ ((asked .stationReset playing).station 0).state ≠ .absent
    ∧ ((asked .stationReset playing).station 0).state.polled = true
    ∧ (asked .stationReset resetting).front .stationReset (ask .stationReset [])
    ∧ ((asked .stationReset resetting).station 0).state.polled = false := by decide

/-- playing with a ball on pair 1's track and the return JAMMED. -/
def returnJammed : State := (playing.modReturn 0 fun t => { t with
  track := [⟨0, .a, 0, .scored⟩], jamStanding := true, rack := 10 }).modLane 0 fun x => { x with
    gate := { x.gate with returnJam := some .epoch } }

theorem witness_ReturnSettingsAndClearing :
    (asked .returnStatus playing).front .returnStatus (ask .returnStatus []) ∧ ((asked .returnStatus playing).station 0).state ≠ .absent
    ∧ (some 13 : Option Nat) ≠ none
    ∧ (∀ s ∈ [playing, resetting, returnJammed], (asked .clearReturnJam s).front .clearReturnJam (ask .clearReturnJam [])
        ∧ ((asked .clearReturnJam s).station 0).state ≠ .absent)
    ∧ ((asked .clearReturnJam resetting).station 0).state = .resetting
    ∧ ((asked .clearReturnJam playing).station 0).state = .attached ∧ ((asked .clearReturnJam playing).ret 0).jamStanding = false
    ∧ ((asked .clearReturnJam returnJammed).station 0).state = .attached
    ∧ ((asked .clearReturnJam returnJammed).ret 0).jamStanding = true := by decide

theorem witness_SecondEventCounts : playing.free ∧ (playing.lane 0).account = some (Account.opened 0 .perTime 0 0 1)
    ∧ (playing.lane 0).session ≠ .closed ∧ (Account.opened 0 .perTime 0 0 1).isFinal = false ∧ (playing.lane 0).downtime = false
    ∧ jammed.free ∧ (jammed.lane 0).downtime = true ∧ (present.lane 0).session = .closed
    ∧ (metered fun a => { a with isFinal := true }).free
    ∧ ((metered fun a => { a with isFinal := true }).lane 0).account = some { Account.opened 0 .perTime 0 0 1 with isFinal := true } := by
  decide

/-- R160: a second of downtime past the grace is a down second, and the last within it is a play second. -/
theorem test_grace : (((Account.opened 0 .perTime 0 0 1).countSecond true 60).playSeconds = 1)
    ∧ (Account.countSecond true 60 { Account.opened 0 .perTime 0 0 1 with episode := 60 }).downSeconds = 1
    ∧ (Account.countSecond true 60 { Account.opened 0 .perTime 0 0 1 with episode := 59 }).downSeconds = 0 := by decide

/-- playing with the minute part due, and a table pending. -/
def minuteDue : State := { playing with
  due := { DueSteps.clear with minute := true }, meter := { playing.meter with pendingTable := some ⟨[⟨0, 1, 2⟩], [⟨0, 3, 4⟩]⟩ } }

/-- prepaid with its last minute due. -/
def lastMinute : State := prepaid.modAccount 0 fun a => { a with used := 2, allowanceOut := false }

theorem witness_MinuteAndPrepaidMinute : minuteDue.held = false ∧ minuteDue.due.minute = true
    ∧ (after .minuteEvent minuteDue).bandInForce = some ⟨.weekend, ⟨0, 3, 4⟩⟩
    ∧ prepaid.held = false ∧ prepaid.due.minute = false ∧ (0 : LaneIx) ∈ prepaid.due.prepaidMinutes
    ∧ (prepaid.lane 0).account
      = some { Account.opened 0 .prepaidTime 3 0 1 with used := 3, warned := true, allowanceOut := true }
    ∧ ((lastMinute.lane 0).account.map fun a => (a.mode, min 65535 (a.used + 1), a.allowance, a.allowanceOut))
      = some (.prepaidTime, 3, 3, false)
    ∧ (0 : LaneIx) ∈ lastMinute.due.prepaidMinutes ∧ (lastMinute.lane 0).head = some ⟨0, 1, 1, 1⟩ := by decide

/-- R162, R164: the minute that uses up the allowance raises BILLING. -/
theorem test_allowance_out : ((after (.prepaidMinute 0) lastMinute).gate 0).billing = some .epoch := by decide

/-- playing with its account one second short of a play minute. -/
def nearMinute : State := metered fun a => { a with playSeconds := 59, sessionSeconds := 59 }

/-- nearMinute after that second. -/
def playDue : State := { nearMinute with due := { DueSteps.clear with playMinutes := [0] } }

theorem witness_PlayMinuteChargesThroughTheCarry : nearMinute.free
    ∧ exec .secondEvent nearMinute = .next (after .secondEvent nearMinute) ∧ (0 : LaneIx) ∈ (after .secondEvent nearMinute).due.playMinutes
    ∧ playDue.held = false ∧ playDue.due.minute = false ∧ (0 : LaneIx) ∈ playDue.due.playMinutes
    ∧ ((playDue.lane 0).account.map (·.playSeconds)) = some 59 := ⟨by decide, rfl, by decide⟩

/-- Lane 1 idle with its count at the standby time, its idle and on-time tests due. -/
def idling : State := { (with1 fun x => { x with
    queue := [], machine := { x.machine with idle := 600 } }) with due := { DueSteps.clear with idle := [0] } }

/-- Lane 1 CLOSED with a power-off pending whose on-time is reached, and the other expiries due. -/
def expiring : State := { (with1 fun x => { x with
    session := .closed, machine := { x.machine with powerOffPending := true } }) with
  due := { DueSteps.clear with deskSilence := true, onTime := [0], oldest := [0] } }

theorem witness_SecondExpiriesAct : idling.held = false ∧ (0 : LaneIx) ∈ idling.due.idle ∧ (idling.lane 0).idleRuns = true
    ∧ standbyTime (idling.pair (pairOf 0)).settings.standbyCode ≤ (idling.machine 0).idle ∧ idling.minOnElapsed 0 = true
    ∧ expiring.held = false ∧ expiring.due.deskSilence = true ∧ (0 : LaneIx) ∈ expiring.due.onTime
    ∧ (expiring.machine 0).powerOffPending = true ∧ expiring.minOnElapsed 0 = true ∧ (expiring.machine 0).state = .ready
    ∧ (expiring.lane 0).session = .closed ∧ (0 : PairIx) ∈ expiring.due.oldest := by decide

/-- A ball pending for lane 1's head, with the reads given. -/
def ball1 (reads : Nat) : PendingBall := ⟨⟨0, 1, 1, 1⟩, false, reads, false, false, false⟩

/-- Lane 1 with a ball at the settle. -/
def settling : State := machine1 fun m => { m with state := .ballDown, ball := some (ball1 0), timer := some ⟨.settle, 0, 25⟩ }

/-- Lane 1 between two reads. -/
def rereading : State := machine1 fun m => { m with state := .reading, ball := some (ball1 1), timer := some ⟨.reread, 0, 5⟩ }

/-- Lane 1 with a deck read in flight, and its command standing at the station. -/
def reading (reissued : Bool) (reads : Nat) : State :=
  ((machine1 fun m => { m with state := .reading, ball := some (ball1 reads), inFlight := some ⟨.readDeck reissued, 0, 20, none, none⟩
    }).modStation 0 fun t => { t with commandA := some ⟨255, .readDeck, true⟩, nextSeqA := 1 })

theorem witness_ReadTimersAct : settling.free ∧ (settling.machine 0).ball = some (ball1 0) ∧ (settling.machine 0).state = .ballDown
    ∧ (settling.machine 0).timer = some ⟨.settle, 0, 25⟩ ∧ rereading.free ∧ (rereading.machine 0).ball = some (ball1 1)
    ∧ (rereading.machine 0).state = .reading ∧ (rereading.machine 0).timer = some ⟨.reread, 0, 5⟩
    ∧ (reading false 1).free ∧ ((reading false 1).machine 0).ball = some (ball1 1)
    ∧ ((reading false 1).machine 0).inFlight = some ⟨.readDeck false, 0, 20, none, none⟩
    ∧ (reading true 3).free ∧ ((reading true 3).machine 0).state = .reading
    ∧ ((reading true 3).machine 0).inFlight = some ⟨.readDeck true, 0, 20, none, none⟩
    ∧ ((reading true 3).machine 0).removal = .unordered ∧ ((reading true 3).lane 0).health.policy = .report := by decide

/-- Lane 1 with a cycle in flight for its head. -/
def cycling (c : Cycle) : State := machine1 fun m => { m with
  state := .cycling, deck := .unknown, inFlight := some ⟨.cycle c, 0, 120, some ⟨0, 1, 1, 1⟩, some .newFrame⟩ }

/-- Lane 1 warming up with the deck given. -/
def waking (deck : Deck) (x : Lane) : Lane :=
  { x with machine := { x.machine with state := .waking, deck := deck, warmed := false, timer := some ⟨.warmUp, 0, 80⟩ } }

theorem witness_CycleTimeoutAndWarmUp :
    (∀ s ∈ [cycling .sweep, with1 (waking .unknown), noTurns.modLane 0 (waking .empty), noTurns.modLane 0 (waking .unknown)],
      s.free ∧ (s.machine 0).removal = .unordered ∧ (s.machine 0).powerOffPending = false)
    ∧ ((cycling .sweep).machine 0).state = .cycling ∧ ((cycling .sweep).lane 0).health.policy = .report
    ∧ ((with1 (waking .unknown)).machine 0).timer = some ⟨.warmUp, 0, 80⟩ ∧ ((with1 (waking .unknown)).machine 0).state = .waking
    ∧ (with1 (waking .unknown)).headNeed 0 = some .newFrame ∧ ((with1 (waking .unknown)).machine 0).deck ≠ .full
    ∧ (noTurns.modLane 0 (waking .empty)).headTurn 0 = none ∧ ((noTurns.modLane 0 (waking .empty)).machine 0).deck = .empty
    ∧ ((noTurns.modLane 0 (waking .unknown)).gate 0).blocks .sweep = false := by decide

/-- A STATUS answer of pair 1's station with one event. -/
def answering (n : Byte) (e : BusEvent) : StatusAnswer := ⟨1, 0, 0, false, some ⟨n, e⟩⟩

/-- playing with seven balls on pair 1's track. -/
def seventh : State := playing.modReturn 0 fun t => { t with track := List.replicate 7 ⟨0, .a, 0, .scored⟩ }

/-- playing with lane 2 WAITING on a sweep that the backlog of seven balls blocks, and a full rack. -/
def backlogged : State := ((playing.modReturn 0 fun t => { t with track := List.replicate 7 ⟨0, .a, 0, .scored⟩, rack := 10 }).modLane 0 fun x =>
  { x with gate := { x.gate with returnBacklog := some .epoch } }).modLane 1 fun x => { x with
    gate := { x.gate with returnBacklog := some .epoch }
    machine := { x.machine with state := .waiting, pendingCycle := some ⟨.sweep, false, none, none⟩ } }

theorem witness_BallsAndFoulsAreTaken :
    (∀ s ∈ [seventh, noTurns, inState .cycling], (awaiting .poll s).hears 0 (answering 1 (.ballAtDeck .a)) 1 (.ballAtDeck .a)
      ∧ fittedHas ((awaiting .poll s).station 0).fitted .a = true ∧ ((awaiting .poll s).ret 0).track.length < 8)
    ∧ (∀ s ∈ [playing, settling, noTurns], (awaiting .poll s).hears 0 (answering 1 (.foul .a)) 1 (.foul .a)
      ∧ fittedHas ((awaiting .poll s).station 0).fitted .a = true)
    ∧ (∀ s ∈ [playing, seventh, backlogged], (awaiting .poll s).hears 0 (answering 1 .ballAtRack) 1 .ballAtRack)
    ∧ (seventh.machine (laneOf 0 .a)).state = .ready ∧ seventh.headTurn (laneOf 0 .a) = some ⟨0, 1, 1, 1⟩
    ∧ (settling.machine (laneOf 0 .a)).state = .ballDown ∧ noTurns.headTurn (laneOf 0 .a) = none
    ∧ ((inState .cycling).machine (laneOf 0 .a)).state ≠ .ready ∧ (playing.ret 0).track = []
    ∧ (backlogged.ret 0).track = ⟨0, .a, 0, .scored⟩ :: List.replicate 6 ⟨0, .a, 0, .scored⟩
    ∧ (backlogged.ret 0).threshold + 2 < (backlogged.ret 0).rack + 1 ∧ backlogged.link.reports.length < 48
    ∧ (backlogged.gate 1).returnBacklog ≠ none ∧ (backlogged.machine 1).state = .waiting
    ∧ (backlogged.machine 1).pendingCycle = some ⟨.sweep, false, none, none⟩
    ∧ ((after (.statusAnswer (answering 1 .ballAtRack)) (awaiting .poll backlogged)).gate 1).blocks .sweep = false := by decide

/-- A deck image in which pin 7 rocks and the others are down. -/
def rocking : Vector PinState 10 := (Vector.replicate 10 .down).set 6 .unsettled

theorem witness_DeckImageRecordsTheBall :
    (∀ s ∈ [reading false 2, reading true 3],
      (awaiting .poll s).hears 0 (answering 1 (.deckImage .a 255 rocking)) 1 (.deckImage .a 255 rocking)
      ∧ fittedHas ((awaiting .poll s).station 0).fitted .a = true
      ∧ (((awaiting .poll s).station 0).command .a).map (·.seq) = some (255#8).toNat
      ∧ ((awaiting .poll s).machine (laneOf 0 .a)).state = .reading
      ∧ (awaiting .poll s).headTurn (laneOf 0 .a) = some ⟨0, 1, 1, 1⟩ ∧ (awaiting .poll s).gameOf ⟨0, 1, 1, 1⟩ = some game1)
    ∧ pinsIn .unsettled (imageFromStation .class2 rocking) ≠ 0#10 ∧ (ball1 2).reads < 3 ∧ 3 ≤ (ball1 3).reads
    ∧ ((reading false 2).machine (laneOf 0 .a)).ball = some (ball1 2) ∧ (ball1 3).orphan = false ∧ (ball1 3).turn.frame < 10
    ∧ ((reading true 3).machine (laneOf 0 .a)).ball = some (ball1 3) := by decide

/-- R44: on the third read a rocking pin is counted standing. -/
theorem test_third_read :
    let t := after (.statusAnswer (answering 1 (.deckImage .a 255 rocking))) (awaiting .poll (reading true 3))
    ((t.gameOf ⟨0, 1, 1, 1⟩).map fun g => (g.frame 1).balls.map fun x => (x.pinfall, x.after, x.check))
      = some [(9, some (pinsOf [7]), .open_)] := by decide +kernel

/-- R102, R121: the ball of a closed session is read, and its STRAY_BALL carries the state at its detection. -/
theorem test_orphan_ball :
    let closed := (reading false 1).modLane 0 fun x => { x with
      session := .closed, queue := [], machine := { x.machine with ball := some { ball1 1 with orphan := true } } }
    let t := after (.statusAnswer (answering 1 (.deckImage .a 255 (Vector.replicate 10 .down)))) (awaiting .poll closed)
    t.link.reports = [.powerUp 0x0A 16 1 0, .strayBall 0 .ready .sessionClosed] ∧ (t.machine 0).cycleInFlight = some .sweep := by
  decide +kernel

/-- R42: lane 2 of an ALTERNATE pair closes; lane 1's turn comes home to it. -/
theorem test_close_of_an_alternate_lane :
    let t := after (.closeSession true 2) (asked .closeSession crossed)
    (t.lane 0).queue = [⟨0, 1, 1, 1⟩] ∧ (t.lane 1).queue = [] ∧ (t.lane 0).startLane = 0 ∧ (t.pair 0).mode = .separate := by
  decide +kernel

theorem game1_frame (n : Nat) : game1.frame n = .initial := by
  match n with
  | 0 | 1 | 2 | 3 | 4 | 5 | 6 | 7 | 8 | 9 | 10 => rfl
  | n + 11 => simp [Game.frame, game1, Game.start]

/-- A record whose frame 10 has the cumulative total 300. -/
def game300 : Game := game1.modFrame 10 fun f => { f with cumulative := some 300 }

theorem witness_ScoresStayInRange : game1.scoresSound ∧ (nextDue 1 (game1.frame 1).balls).isSome = true
    ∧ (nextDue 10 (game1.frame 10).balls).isSome = true ∧ validFrame 10 [⟨10, false⟩, ⟨10, false⟩, ⟨10, false⟩] = true
    ∧ validFrame 1 [⟨10, false⟩] = true ∧ game300.scoresSound ∧ game300.scratch = some 300 := by
  refine ⟨fun n _ _ => ?_, by decide, by decide, by decide, by decide, fun n h1 h2 => ?_, by decide⟩
  · rw [game1_frame]; simp [Frame.scoresSound, Frame.initial, pinfallSum]
  · have h : game300.frame n = { Frame.initial with cumulative := if n = 10 then some 300 else none } := by
      interval_cases n <;> rfl
    rw [h]; simp only [Frame.scoresSound, Frame.initial, pinfallSum]; aesop

/-- Lane 1 with a cycle in flight for its head, and its command standing at the station. -/
def cycleOut (c : Cycle) (s : State) : State :=
  ((s.modMachine 0 fun m => { m with state := .cycling, inFlight := some ⟨.cycle c, 0, 120, some ⟨0, 1, 1, 1⟩, some .newFrame⟩ }).modStation
    0 fun t => { t with commandA := some ⟨255, c.command, true⟩ })

/-- Lane 1's bowler a ball into frame 1. -/
def midFrame : State := bowled begun

theorem witness_CyclesDoneAndJamsAreTaken :
    (∀ s ∈ [cycleOut (.fullRack .newFrame) playing, cycleOut (.fullRack .newFrame) midFrame, cycleOut (.fullRack .newFrame) noTurns,
        cycleOut .sweep noTurns, cycleOut .sweep playing, cycleOut .recover playing],
      (awaiting .poll s).hears 0 (answering 1 (.cycleDone .a 255 0)) 1 (.cycleDone .a 255 0)
      ∧ fittedHas ((awaiting .poll s).station 0).fitted .a = true
      ∧ (((awaiting .poll s).station 0).command .a).map (·.seq) = some (255#8).toNat
      ∧ (s.machine (laneOf 0 .a)).state = .cycling ∧ (s.machine 0).removal = .unordered ∧ (s.machine 0).powerOffPending = false
      ∧ (s.lane 0).health.policy = .report ∧ s.link.reports.length < 40)
    ∧ ((cycleOut .sweep playing).machine (laneOf 0 .a)).inFlight = some ⟨.cycle .sweep, 0, 120, some ⟨0, 1, 1, 1⟩, some .newFrame⟩
    ∧ (0 : PinSet) ≠ (Cycle.fullRack .newFrame).commanded
    ∧ playing.headTurn 0 = some ⟨0, 1, 1, 1⟩ ∧ playing.headNeed 0 = some .newFrame
    ∧ midFrame.headNeed 0 = some (.nextBall (pinsOf [7])) ∧ noTurns.headTurn 0 = none
    ∧ (∀ s ∈ [playing, jammed], (awaiting .poll s).hears 0 (answering 1 (.machineJam .a .motor)) 1 (.machineJam .a .motor)
      ∧ fittedHas ((awaiting .poll s).station 0).fitted .a = true ∧ s.link.reports.length < 40)
    ∧ (playing.machine 0).removal = .unordered ∧ (jammed.machine (laneOf 0 .a)).state = .jammed := by decide

/-- R110: a rack issued for a bowler who begins a frame does not serve a head who is mid-frame. -/
theorem test_rack_for_another_need :
    ((after (.statusAnswer (answering 1 (.cycleDone .a 255 fullRack))) (awaiting .poll (cycleOut (.fullRack .newFrame) midFrame))).machine
      0).cycleInFlight = some (.respot (pinsOf [7])) := by decide

/-- playing with exchanges due. -/
def busDue (due : List DueExchange) : State := { playing with bus := { playing.bus with due := due } }

theorem witness_BusTimersAndPolls : playing.free ∧ playing.bus.passing = false ∧ resetting.free ∧ (resetting.station 0).state = .resetting
    ∧ (resetting.station 0).holding = true ∧ (awaiting .poll playing).free ∧ (awaiting .poll playing).bus.exchange ≠ none
    ∧ playing.bus.exchange = none ∧ (busDue [⟨0, .probe .reprobe⟩]).bus.due = ⟨0, .probe .reprobe⟩ :: []
    ∧ (busDue [⟨0, .resetPoll 3⟩]).bus.due = ⟨0, .resetPoll 3⟩ :: [] ∧ (busDue [⟨0, .darkPoll⟩]).bus.due = ⟨0, .darkPoll⟩ :: []
    ∧ ((busDue [⟨0, .darkPoll⟩]).station 0).state.polled = true ∧ playing.bus.due = []
    ∧ playing.nextPolled playing.bus.lastPolled = some 0 := by decide

/-- R94: where a station reports events lost, its PROBE takes the place of a DARK poll due; unanswered, one PROBE is due
again. -/
theorem test_events_lost_probe :
    let t := after (.statusAnswer ⟨1, 0, 0, true, none⟩) (awaiting .poll (busDue [⟨0, .darkPoll⟩]))
    t.bus.due = [⟨0, .probe .eventsLost⟩] ∧ (t.station 0).probeOwed = true
    ∧ (after .answerWindowExpiry (after .sendProbe t)).bus.due = [⟨0, .probe .eventsLost⟩]
    ∧ ((after .answerWindowExpiry (after .sendProbe t)).station 0).missed = 1 := by decide +kernel

/-- playing with pair 1's station LOST and lane 1 LINK_LOST. -/
def lostStation : State := (machine1 fun m => { m with state := .linkLost }).modStation 0 fun t => { t with state := .lost }

/-- The answer of a class-1 station with both lanes fitted, a full rack and its power off. -/
def hello : HelloAnswer := ⟨1, .class1, .both, 15, .off, .off⟩

/-- Lane 1's machine and power order after its LOST station answers a re-probe with power OFF. -/
def returned (f : MachineRec → MachineRec) : State := after (.helloAnswer hello) (awaiting (.probe .reprobe) (lostStation.modMachine 0 f))

/-- R100, R120: JAMMED and READING have the power order ON, also where the HELLO answer reported OFF. -/
theorem test_return_power : ∀ t ∈ [(returned fun m => { m with jamStanding := true }, MachineState.jammed),
    (returned fun m => { m with ball := some (ball1 1) }, MachineState.reading)],
    (t.1.machine 0).state = t.2 ∧ t.1.powerOrder 0 = .on ∧ (t.1.machine 0).warmed = false := by decide +kernel

/-- R120: the kept ball read, a machine reported OFF goes to POWERED_DOWN, and stays there with no head. -/
theorem test_return_power_after_the_ball :
    let t := (returned fun m => { m with ball := some { ball1 1 with orphan := true } }).modLane 0 fun x => { x with queue := [] }
    let u := t.afterBall 0 .frameOver true true
    (u.machine 0).state = .poweredDown ∧ u.powerOrder 0 = .off := by decide +kernel

theorem witness_AnswersMissedAndHello :
    (awaiting .poll playing).free ∧ (awaiting .poll playing).bus.exchange = some ⟨0, .poll⟩
    ∧ ((awaiting .poll playing).station 0).state.polled = true ∧ ((awaiting .poll playing).station 0).missed + 1 < 3
    ∧ ((awaiting .poll playing).station 0).probeOwed = false
    ∧ (awaiting .poll (playing.modStation 0 fun t => { t with missed := 2 })).free
    ∧ 3 ≤ ((awaiting .poll (playing.modStation 0 fun t => { t with missed := 2 })).station 0).missed + 1
    ∧ hello.address = pairNumber 0 ∧ (awaiting (.probe .discovery) State.reset).free
    ∧ (awaiting (.probe .discovery) State.reset).bus.exchange = some ⟨0, .probe .discovery⟩ ∧ (0 : PairIx) ≠ 7
    ∧ ((awaiting (.probe .discovery) State.reset).station 0).state = .absent
    ∧ (awaiting (.probe .reprobe) lostStation).free ∧ (awaiting (.probe .reprobe) lostStation).bus.exchange = some ⟨0, .probe .reprobe⟩
    ∧ ((awaiting (.probe .reprobe) lostStation).station 0).state = .lost
    ∧ ((awaiting (.probe .reprobe) lostStation).station 0).ordersOwed = false
    ∧ fittedHas hello.fitted .b = true ∧ reportedPower hello .b = .off ∧ lostStation.headTurn (laneOf 0 .b) = none
    ∧ (lostStation.modMachine 1 fun m => { m with state := .linkLost }).headTurn (laneOf 0 .b) = none
    ∧ ((lostStation.modMachine 1 fun m => { m with state := .linkLost }).machine (laneOf 0 .b)).state = .linkLost
    ∧ ((lostStation.modMachine 1 fun m => { m with state := .linkLost }).machine (laneOf 0 .b)).ball = none
    ∧ ((lostStation.modMachine 1 fun m => { m with state := .linkLost }).machine (laneOf 0 .b)).jamStanding = false
    ∧ ((lostStation.modMachine 1 fun m => { m with state := .linkLost }).machine (laneOf 0 .b)).service = .in_ := by decide

theorem witness_BallTakenLowersTheRack :
    (∀ s ∈ [playing, playing.modReturn 0 fun t => { t with rack := 8 }],
      (awaiting .poll s).hears 0 (answering 1 .ballTaken) 1 .ballTaken) ∧ (playing.ret 0).rack = 0
    ∧ 0 < ((playing.modReturn 0 fun t => { t with rack := 8 }).ret 0).rack := by decide

/-- R98: the head pin of a class-1 station and back. -/
theorem test_wiring : setFromStation .class1 (setToStation .class1 (pinsOf [1, 7])) = pinsOf [1, 7] := by decide

/-- A queue of 48 NOTICE reports. -/
def full48 : Link := { State.reset.link with reports := List.replicate 48 (.deskBack .epoch .epoch) }

theorem witness_FullQueueDropsTheLeastUrgent : (State.reset.link.reports.map Report.rank).Pairwise (· ≤ ·)
    ∧ State.reset.link.reports.length < 48 ∧ (full48.reports.map Report.rank).Pairwise (· ≤ ·) ∧ full48.reports.length = 48
    ∧ full48.reports = List.replicate 47 (.deskBack .epoch .epoch) ++ [.deskBack .epoch .epoch]
    ∧ (Report.deskBack .epoch .epoch).rank ≤ (Report.bandChange ⟨.weekday, ⟨0, 0, 0⟩⟩).rank
    ∧ (Report.deskLost .epoch 60).rank < (Report.deskBack .epoch .epoch).rank := by
  refine ⟨by decide, by decide, ?_, by decide, by decide, by decide, by decide⟩
  simp [full48]

/-! ### The invariants at a lane that plays, with a step from it -/

/-- playing with a second event waiting. -/
def ticking : State := { playing with pending := [.secondEvent] }

theorem ticking_steps : ∃ t, step ticking = .next t := ⟨_, rfl⟩

theorem witness_StepsKeepTheLinkSound : ticking.linkSound := by
  unfold State.linkSound Link.sound; decide

theorem witness_StepsKeepTheAccountsSound : ticking.accountsSound := by
  have h : ∀ l : LaneIx, ∀ a ∈ (ticking.lane l).account.toList, a.sound l := by unfold Account.sound; decide
  exact fun l a ha => h l a (by simp [ha])

theorem witness_StepsKeepTheMachinesSound : ticking.machinesSound := by
  unfold State.machinesSound MachineRec.sound; decide

theorem witness_StepsKeepTheTurnsSound : ticking.turnsSound := by
  unfold State.turnsSound State.turnSound State.unbowled State.startsAtHome; decide +kernel

theorem witness_StepsKeepThePlaySound : ticking.playSound := playing_sound

theorem witness_StepsKeepTheStationsSound : ticking.stationsSound := by
  unfold State.stationsSound Station.sound; decide

theorem witness_StepsKeepTheDarkStations : ticking.darkSound := by
  unfold State.darkSound; decide

theorem witness_RequestsStayInTheirPair :
    requestNamed (.holdLane true 1) = some (.holdLane, true, true, 1) ∧ (asked .holdLane playing).free
    ∧ (asked .holdLane playing).startsAtHome
    ∧ exec (.holdLane true 1) (asked .holdLane playing) = .next (after (.holdLane true 1) (asked .holdLane playing))
    ∧ numberedPair true 1 ≠ some (pairOf 2) :=
  ⟨rfl, by decide, by unfold State.startsAtHome; decide, rfl, by decide⟩
end Sys2Proof.Tests
end

section
/-! SUPPORT. The gates, where the Pinsetter Supervisor acts, and the part of the state that the invariant of play reads:
each operation that keeps the one or the other, said once. -/

namespace Sys2Proof.Machine

/-! ### Where a change is made -/

theorem State.when_cases (c : Bool) (f : State → State) (s : State) : s.when c f = f s ∨ s.when c f = s := by
  cases c
  · exact .inr rfl
  · exact .inl rfl

/-- What every application of f keeps, a run of f over a list keeps. -/
theorem State.each_keeps {α β : Type} (g : State → β) (xs : List α) (f : α → State → State)
    (h : ∀ x ∈ xs, ∀ s, g (f x s) = g s) (s : State) : g (s.each xs f) = g s := by
  unfold State.each
  induction xs generalizing s with
  | nil => rfl
  | cons x xs ih =>
    rw [List.foldl_cons, ih fun y hy => h y (List.mem_cons_of_mem x hy), h x List.mem_cons_self]

/-- A predicate that every application of f preserves holds after a run of f over a list. -/
theorem State.each_preserves {α : Type} (P : State → Prop) (xs : List α) (f : α → State → State)
    (h : ∀ x ∈ xs, ∀ s, P s → P (f x s)) (s : State) (hs : P s) : P (s.each xs f) := by
  unfold State.each
  induction xs generalizing s with
  | nil => exact hs
  | cons x xs ih => exact ih (fun y hy => h y (List.mem_cons_of_mem x hy)) _ (h x List.mem_cons_self s hs)

theorem State.when_preserves (P : State → Prop) (c : Bool) (f : State → State) (s : State) (hs : P s) (h : c = true → P s → P (f s)) :
    P (s.when c f) := by
  cases c
  · exact hs
  · exact h rfl hs

/-! ### The gates under the Pinsetter Supervisor -/

@[simp] theorem gate_modLane (s : State) (l k : LaneIx) (f : Lane → Lane) (h : (f (s.lane l)).gate = (s.lane l).gate) :
    (s.modLane l f).gate k = s.gate k := by
  by_cases e : k = l
  · simp [State.gate, e, h]
  · simp [State.gate, State.lane_modLane_ne _ _ _ _ e]

@[simp] theorem gate_modMachine (s : State) (l k : LaneIx) (f : MachineRec → MachineRec) : (s.modMachine l f).gate k = s.gate k :=
  gate_modLane s l k _ rfl

@[simp] theorem gate_modPair (s : State) (p : PairIx) (f : Pair → Pair) (k : LaneIx) : (s.modPair p f).gate k = s.gate k := rfl
@[simp] theorem gate_modStation (s : State) (p : PairIx) (f : Station → Station) (k : LaneIx) :
    (s.modStation p f).gate k = s.gate k := rfl
@[simp] theorem gate_modLink (s : State) (f : Link → Link) (k : LaneIx) : (s.modLink f).gate k = s.gate k := rfl
@[simp] theorem gate_report (s : State) (r : Report) (k : LaneIx) : (s.report r).gate k = s.gate k := rfl
@[simp] theorem gate_setStation (s : State) (p : PairIx) (st : StationState) (k : LaneIx) :
    (s.setStation p st).gate k = s.gate k := rfl
@[simp] theorem gate_setPower (s : State) (l k : LaneIx) (o : Power) : (s.setPower l o).gate k = s.gate k := rfl

@[simp] theorem gate_when (s : State) (c : Bool) (f : State → State) (k : LaneIx) (h : (f s).gate k = s.gate k) :
    (s.when c f).gate k = s.gate k := by
  obtain e | e := State.when_cases c f s <;> rw [e]
  exact h

@[simp] theorem gate_handCommand (s : State) (l k : LaneIx) (c : BusCommand) : (s.handCommand l c).gate k = s.gate k := by
  simp only [State.handCommand]
  split <;> rfl

@[simp] theorem gate_darkTest (s : State) (p : PairIx) (k : LaneIx) : (s.darkTest p).gate k = s.gate k := by
  unfold State.darkTest
  repeat' split
  all_goals rfl

@[simp] theorem gate_enterSilent (s : State) (l k : LaneIx) (st : MachineState) : (s.enterSilent l st).gate k = s.gate k := by
  simp [State.enterSilent]
@[simp] theorem gate_enter (s : State) (l k : LaneIx) (st : MachineState) : (s.enter l st).gate k = s.gate k := by
  simp [State.enter]
@[simp] theorem gate_startTimer (s : State) (l k : LaneIx) (t : TimerKind) (n : Nat) : (s.startTimer l t n).gate k = s.gate k := by
  simp [State.startTimer]
@[simp] theorem gate_issueRead (s : State) (l k : LaneIx) (again : Bool) : (s.issueRead l again).gate k = s.gate k := by
  simp [State.issueRead]
@[simp] theorem gate_issueCycle (s : State) (l k : LaneIx) (c : Cycle) (turn : Option Turn) (need : Option Need) :
    (s.issueCycle l c turn need).gate k = s.gate k := by
  simp [State.issueCycle]
@[simp] theorem gate_holdCycle (s : State) (l k : LaneIx) (c : Cycle) (served : Bool) :
    (s.holdCycle l c served).gate k = s.gate k := by
  simp [State.holdCycle]
@[simp] theorem gate_makeReady (s : State) (l k : LaneIx) : (s.makeReady l).gate k = s.gate k := by simp [State.makeReady]
@[simp] theorem gate_makeEmpty (s : State) (l k : LaneIx) : (s.makeEmpty l).gate k = s.gate k := by simp [State.makeEmpty]

@[simp] theorem gate_startCycle (s : State) (l k : LaneIx) (c : Cycle) : (s.startCycle l c).gate k = s.gate k := by
  unfold State.startCycle
  split <;> simp

@[simp] theorem gate_serve (s : State) (l k : LaneIx) (c : Cycle) : (s.serve l c).gate k = s.gate k := by
  unfold State.serve
  split <;> simp

@[simp] theorem gate_cutPower (s : State) (l k : LaneIx) : (s.cutPower l).gate k = s.gate k := by simp [State.cutPower]
@[simp] theorem gate_forgetDeck (s : State) (l k : LaneIx) : (s.forgetDeck l).gate k = s.gate k := by simp [State.forgetDeck]
@[simp] theorem gate_powerDown (s : State) (l k : LaneIx) : (s.powerDown l).gate k = s.gate k := by simp [State.powerDown]

@[simp] theorem gate_idlePowerOff (s : State) (l k : LaneIx) : (s.idlePowerOff l).gate k = s.gate k := by
  unfold State.idlePowerOff
  split <;> simp

@[simp] theorem gate_serviceOut (s : State) (l k : LaneIx) : (s.serviceOut l).gate k = s.gate k := by simp [State.serviceOut]
@[simp] theorem gate_sendPowerOn (s : State) (l k : LaneIx) : (s.sendPowerOn l).gate k = s.gate k := by simp [State.sendPowerOn]
@[simp] theorem gate_wake (s : State) (l k : LaneIx) : (s.wake l).gate k = s.gate k := by simp [State.wake]
@[simp] theorem gate_wakeForHead (s : State) (l k : LaneIx) : (s.wakeForHead l).gate k = s.gate k := by simp [State.wakeForHead]

@[simp] theorem gate_rest (s : State) (l k : LaneIx) : (s.rest l).gate k = s.gate k := by
  simp only [State.rest]
  repeat' split
  all_goals simp

@[simp] theorem gate_follow (s : State) (l k : LaneIx) (d : Derived) : (s.follow l d).gate k = s.gate k := by
  unfold State.follow
  cases d <;> simp

@[simp] theorem gate_derive (s : State) (l k : LaneIx) : (s.derive l).gate k = s.gate k := by simp [State.derive]

@[simp] theorem gate_afterBall (s : State) (l k : LaneIx) (need : Need) (orphan onReturn : Bool) :
    (s.afterBall l need orphan onReturn).gate k = s.gate k := by
  simp only [State.afterBall]
  repeat' split
  all_goals simp

@[simp] theorem gate_headTold (s : State) (l k : LaneIx) : (s.headTold l).gate k = s.gate k := by
  unfold State.headTold
  split <;> simp

/-- The issue of a cycle that the gate held leaves the gate as the clearing event made it. -/
@[simp] theorem gate_release (s : State) (l k : LaneIx) : (s.release l).gate k = s.gate k := by
  unfold State.release
  repeat' split
  all_goals simp

@[simp] theorem gate_removalOrder (s : State) (l k : LaneIx) : (s.removalOrder l).gate k = s.gate k := by
  simp only [State.removalOrder]
  repeat' split
  all_goals simp

@[simp] theorem gate_outcome (s : State) (l k : LaneIx) (o : CycleOutcome) : (s.outcome l o).gate k = s.gate k := by
  simp only [State.outcome, State.testLane]
  exact (State.each_keeps (fun s : State => s.gate k) _ State.report (fun _ _ _ => rfl) _).trans (by simp)

@[simp] theorem gate_jam (s : State) (l k : LaneIx) (cause : JamCause) : (s.jam l cause).gate k = s.gate k := by simp [State.jam]

@[simp] theorem gate_machineJam (s : State) (l k : LaneIx) (source : JamSource) : (s.machineJam l source).gate k = s.gate k := by
  unfold State.machineJam
  split <;> simp

@[simp] theorem gate_foul (s : State) (l k : LaneIx) : (s.foul l).gate k = s.gate k := by
  unfold State.foul
  split <;> simp

@[simp] theorem gate_moveOn (s : State) (l k : LaneIx) (c : Cycle) (turn : Option Turn) (need : Option Need) :
    (s.moveOn l c turn need).gate k = s.gate k := by
  unfold State.moveOn
  repeat' split
  all_goals simp

@[simp] theorem gate_cycleDone (s : State) (l k : LaneIx) (set : PinSet) : (s.cycleDone l set).gate k = s.gate k := by
  simp only [State.cycleDone]
  repeat' split
  all_goals simp

@[simp] theorem gate_loseLane (s : State) (l k : LaneIx) (silent : Bool) : (s.loseLane silent l).gate k = s.gate k := by
  simp only [State.loseLane]
  split <;> simp

@[simp] theorem gate_dropInHand (s : State) (l k : LaneIx) : (s.dropInHand l).gate k = s.gate k := by simp [State.dropInHand]

@[simp] theorem gate_returnLane (s : State) (l k : LaneIx) (power : Power) : (s.returnLane l power).gate k = s.gate k := by
  simp only [State.returnLane]
  repeat' split
  all_goals simp

/-- A reason raised changes the gate of its own lane alone, and there that reason alone. -/
theorem gate_raiseReason (s : State) (l k : LaneIx) (r : Reason) (t : DateTime) :
    (s.raiseReason r t l).gate k = if k = l ∧ (s.gate l).has r = false then (s.gate l).put r (some t) else s.gate k := by
  unfold State.raiseReason
  by_cases h : (s.gate l).has r
  · simp [h]
  · rw [if_neg h]
    by_cases e : k = l
    · subst e
      simp only [State.gate, Bool.not_eq_true] at h
      simp [State.gate, h]
    · simp [e, State.gate, State.lane_modLane_ne _ _ _ _ e]

/-- A reason cleared changes the gate of its own lane alone, and there that reason alone. -/
theorem gate_clearReason (s : State) (l k : LaneIx) (r : Reason) :
    (s.clearReason r l).gate k = if k = l ∧ (s.gate l).has r = true then (s.gate l).put r none else s.gate k := by
  unfold State.clearReason
  by_cases h : (s.gate l).has r
  · by_cases e : k = l
    · subst e
      simp only [h, if_true, gate_release, and_self]
      simp [State.gate]
    · simp only [h, if_true, gate_release, e, false_and, if_false]
      simp [State.gate, State.lane_modLane_ne _ _ _ _ e]
  · simp [h]

end Sys2Proof.Machine
end

section
/-! SUPPORT. What the invariant of play reads of the state, playPart: of each lane its session, boundary mark, start lane
and the presence of the reasons with a condition; of each pair its return record but for its counts; the hold and the
desk-lost state. playSound is a condition on it alone, and most operations keep it. -/

namespace Sys2Proof.Machine

/-- What playSound reads of one lane. -/
@[ext] structure LanePlay where
  session : SessionState
  boundary : Boundary
  startLane : LaneIx
  noSession : Bool
  returnJam : Bool
  deskHold : Bool
  returnBacklog : Bool

/-- A lane's part of play. -/
def Lane.play (x : Lane) : LanePlay :=
  { session := x.session, boundary := x.boundary, startLane := x.startLane, noSession := x.gate.noSession.isSome
    returnJam := x.gate.returnJam.isSome, deskHold := x.gate.deskHold.isSome, returnBacklog := x.gate.returnBacklog.isSome }

/-- A return record without the fields that no law of section 8 ranges over. -/
def ReturnRec.play (t : ReturnRec) : ReturnRec := { t with outOfReach := true, oldest := 0, nextSeq := 0 }

/-- What playSound reads of the state. -/
@[ext] structure PlayPart where
  lanes : LaneIx → LanePlay
  rets : PairIx → ReturnRec
  hold : Bool
  lost : Bool

/-- The part of play of a state. -/
def State.playPart (s : State) : PlayPart :=
  { lanes := fun l => (s.lane l).play, rets := fun p => (s.ret p).play, hold := s.hold, lost := s.link.lost.isSome }

/-- gateSound of a lane and its start lane at home, over its part of play and its pair's return record. -/
structure LanePlay.sound (x : LanePlay) (l : LaneIx) (t : ReturnRec) : Prop where
  noSession : x.noSession = true ↔ x.session = .closed
  returnJam : x.returnJam = true ↔ t.jamStanding = true
  returnBacklog : x.returnBacklog = true ↔ 7 ≤ t.track.length
  deskHold : x.deskHold = true → x.session ≠ .closed
  reached : x.boundary = .reached → x.session = .open_
  home : pairOf x.startLane = pairOf l

/-- playSound over the part of play. -/
structure PlayPart.sound (P : PlayPart) : Prop where
  lanes : ∀ l, (P.lanes l).sound l (P.rets (pairOf l))
  rets : ∀ p, (P.rets p).sound
  hold : P.hold = P.lost

theorem playSound_iff (s : State) : s.playSound ↔ s.playPart.sound := by
  constructor
  · rintro ⟨gates, rets, home, hold⟩
    refine ⟨fun l => ?_, rets, hold⟩
    obtain ⟨noSession, returnJam, returnBacklog, deskHold, reached⟩ := gates l
    exact ⟨noSession, returnJam, returnBacklog, deskHold, reached, home l⟩
  · rintro ⟨lanes, rets, hold⟩
    exact ⟨fun l => ⟨(lanes l).noSession, (lanes l).returnJam, (lanes l).returnBacklog, (lanes l).deskHold, (lanes l).reached⟩, rets,
      fun l => (lanes l).home, hold⟩

theorem playSound_of_playPart {s t : State} (h : t.playPart = s.playPart) (hs : s.playSound) : t.playSound := by
  rw [playSound_iff] at hs ⊢
  rwa [h]

theorem lane_of_playPart {s t : State} (h : t.playPart = s.playPart) (l : LaneIx) : (t.lane l).play = (s.lane l).play :=
  congrFun (congrArg PlayPart.lanes h) l

theorem boundary_of_playPart {s t : State} (h : t.playPart = s.playPart) (l : LaneIx) : (t.lane l).boundary = (s.lane l).boundary :=
  congrArg LanePlay.boundary (lane_of_playPart h l)

theorem startLane_of_playPart {s t : State} (h : t.playPart = s.playPart) (l : LaneIx) :
    (t.lane l).startLane = (s.lane l).startLane :=
  congrArg LanePlay.startLane (lane_of_playPart h l)

/-! ### The updates -/

@[simp] theorem playPart_modLane (s : State) (l : LaneIx) (f : Lane → Lane) (h : (f (s.lane l)).play = (s.lane l).play) :
    (s.modLane l f).playPart = s.playPart := by
  ext k : 2
  · by_cases e : k = l
    · subst e
      simpa [State.playPart] using h
    · simp [State.playPart, State.lane_modLane_ne _ _ _ _ e]
  all_goals rfl

@[simp] theorem playPart_modMachine (s : State) (l : LaneIx) (f : MachineRec → MachineRec) :
    (s.modMachine l f).playPart = s.playPart := playPart_modLane s l _ rfl
@[simp] theorem playPart_modAccount (s : State) (l : LaneIx) (f : Account → Account) :
    (s.modAccount l f).playPart = s.playPart := playPart_modLane s l _ rfl
@[simp] theorem playPart_modGame (s : State) (home : LaneIx) (slot number : Nat) (f : Game → Game) :
    (s.modGame home slot number f).playPart = s.playPart := playPart_modLane s home _ rfl
@[simp] theorem playPart_modBowlerOf (s : State) (l : LaneIx) (slot : Nat) (f : Bowler → Bowler) :
    (s.modBowlerOf l slot f).playPart = s.playPart := playPart_modLane s l _ rfl
@[simp] theorem playPart_setQueue (s : State) (l : LaneIx) (q : List Turn) : (s.setQueue l q).playPart = s.playPart :=
  playPart_modLane s l _ (by dsimp only; split <;> rfl)

@[simp] theorem playPart_modPair (s : State) (p : PairIx) (f : Pair → Pair) (h : (f (s.pair p)).ret.play = (s.pair p).ret.play) :
    (s.modPair p f).playPart = s.playPart := by
  ext q : 2
  case rets =>
    by_cases e : q = p
    · subst e
      simpa [State.playPart, State.ret] using h
    · simp [State.playPart, State.ret, State.pair_modPair_ne _ _ _ _ e]
  all_goals rfl

@[simp] theorem playPart_modStation (s : State) (p : PairIx) (f : Station → Station) : (s.modStation p f).playPart = s.playPart :=
  playPart_modPair s p _ rfl
@[simp] theorem playPart_modReturn (s : State) (p : PairIx) (f : ReturnRec → ReturnRec) (h : (f (s.ret p)).play = (s.ret p).play) :
    (s.modReturn p f).playPart = s.playPart := playPart_modPair s p _ h
@[simp] theorem playPart_dropPending (s : State) (p : PairIx) : (s.dropPending p).playPart = s.playPart := playPart_modPair s p _ rfl

@[simp] theorem playPart_modLink (s : State) (f : Link → Link) (h : (f s.link).lost.isSome = s.link.lost.isSome) :
    (s.modLink f).playPart = s.playPart := by
  ext : 1
  case lost => exact h
  all_goals rfl

@[simp] theorem playPart_report (s : State) (r : Report) : (s.report r).playPart = s.playPart := playPart_modLink s _ (by simp)
@[simp] theorem playPart_changeMode (s : State) (p : PairIx) (m : PairMode) (c : ModeCause) :
    (s.changeMode p m c).playPart = s.playPart :=
  (playPart_report _ _).trans (playPart_modPair s p _ rfl)
@[simp] theorem playPart_modBus (s : State) (f : Bus → Bus) : (s.modBus f).playPart = s.playPart := rfl

@[simp] theorem playPart_when (s : State) (c : Bool) (f : State → State) (h : (f s).playPart = s.playPart) :
    (s.when c f).playPart = s.playPart := by
  obtain e | e := State.when_cases c f s <;> rw [e]
  exact h

theorem playPart_each {α : Type} (xs : List α) (f : α → State → State) (h : ∀ x s, (f x s).playPart = s.playPart) (s : State) :
    (s.each xs f).playPart = s.playPart :=
  State.each_keeps State.playPart xs f (fun x _ => h x) s

@[simp] theorem playPart_darkTest (s : State) (p : PairIx) : (s.darkTest p).playPart = s.playPart := by
  unfold State.darkTest
  repeat' split
  all_goals simp [State.setStation]

@[simp] theorem playPart_advance (s : State) (n : Nat) : (s.advance n).playPart = s.playPart := by
  ext q : 2
  case rets =>
    obtain ⟨left, e⟩ := s.advance_pair n q
    simp [State.playPart, State.ret, e]
  all_goals rfl

/-! ### The Pinsetter Supervisor -/

theorem playPart_of_outside {l : LaneIx} {s t : State} (h : t.outside l = s.outside l) (g : t.gate l = s.gate l) :
    t.playPart = s.playPart := by
  ext k : 2
  case lanes =>
    by_cases e : k = l
    · subst e
      refine (congrArg Lane.play (lane_self_of_outside h)).trans ?_
      simp only [Lane.play, g]
      rfl
    · simp [State.playPart, lane_of_outside h e]
  case rets =>
    by_cases e : k = pairOf l
    · subst e
      exact (congrArg (fun x : Pair => x.ret.play) (pair_self_of_outside h)).trans rfl
    · simp [State.playPart, State.ret, pair_of_outside h e]
  case hold => rw [State.playPart, rest_of_outside h]; rfl
  case lost => exact (congrArg (fun k : Link => k.lost.isSome) (link_of_outside h)).trans rfl

@[simp] theorem playPart_enterSilent (s : State) (l : LaneIx) (st : MachineState) : (s.enterSilent l st).playPart = s.playPart :=
  playPart_of_outside (l := l) (by simp) (by simp)
@[simp] theorem playPart_enter (s : State) (l : LaneIx) (st : MachineState) : (s.enter l st).playPart = s.playPart :=
  playPart_of_outside (l := l) (by simp) (by simp)
@[simp] theorem playPart_startTimer (s : State) (l : LaneIx) (k : TimerKind) (n : Nat) : (s.startTimer l k n).playPart = s.playPart :=
  playPart_of_outside (l := l) (by simp) (by simp)
@[simp] theorem playPart_issueRead (s : State) (l : LaneIx) (again : Bool) : (s.issueRead l again).playPart = s.playPart :=
  playPart_of_outside (l := l) (by simp) (by simp)
@[simp] theorem playPart_startCycle (s : State) (l : LaneIx) (c : Cycle) : (s.startCycle l c).playPart = s.playPart :=
  playPart_of_outside (l := l) (by simp) (by simp)
@[simp] theorem playPart_forgetDeck (s : State) (l : LaneIx) : (s.forgetDeck l).playPart = s.playPart :=
  playPart_of_outside (l := l) (by simp) (by simp)
@[simp] theorem playPart_powerDown (s : State) (l : LaneIx) : (s.powerDown l).playPart = s.playPart :=
  playPart_of_outside (l := l) (by simp) (by simp)
@[simp] theorem playPart_idlePowerOff (s : State) (l : LaneIx) : (s.idlePowerOff l).playPart = s.playPart :=
  playPart_of_outside (l := l) (by simp) (by simp)
@[simp] theorem playPart_serviceOut (s : State) (l : LaneIx) : (s.serviceOut l).playPart = s.playPart :=
  playPart_of_outside (l := l) (by simp) (by simp)
@[simp] theorem playPart_wake (s : State) (l : LaneIx) : (s.wake l).playPart = s.playPart :=
  playPart_of_outside (l := l) (by simp) (by simp)
@[simp] theorem playPart_wakeForHead (s : State) (l : LaneIx) : (s.wakeForHead l).playPart = s.playPart :=
  playPart_of_outside (l := l) (by simp) (by simp)
@[simp] theorem playPart_derive (s : State) (l : LaneIx) : (s.derive l).playPart = s.playPart :=
  playPart_of_outside (l := l) (by simp) (by simp)
@[simp] theorem playPart_afterBall (s : State) (l : LaneIx) (n : Need) (o r : Bool) : (s.afterBall l n o r).playPart = s.playPart :=
  playPart_of_outside (l := l) (by simp) (by simp)
@[simp] theorem playPart_headTold (s : State) (l : LaneIx) : (s.headTold l).playPart = s.playPart :=
  playPart_of_outside (l := l) (by simp) (by simp)
@[simp] theorem playPart_release (s : State) (l : LaneIx) : (s.release l).playPart = s.playPart :=
  playPart_of_outside (l := l) (by simp) (by simp)
@[simp] theorem playPart_removalOrder (s : State) (l : LaneIx) : (s.removalOrder l).playPart = s.playPart :=
  playPart_of_outside (l := l) (by simp) (by simp)
@[simp] theorem playPart_jam (s : State) (l : LaneIx) (cause : JamCause) : (s.jam l cause).playPart = s.playPart :=
  playPart_of_outside (l := l) (by simp) (by simp)
@[simp] theorem playPart_machineJam (s : State) (l : LaneIx) (source : JamSource) : (s.machineJam l source).playPart = s.playPart :=
  playPart_of_outside (l := l) (by simp) (by simp)
@[simp] theorem playPart_foul (s : State) (l : LaneIx) : (s.foul l).playPart = s.playPart :=
  playPart_of_outside (l := l) (by simp) (by simp)
@[simp] theorem playPart_cycleDone (s : State) (l : LaneIx) (set : PinSet) : (s.cycleDone l set).playPart = s.playPart :=
  playPart_of_outside (l := l) (by simp) (by simp)
@[simp] theorem playPart_loseLane (s : State) (l : LaneIx) (silent : Bool) : (s.loseLane silent l).playPart = s.playPart :=
  playPart_of_outside (l := l) (by simp) (by simp)
@[simp] theorem playPart_returnLane (s : State) (l : LaneIx) (power : Power) : (s.returnLane l power).playPart = s.playPart :=
  playPart_of_outside (l := l) (by simp) (by simp)

/-! ### The gate -/

/-- A lane's part of play with the presence of a reason set; BILLING has no part in it. -/
def LanePlay.flag (r : Reason) (b : Bool) (x : LanePlay) : LanePlay :=
  match r with
  | .noSession => { x with noSession := b }
  | .billing => x
  | .returnJam => { x with returnJam := b }
  | .deskHold => { x with deskHold := b }
  | .returnBacklog => { x with returnBacklog := b }

/-- The part of play with lane l's replaced. -/
def PlayPart.putLane (l : LaneIx) (x : LanePlay) (P : PlayPart) : PlayPart :=
  { P with lanes := fun k => if k = l then x else P.lanes k }

/-- The part of play with a reason's presence set on both lanes of a pair. -/
def PlayPart.flagBoth (p : PairIx) (r : Reason) (b : Bool) (P : PlayPart) : PlayPart :=
  { P with lanes := fun k => if pairOf k = p then (P.lanes k).flag r b else P.lanes k }

@[simp] theorem PlayPart.putLane_lanes_self (l : LaneIx) (x : LanePlay) (P : PlayPart) : (P.putLane l x).lanes l = x := if_pos rfl

@[simp] theorem PlayPart.putLane_putLane (l : LaneIx) (x y : LanePlay) (P : PlayPart) :
    (P.putLane l x).putLane l y = P.putLane l y := by
  ext k : 2
  case lanes => by_cases e : k = l <;> simp [PlayPart.putLane, e]
  all_goals rfl

@[simp] theorem PlayPart.putLane_self (l : LaneIx) (P : PlayPart) : P.putLane l (P.lanes l) = P := by
  ext k : 2
  case lanes => by_cases e : k = l <;> simp [PlayPart.putLane, e]
  all_goals rfl

/-- A lane's change replaces its part of play. -/
theorem playPart_putLane (s : State) (l : LaneIx) (f : Lane → Lane) :
    (s.modLane l f).playPart = s.playPart.putLane l (f (s.lane l)).play := by
  ext k : 2
  case lanes =>
    by_cases e : k = l
    · subst e
      simp [State.playPart, PlayPart.putLane]
    · simp [State.playPart, PlayPart.putLane, e, State.lane_modLane_ne _ _ _ _ e]
  all_goals rfl

theorem play_put (x : Lane) (r : Reason) (t : Option DateTime) :
    ({ x with gate := x.gate.put r t } : Lane).play = x.play.flag r t.isSome := by
  cases r <;> rfl

theorem flag_of_has (x : Lane) (r : Reason) : x.play.flag r (x.gate.has r) = x.play := by
  cases r <;> rfl

theorem playPart_raiseReason (s : State) (l : LaneIx) (r : Reason) (t : DateTime) :
    (s.raiseReason r t l).playPart = s.playPart.putLane l ((s.lane l).play.flag r true) := by
  unfold State.raiseReason
  split
  · rename_i h
    have e := flag_of_has (s.lane l) r
    rw [show (s.lane l).gate.has r = true from h] at e
    rw [e]
    exact (PlayPart.putLane_self l s.playPart).symm
  · rw [playPart_putLane, play_put]
    rfl

theorem playPart_clearReason (s : State) (l : LaneIx) (r : Reason) :
    (s.clearReason r l).playPart = s.playPart.putLane l ((s.lane l).play.flag r false) := by
  unfold State.clearReason
  split
  · rw [playPart_release, playPart_putLane, play_put]
    rfl
  · rename_i h
    have e := flag_of_has (s.lane l) r
    rw [show (s.lane l).gate.has r = false from by simpa [State.gate] using h] at e
    rw [e]
    exact (PlayPart.putLane_self l s.playPart).symm

/-- BILLING raised or cleared has no part in play. -/
@[simp] theorem playPart_raiseBilling (s : State) (l : LaneIx) (t : DateTime) :
    (s.raiseReason .billing t l).playPart = s.playPart :=
  (playPart_raiseReason s l .billing t).trans (PlayPart.putLane_self l s.playPart)
@[simp] theorem playPart_clearBilling (s : State) (l : LaneIx) : (s.clearReason .billing l).playPart = s.playPart :=
  (playPart_clearReason s l .billing).trans (PlayPart.putLane_self l s.playPart)

theorem pairOf_eq_lanes (k : LaneIx) (p : PairIx) : pairOf k = p ↔ k = laneA p ∨ k = laneB p := by revert k p; decide
theorem laneA_ne_laneB (p : PairIx) : laneA p ≠ laneB p := by revert p; decide

/-- Both lanes of a pair, lane A first, are the lanes of the pair. -/
theorem putLane_both (p : PairIx) (r : Reason) (b : Bool) (P : PlayPart) :
    (P.putLane (laneA p) ((P.lanes (laneA p)).flag r b)).putLane (laneB p) ((P.lanes (laneB p)).flag r b) = P.flagBoth p r b := by
  ext k : 2
  case lanes =>
    have hk := pairOf_eq_lanes k p
    have hne := laneA_ne_laneB p
    by_cases eA : k = laneA p
    · subst eA
      simp [PlayPart.putLane, PlayPart.flagBoth, hne]
    · by_cases eB : k = laneB p
      · subst eB
        simp [PlayPart.putLane, PlayPart.flagBoth]
      · simp [PlayPart.putLane, PlayPart.flagBoth, hk, eA, eB]
  all_goals rfl

theorem lanes_putLane_B (p : PairIx) (x : LanePlay) (P : PlayPart) : (P.putLane (laneA p) x).lanes (laneB p) = P.lanes (laneB p) :=
  if_neg (laneA_ne_laneB p).symm

theorem playPart_raiseBoth (s : State) (r : Reason) (p : PairIx) : (s.raiseBoth r p).playPart = s.playPart.flagBoth p r true := by
  have h := playPart_raiseReason s (laneA p) r s.clock
  rw [State.raiseBoth, playPart_raiseReason, ← putLane_both p r true s.playPart, h]
  congr 1
  show LanePlay.flag r true ((s.raiseReason r s.clock (laneA p)).playPart.lanes (laneB p)) = _
  rw [h, lanes_putLane_B]

theorem playPart_clearBoth (s : State) (r : Reason) (p : PairIx) : (s.clearBoth r p).playPart = s.playPart.flagBoth p r false := by
  have h := playPart_clearReason s (laneA p) r
  rw [State.clearBoth, playPart_clearReason, ← putLane_both p r false s.playPart, h]
  congr 1
  show LanePlay.flag r false ((s.clearReason r (laneA p)).playPart.lanes (laneB p)) = _
  rw [h, lanes_putLane_B]

end Sys2Proof.Machine
end

section
/-! SUPPORT. The operations of the meters, of the turns' hand-offs, of health and of the bus that keep the part of play. -/

namespace Sys2Proof.Machine

/-! ### The Billing Meter -/

@[simp] theorem playPart_charge (s : State) (l : LaneIx) (n : Nat) : (s.charge l n).playPart = s.playPart := by
  unfold State.charge
  repeat' split
  all_goals simp

@[simp] theorem playPart_chargeMinute (s : State) (l : LaneIx) (n : Nat) : (s.chargeMinute l n).playPart = s.playPart := by
  unfold State.chargeMinute
  split <;> simp

@[simp] theorem playPart_evaluateBilling (s : State) (l : LaneIx) : (s.evaluateBilling l).playPart = s.playPart := by
  unfold State.evaluateBilling
  repeat' split
  all_goals simp

@[simp] theorem playPart_evaluateAccount (s : State) (l : LaneIx) : (s.evaluateAccount l).playPart = s.playPart :=
  playPart_each _ _ (fun _ _ => by simp) s

@[simp] theorem playPart_allowanceOut (s : State) (l : LaneIx) (a : Account) : (s.allowanceOut l a).playPart = s.playPart := by
  simp [State.allowanceOut]

@[simp] theorem playPart_setMeter (s : State) (m : Meter) : ({ s with meter := m } : State).playPart = s.playPart := rfl

@[simp] theorem playPart_minutePart (s : State) : s.minutePart.playPart = s.playPart := by
  simp only [State.minutePart]
  repeat' split
  all_goals simp

@[simp] theorem playPart_perTimeMinute (s : State) (l : LaneIx) : (s.perTimeMinute l).playPart = s.playPart := by
  simp [State.perTimeMinute]

@[simp] theorem playPart_prepaidTimeMinute (s : State) (l : LaneIx) : (s.prepaidTimeMinute l).playPart = s.playPart := by
  simp only [State.prepaidTimeMinute]
  split <;> simp

@[simp] theorem playPart_firstBall (s : State) (home : LaneIx) (slot game : Nat) :
    (s.firstBall home slot game).playPart = s.playPart := by
  simp only [State.firstBall]
  repeat' split
  all_goals simp

@[simp] theorem playPart_finalise (s : State) (l : LaneIx) : (s.finalise l).playPart = s.playPart := by
  simp only [State.finalise]
  split <;> simp [playPart_each]

/-! ### The hand-offs of the Turn Scheduler -/

@[simp] theorem playPart_reportHead (s : State) (l : LaneIx) : (s.reportHead l).playPart = s.playPart := by
  unfold State.reportHead
  split <;> simp

@[simp] theorem playPart_tellMeter (s : State) (l : LaneIx) : (s.tellMeter l).playPart = s.playPart := by
  rw [State.tellMeter, playPart_evaluateBilling]
  exact playPart_modLane s l _ rfl

@[simp] theorem playPart_handHead (s : State) (l : LaneIx) : (s.handHead l).playPart = s.playPart := by simp [State.handHead]
@[simp] theorem playPart_headChanged (s : State) (l : LaneIx) : (s.headChanged l).playPart = s.playPart := by
  simp [State.headChanged]
@[simp] theorem playPart_handOffs (s before : State) (ls : List LaneIx) : (s.handOffs before ls).playPart = s.playPart :=
  playPart_each _ _ (fun _ _ => by simp) s
@[simp] theorem playPart_removeTurn (s : State) (home : LaneIx) (slot : Nat) : (s.removeTurn home slot).playPart = s.playPart := by
  simp [State.removeTurn]

/-! ### The Health Monitor and the station bus -/

@[simp] theorem playPart_testLane (s : State) (l : LaneIx) (h : LaneHealth) (attrs : List Attribute) :
    (s.testLane l h attrs).playPart = s.playPart := by
  rw [State.testLane, playPart_each _ _ fun _ _ => playPart_report _ _]
  exact playPart_modLane s l _ rfl

@[simp] theorem playPart_testPair (s : State) (p : PairIx) (h : PairHealth) : (s.testPair p h).playPart = s.playPart := by
  rw [State.testPair, playPart_when _ _ _ (playPart_report _ _)]
  exact playPart_modPair s p _ rfl

@[simp] theorem playPart_travel (s : State) (p : PairIx) (n : Nat) : (s.travel p n).playPart = s.playPart := by simp [State.travel]

@[simp] theorem playPart_setLift (s : State) (p : PairIx) (o : LiftOrder) : (s.setLift p o).playPart = s.playPart :=
  playPart_modStation s p _

@[simp] theorem playPart_pauseTest (s : State) (p : PairIx) : (s.pauseTest p).playPart = s.playPart := by
  have h (t : State) : (t.modReturn p fun t => { t with oldest := 0 }).playPart = t.playPart := playPart_modReturn t p _ rfl
  simp only [State.pauseTest]
  repeat' split
  all_goals simp [h]

@[simp] theorem playPart_losePair (s : State) (p : PairIx) : (s.losePair p).playPart = s.playPart := playPart_modReturn s p _ rfl

@[simp] theorem playPart_handLoss (s : State) (silent : Bool) (p : PairIx) : (s.handLoss silent p).playPart = s.playPart := by
  rw [State.handLoss, playPart_losePair]
  exact playPart_each _ _ (fun _ _ => by simp) s

@[simp] theorem playPart_loseStation (s : State) (p : PairIx) : (s.loseStation p).playPart = s.playPart := by simp [State.loseStation]

@[simp] theorem playPart_missAnswer (s : State) (p : PairIx) : (s.missAnswer p).playPart = s.playPart := by
  unfold State.missAnswer
  split <;> simp

@[simp] theorem playPart_schedule (s : State) (ds : List DueExchange) : (s.schedule ds).playPart = s.playPart := rfl

@[simp] theorem playPart_probeAgain (s : State) (p : PairIx) : (s.probeAgain p).playPart = s.playPart :=
  playPart_when _ _ _ rfl

@[simp] theorem playPart_resetOrders (s : State) (ls : List LaneIx) : (s.resetOrders ls).playPart = s.playPart :=
  playPart_each _ _ (fun _ _ => by simp) s

@[simp] theorem playPart_lateOrders (s : State) (p : PairIx) : (s.lateOrders p).playPart = s.playPart := by simp [State.lateOrders]

@[simp] theorem playPart_endPass (s : State) : s.endPass.playPart = s.playPart :=
  playPart_each _ _ (fun _ _ => by simp) _

@[simp] theorem playPart_passOver (s : State) (e : Exchange) : (s.passOver e).playPart = s.playPart := by simp [State.passOver]
@[simp] theorem playPart_closeExchange (s : State) : s.closeExchange.playPart = s.playPart := rfl

@[simp] theorem playPart_missed (s : State) (e : Exchange) : (s.missed e).playPart = s.playPart := by
  simp only [State.missed]
  repeat' split
  all_goals simp

@[simp] theorem playPart_windowOut (s : State) : s.windowOut.playPart = s.playPart := by
  unfold State.windowOut
  split <;> simp

@[simp] theorem playPart_eventsLost (s : State) (p : PairIx) : (s.eventsLost p).playPart = s.playPart := by
  simp only [State.eventsLost]
  split <;> simp

@[simp] theorem playPart_resetStation (s : State) (p : PairIx) (hold : Nat) : (s.resetStation p hold).playPart = s.playPart := by
  simp [State.resetStation]

@[simp] theorem playPart_paceOut (s : State) : s.paceOut.playPart = s.playPart := by
  simp only [State.paceOut]
  split <;> simp

@[simp] theorem playPart_holdOut (s : State) (p : PairIx) : (s.holdOut p).playPart = s.playPart := by
  simp only [State.holdOut]
  split <;> simp

@[simp] theorem playPart_sendPoll (s : State) : s.sendPoll.playPart = s.playPart := by
  simp only [State.sendPoll]
  repeat' split
  all_goals rfl

@[simp] theorem playPart_sendProbe (s : State) : s.sendProbe.playPart = s.playPart := by
  simp only [State.sendProbe]
  repeat' split
  all_goals rfl

@[simp] theorem playPart_sendReset (s : State) : s.sendReset.playPart = s.playPart := by
  simp only [State.sendReset]
  repeat' split
  all_goals rfl

/-! ### The timers of a machine -/

@[simp] theorem playPart_runOut (s : State) (start : Reading) (n : Nat) : (s.runOut start n).playPart = s.playPart := by
  simp [State.runOut]
@[simp] theorem playPart_nextRead (s : State) (l : LaneIx) : (s.nextRead l).playPart = s.playPart := by simp [State.nextRead]

@[simp] theorem playPart_settleOut (s : State) (l : LaneIx) : (s.settleOut l).playPart = s.playPart := by
  unfold State.settleOut
  split <;> simp

@[simp] theorem playPart_rereadOut (s : State) (l : LaneIx) : (s.rereadOut l).playPart = s.playPart := by
  unfold State.rereadOut
  split <;> simp

@[simp] theorem playPart_readOut (s : State) (l : LaneIx) : (s.readOut l).playPart = s.playPart := by
  unfold State.readOut
  repeat' split
  all_goals simp

@[simp] theorem playPart_cycleOut (s : State) (l : LaneIx) : (s.cycleOut l).playPart = s.playPart := by
  unfold State.cycleOut
  split <;> simp

@[simp] theorem playPart_warmUpOut (s : State) (l : LaneIx) : (s.warmUpOut l).playPart = s.playPart := by
  unfold State.warmUpOut
  split <;> simp

@[simp] theorem playPart_testOnTime (s : State) (l : LaneIx) : (s.testOnTime l).playPart = s.playPart := by
  unfold State.testOnTime
  repeat' split
  all_goals simp

@[simp] theorem playPart_testIdle (s : State) (l : LaneIx) : (s.testIdle l).playPart = s.playPart := by
  unfold State.testIdle
  split <;> simp

/-! ### The parts of a second -/

@[simp] theorem playPart_dueMinute (s : State) : s.dueMinute.playPart = s.playPart := by
  unfold State.dueMinute
  split
  · exact playPart_minutePart _
  · rfl

@[simp] theorem playPart_duePlay (s : State) (l : LaneIx) : (s.duePlay l).playPart = s.playPart := by
  unfold State.duePlay
  split
  · exact playPart_perTimeMinute _ l
  · rfl

@[simp] theorem playPart_duePrepaid (s : State) (l : LaneIx) : (s.duePrepaid l).playPart = s.playPart := by
  unfold State.duePrepaid
  split
  · exact playPart_prepaidTimeMinute _ l
  · rfl

@[simp] theorem playPart_dueOnTime (s : State) (l : LaneIx) : (s.dueOnTime l).playPart = s.playPart := by
  unfold State.dueOnTime
  split
  · exact playPart_testOnTime _ l
  · rfl

@[simp] theorem playPart_dueIdle (s : State) (l : LaneIx) : (s.dueIdle l).playPart = s.playPart := by
  unfold State.dueIdle
  split
  · exact playPart_testIdle _ l
  · rfl

/-- The counts of a second leave the part of play alone. -/
@[simp] theorem playPart_countSecond (s : State) : s.countSecond.playPart = s.playPart := by
  ext k : 2
  case lanes =>
    simp only [State.playPart, State.countSecond, State.lane, Fin.getElem_fin, mapLanes_get, Lane.countMachine, Lane.countSecond]
    split <;> rfl
  case rets =>
    simp only [State.playPart, State.countSecond, State.ret, State.pair, Fin.getElem_fin, mapPairs_get, State.countOldest]
    split <;> rfl
  case hold => rfl
  case lost =>
    simp only [State.playPart, State.countSecond, Link.countSilence]
    split <;> rfl

@[simp] theorem playPart_tickClock (s : State) : s.tickClock.playPart = s.playPart := rfl

@[simp] theorem playPart_toSecond (s : State) : s.toSecond.playPart = s.playPart :=
  (playPart_tickClock _).trans (playPart_advance s _)

@[simp] theorem playPart_second (s : State) : s.second.playPart = s.playPart :=
  (playPart_countSecond s.toSecond).trans (playPart_toSecond s)

end Sys2Proof.Machine
end

section
/-! SUPPORT. The turn operations and the invariant of play. Each changes of it, at the most, a lane's session, boundary
mark and start lane: a game start unmarks the lane and leaves its start lane in its pair (R30), and a series ends only
on a lane REACHED (R31). -/

namespace Sys2Proof.Machine

/-! ### One lane changed -/

theorem lane_sound {s : State} (h : s.playSound) (l : LaneIx) : (s.lane l).play.sound l (s.ret (pairOf l)).play :=
  ((playSound_iff s).1 h).lanes l

/-- A lane's part of play replaced by a sound one leaves the whole sound. -/
theorem playSound_putLane {s t : State} (hs : s.playSound) {l : LaneIx} {x : LanePlay} (e : t.playPart = s.playPart.putLane l x)
    (hx : x.sound l (s.ret (pairOf l)).play) : t.playSound := by
  rw [playSound_iff] at hs ⊢
  rw [e]
  refine ⟨fun k => ?_, hs.rets, hs.hold⟩
  by_cases hk : k = l
  · subst hk
    rw [PlayPart.putLane_lanes_self]
    exact hx
  · simpa [PlayPart.putLane, hk] using hs.lanes k

/-- A sound lane is sound unmarked, on any start lane of its pair. -/
theorem LanePlay.sound.unmark {x : LanePlay} {l : LaneIx} {t : ReturnRec} (hx : x.sound l t) {start : LaneIx}
    (home : pairOf start = pairOf l) : LanePlay.sound { x with boundary := .unmarked, startLane := start } l t :=
  ⟨hx.noSession, hx.returnJam, hx.returnBacklog, hx.deskHold, nofun, home⟩

theorem startLane_home {s : State} (h : s.playSound) (l : LaneIx) : pairOf (s.lane l).startLane = pairOf l := (lane_sound h l).home

/-! ### Game starts and series ends -/

theorem playPart_beginGame (s : State) (l start : LaneIx) :
    (s.beginGame l start).playPart = s.playPart.putLane l { (s.lane l).play with boundary := .unmarked, startLane := start } := by
  simp only [State.beginGame, playPart_setQueue, playPart_putLane]
  rfl

theorem playPart_setSession (s : State) (l : LaneIx) (st : SessionState) :
    (s.setSession l st).playPart = s.playPart.putLane l { (s.lane l).play with session := st } := by
  rw [State.setSession, playPart_darkTest, playPart_putLane]
  rfl

theorem playPart_endSeries (s : State) (l : LaneIx) :
    (s.endSeries l).playPart = s.playPart.putLane l { (s.lane l).play with boundary := .unmarked, session := .seriesDone } := by
  rw [State.endSeries, playPart_setSession, playPart_putLane, PlayPart.putLane_putLane, State.lane_modLane_self]
  rfl

theorem playSound_beginGame {s : State} (h : s.playSound) {l start : LaneIx} (home : pairOf start = pairOf l) :
    (s.beginGame l start).playSound :=
  playSound_putLane h (playPart_beginGame s l start) ((lane_sound h l).unmark home)

/-- A series that ends had its lane REACHED, so its session was OPEN and NO_SESSION is absent. -/
theorem playSound_endSeries {s : State} (h : s.playSound) {l : LaneIx} (reached : (s.lane l).boundary = .reached) :
    (s.endSeries l).playSound := by
  have hl := lane_sound h l
  have isOpen : (s.lane l).session = .open_ := hl.reached reached
  refine playSound_putLane h (playPart_endSeries s l) ⟨?_, hl.returnJam, hl.returnBacklog, ?_, ?_, hl.home⟩
  · rw [hl.noSession]
    simp [Lane.play, isOpen]
  · simp
  · simp

theorem playSound_handOffs {s : State} (h : s.playSound) (before : State) (ls : List LaneIx) : (s.handOffs before ls).playSound :=
  playSound_of_playPart (by simp) h

theorem playSound_startAlone {s : State} (h : s.playSound) (l : LaneIx) : (s.startAlone l).playSound := by
  unfold State.startAlone
  split
  · exact h
  · rename_i reached
    split
    · exact playSound_endSeries h (by simpa using reached)
    · split
      · exact h
      · exact playSound_handOffs (playSound_beginGame h rfl) s [l]

theorem playSound_startEach {s : State} (h : s.playSound) (p : PairIx) : (s.startEach p).playSound :=
  playSound_startAlone (playSound_startAlone h _) _

/-- In ALTERNATE each team starts on the lane opposite its last start, which is of its pair. -/
theorem playSound_startBoth {s : State} (h : s.playSound) (p : PairIx) : (s.startBoth p).playSound := by
  have homeA : pairOf (partner (s.lane (laneA p)).startLane) = pairOf (laneA p) := (pairOf_partner _).trans (startLane_home h _)
  have homeB : pairOf (partner (s.lane (laneB p)).startLane) = pairOf (laneB p) := (pairOf_partner _).trans (startLane_home h _)
  exact playSound_handOffs (playSound_beginGame (playSound_beginGame h homeA) homeB) s _

/-! ### Boundaries -/

theorem playSound_changeMode {s : State} (h : s.playSound) (p : PairIx) (m : PairMode) (c : ModeCause) :
    (s.changeMode p m c).playSound := playSound_of_playPart (by simp) h

theorem playSound_dropPending {s : State} (h : s.playSound) (p : PairIx) : (s.dropPending p).playSound :=
  playSound_of_playPart (by simp) h

theorem playSound_pairBoundary {s : State} (h : s.playSound) (p : PairIx) : (s.pairBoundary p).playSound := by
  have changed (m : PairMode) (c : ModeCause) := playSound_changeMode h p m c
  unfold State.pairBoundary
  repeat' split
  · exact playSound_startEach (playSound_dropPending h p) p
  · exact h
  · exact playSound_startBoth (changed _ _) p
  · exact playSound_startEach h p
  · exact playSound_startEach (changed _ _) p
  · exact playSound_startEach (changed _ _) p
  · exact h
  · exact playSound_startEach (changed _ _) p
  · exact h
  · exact playSound_startBoth h p

theorem playSound_takeBoundary {s : State} (h : s.playSound) (l : LaneIx) : (s.takeBoundary l).playSound := by
  unfold State.takeBoundary
  repeat' split
  · exact h
  · exact playSound_pairBoundary h _
  · exact h
  · exact playSound_startAlone h l

theorem playSound_retakePair {s : State} (h : s.playSound) (p : PairIx) : (s.retakePair p).playSound :=
  playSound_takeBoundary (playSound_takeBoundary h _) _

/-- The hold cleared, with the desk-lost state, from the state where both are clear. -/
theorem playSound_clearHold {s : State} (h : ({ s with hold := false } : State).playSound) : s.clearHold.playSound :=
  State.each_preserves State.playSound allPairs State.retakePair (fun p _ _ ht => playSound_retakePair ht p) _ h

/-- A lane is marked REACHED only while OPEN (R29). -/
theorem playSound_testBoundary {s : State} (h : s.playSound) (l : LaneIx) : (s.testBoundary l).playSound := by
  unfold State.testBoundary
  split
  · rename_i c
    simp only [Bool.and_eq_true, decide_eq_true_eq] at c
    have hl := lane_sound h l
    refine playSound_takeBoundary (playSound_of_playPart (playPart_report _ _) (playSound_putLane h (playPart_putLane s l _) ?_)) l
    exact ⟨hl.noSession, hl.returnJam, hl.returnBacklog, hl.deskHold, fun _ => c.1.1, hl.home⟩
  · exact h

theorem playSound_frameOver {s : State} (h : s.playSound) (l : LaneIx) : (s.frameOver l).playSound := by
  simp only [State.frameOver]
  split
  · exact h
  · split
    · exact playSound_of_playPart (by simp) h
    · exact playSound_testBoundary (playSound_of_playPart (by simp) h) _

/-! ### Mode changes and closing lanes -/

/-- A team brought home starts at home, in its own pair. -/
theorem playSound_bringHome {s : State} (h : s.playSound) (l : LaneIx) : (s.bringHome l).playSound := by
  simp only [State.bringHome]
  split
  · exact h
  · generalize hu : State.setQueue l _ _ = u
    have moved : u.playSound := playSound_of_playPart (by rw [← hu]; simp) h
    have hl := lane_sound moved l
    exact playSound_putLane moved (playPart_putLane u l _)
      ⟨hl.noSession, hl.returnJam, hl.returnBacklog, hl.deskHold, hl.reached, rfl⟩

theorem playSound_changeModeNow {s : State} (h : s.playSound) (p : PairIx) (m : PairMode) : (s.changeModeNow p m).playSound := by
  have changed := playSound_changeMode h p m .request
  simp only [State.changeModeNow]
  cases m
  case separate => exact playSound_retakePair (playSound_handOffs (playSound_bringHome (playSound_bringHome changed _) _) s _) p
  case alternate => exact playSound_retakePair (playSound_handOffs changed s _) p

/-- The queues, modes and marks of step 1 of R7, before the hand-offs and the partner's boundary. -/
def State.revertTurns (c : LaneIx) (s : State) : State :=
  let others (q : List Turn) : List Turn := q.filter fun t => t.home ≠ c
  let dropped := s.modLane c fun x => { x with boundary := .unmarked }
  match (s.pair (pairOf c)).mode with
  | .separate =>
    ((dropped.setQueue c (others (s.lane c).queue)).setQueue (partner c) (others (s.lane (partner c)).queue)).dropPending (pairOf c)
  | .alternate =>
    (((dropped.setQueue (partner c) (others (s.lane (partner c)).queue ++ others (s.lane c).queue)).setQueue c []).modLane (partner c)
      fun x => { x with startLane := partner c }).changeMode (pairOf c) .separate .laneClosed

theorem closeTurns_eq (s : State) (c : LaneIx) :
    s.closeTurns c = ((s.revertTurns c).handOffs s [c, partner c]).takeBoundary (partner c) := rfl

theorem playSound_revertTurns {s : State} (h : s.playSound) (c : LaneIx) : (s.revertTurns c).playSound := by
  have dropped : (s.modLane c fun x => { x with boundary := .unmarked }).playSound :=
    playSound_putLane h (playPart_putLane s c _) ((lane_sound h c).unmark (startLane_home h c))
  simp only [State.revertTurns]
  split
  · exact playSound_of_playPart (by simp) dropped
  · refine playSound_changeMode ?_ _ _ _
    generalize hu : State.setQueue c _ _ = u
    have hq : u.playSound := playSound_of_playPart (by rw [← hu]; simp) dropped
    have hl := lane_sound hq (partner c)
    exact playSound_putLane hq (playPart_putLane u (partner c) _)
      ⟨hl.noSession, hl.returnJam, hl.returnBacklog, hl.deskHold, hl.reached, rfl⟩

theorem playSound_closeTurns {s : State} (h : s.playSound) (c : LaneIx) : (s.closeTurns c).playSound := by
  rw [closeTurns_eq]
  exact playSound_takeBoundary (playSound_handOffs (playSound_revertTurns h c) s _) _

end Sys2Proof.Machine
end

section
/-! SUPPORT. The hand-offs of a head change and the boundary of the other lane, seen from one lane: core forgets what BLM,
PSV and HMN hold of a lane and what BLM was told, which a hand-off may change, and keeps the rest. -/

namespace Sys2Proof.Machine

/-- A lane without its machine, gate and health records and the head turn BLM was told. -/
def Lane.core (x : Lane) : Lane := { x with machine := .initial, gate := .onlyNoSession none, health := .initial, head := none }

/-- What equal cores say. -/
theorem fields_of_core {x y : Lane} (h : y.core = x.core) :
    y.session = x.session ∧ y.gamesPlanned = x.gamesPlanned ∧ y.lastRoster = x.lastRoster ∧ y.game = x.game
      ∧ y.startLane = x.startLane ∧ y.boundary = x.boundary ∧ y.queue = x.queue ∧ y.settings = x.settings
      ∧ y.roster = x.roster ∧ y.account = x.account := by
  cases x
  cases y
  simpa [Lane.core] using h

theorem core_of_outside {l : LaneIx} {s t : State} (h : t.outside l = s.outside l) (k : LaneIx) :
    (t.lane k).core = (s.lane k).core := by
  by_cases e : k = l
  · subst e
    exact (congrArg Lane.core (lane_self_of_outside h)).trans rfl
  · rw [lane_of_outside h e]

theorem core_modLane (s : State) (l k : LaneIx) (f : Lane → Lane) (h : (f (s.lane l)).core = (s.lane l).core) :
    ((s.modLane l f).lane k).core = (s.lane k).core := by
  by_cases e : k = l
  · subst e
    simpa using h
  · rw [State.lane_modLane_ne _ _ _ _ e]

/-! ### The hand-offs -/

@[simp] theorem outside_evaluateBilling (l : LaneIx) (s : State) : (s.evaluateBilling l).outside l = s.outside l := by
  unfold State.evaluateBilling
  repeat' split
  all_goals simp

@[simp] theorem core_tellMeter (s : State) (l k : LaneIx) : ((s.tellMeter l).lane k).core = (s.lane k).core :=
  (core_of_outside (outside_evaluateBilling l _) k).trans (core_modLane s l k _ rfl)

@[simp] theorem core_handHead (s : State) (l k : LaneIx) : ((s.handHead l).lane k).core = (s.lane k).core := by
  rw [State.handHead, core_of_outside (outside_headTold l _), core_tellMeter]

@[simp] theorem lane_reportHead (s : State) (l k : LaneIx) : (s.reportHead l).lane k = s.lane k := by
  unfold State.reportHead
  split <;> rfl

@[simp] theorem core_headChanged (s : State) (l k : LaneIx) : ((s.headChanged l).lane k).core = (s.lane k).core := by
  rw [State.headChanged, core_handHead, lane_reportHead]

@[simp] theorem core_handOffs (s before : State) (ls : List LaneIx) (k : LaneIx) :
    ((s.handOffs before ls).lane k).core = (s.lane k).core :=
  State.each_keeps (fun s => (s.lane k).core) _ _ (fun l _ s => core_headChanged s l k) s

/-- A hand-off changes no gate reason but BILLING. -/
def Gate.unbilled (g : Gate) : Gate := { g with billing := none }

@[simp] theorem unbilled_putBilling (g : Gate) (t : Option DateTime) : (g.put .billing t).unbilled = g.unbilled := rfl

@[simp] theorem unbilled_evaluateBilling (s : State) (l k : LaneIx) : ((s.evaluateBilling l).gate k).unbilled = (s.gate k).unbilled := by
  unfold State.evaluateBilling
  repeat' split
  case' h_2.isTrue => rw [gate_raiseReason]
  case' h_1 => rw [gate_clearReason]
  case' h_2.isFalse => rw [gate_clearReason]
  all_goals
    split
    · rename_i h
      simp [h.1]
    · rfl

@[simp] theorem unbilled_tellMeter (s : State) (l k : LaneIx) : ((s.tellMeter l).gate k).unbilled = (s.gate k).unbilled := by
  rw [State.tellMeter, unbilled_evaluateBilling]
  exact congrArg Gate.unbilled (gate_modLane s l k _ rfl)

@[simp] theorem unbilled_handHead (s : State) (l k : LaneIx) : ((s.handHead l).gate k).unbilled = (s.gate k).unbilled := by
  rw [State.handHead, gate_headTold, unbilled_tellMeter]

@[simp] theorem gate_reportHead (s : State) (l k : LaneIx) : (s.reportHead l).gate k = s.gate k := by
  rw [State.gate, lane_reportHead, State.gate]

@[simp] theorem unbilled_handOffs (s before : State) (ls : List LaneIx) (k : LaneIx) :
    ((s.handOffs before ls).gate k).unbilled = (s.gate k).unbilled :=
  State.each_keeps (fun s => (s.gate k).unbilled) _ _
    (fun l _ s => by show (State.gate (State.headChanged l s) k).unbilled = _; simp [State.headChanged]) s

/-! ### Other lanes -/

theorem lane_tellMeter_ne {l k : LaneIx} (h : k ≠ l) (s : State) : (s.tellMeter l).lane k = s.lane k :=
  (lane_of_outside (outside_evaluateBilling l _) h).trans (s.lane_modLane_ne l k _ h)

theorem lane_handHead_ne {l k : LaneIx} (h : k ≠ l) (s : State) : (s.handHead l).lane k = s.lane k := by
  rw [State.handHead, lane_of_outside (outside_headTold l _) h, lane_tellMeter_ne h]

theorem lane_handOffs_ne {ls : List LaneIx} {k : LaneIx} (h : k ∉ ls) (s before : State) :
    (s.handOffs before ls).lane k = s.lane k := by
  refine State.each_keeps (fun s => s.lane k) _ _ (fun l hl s => ?_) s
  have hne : k ≠ l := fun e => h (e ▸ List.mem_of_mem_filter hl)
  rw [State.headChanged, lane_handHead_ne hne, lane_reportHead]

@[simp] theorem lane_darkTest (s : State) (p : PairIx) (k : LaneIx) : (s.darkTest p).lane k = s.lane k := by
  unfold State.darkTest
  repeat' split
  all_goals rfl

theorem lane_setSession_ne {l k : LaneIx} (h : k ≠ l) (st : SessionState) (s : State) : (s.setSession l st).lane k = s.lane k := by
  rw [State.setSession, lane_darkTest, State.lane_modLane_ne _ _ _ _ h]

/-- A lane at its boundary in SEPARATE goes on alone. -/
theorem lane_startAlone_ne {l k : LaneIx} (h : k ≠ l) (s : State) : (s.startAlone l).lane k = s.lane k := by
  unfold State.startAlone
  repeat' split
  case isTrue => rfl
  case isTrue => rw [State.endSeries, lane_setSession_ne h, State.lane_modLane_ne _ _ _ _ h]
  case isTrue => rfl
  case isFalse =>
    rw [lane_handOffs_ne (by simpa using h), State.beginGame, State.lane_setQueue_ne _ _ _ _ h, State.lane_modLane_ne _ _ _ _ h]

/-- The start of a game or the end of a series changes lane l, tells its heads and queues reports. -/
theorem startAlone_keeps {β : Type} (g : State → β) (l : LaneIx) (lane : ∀ s f, g (State.modLane l f s) = g s)
    (session : ∀ s st, g (State.setSession l st s) = g s) (heads : ∀ s before, g (State.handOffs s before [l]) = g s) (s : State) :
    g (s.startAlone l) = g s := by
  unfold State.startAlone
  repeat' split
  · rfl
  · rw [State.endSeries, session, lane]
  · rfl
  · rw [heads, State.beginGame, State.setQueue, lane, lane]

theorem takeBoundary_alone {s : State} {l : LaneIx} (h : s.needsPartner (pairOf l) = false) : s.takeBoundary l = s.startAlone l := by
  unfold State.takeBoundary State.startAlone
  split
  · rfl
  · simp [h]

/-! ### The modes of a pair -/

/-- The mode in force and the pending mode of a pair. -/
def State.modes (s : State) (p : PairIx) : PairMode × Option PairMode := ((s.pair p).mode, (s.pair p).pendingMode)

theorem modes_of_outside {l : LaneIx} {s t : State} (h : t.outside l = s.outside l) (p : PairIx) : t.modes p = s.modes p := by
  by_cases e : p = pairOf l
  · subst e
    exact (congrArg (fun x : Pair => (x.mode, x.pendingMode)) (pair_self_of_outside h)).trans rfl
  · rw [State.modes, pair_of_outside h e, State.modes]

@[simp] theorem modes_handOffs (s before : State) (ls : List LaneIx) (p : PairIx) : (s.handOffs before ls).modes p = s.modes p := by
  refine State.each_keeps (fun s => s.modes p) _ _ (fun l _ s => ?_) s
  rw [State.headChanged, State.handHead, modes_of_outside (outside_headTold l _), State.tellMeter,
    modes_of_outside (outside_evaluateBilling l _)]
  unfold State.reportHead
  split <;> rfl

theorem needsPartner_of_modes {s : State} {p : PairIx} (h : s.modes p = (.separate, none)) : s.needsPartner p = false := by
  obtain ⟨hm, hp⟩ := Prod.mk.inj h
  simp [State.needsPartner, hm, hp]

/-! ### The turns of a closing lane (R7, R42) -/

theorem modes_revertTurns (s : State) (c : LaneIx) : (s.revertTurns c).modes (pairOf c) = (.separate, none) := by
  simp only [State.revertTurns]
  split
  · rename_i h
    simp [State.modes, State.dropPending, State.setQueue, h]
  · simp [State.modes, State.changeMode]

theorem lane_setQueue_self (s : State) (l : LaneIx) (q : List Turn) :
    ∃ m, (s.setQueue l q).lane l = { s.lane l with queue := q, machine := m } := by
  simp only [State.setQueue, State.lane_modLane_self]
  split
  · rename_i h
    exact ⟨(s.lane l).machine, by rw [← h]⟩
  · exact ⟨_, rfl⟩

/-- Of the closing lane, the boundary mark goes, and of its queue at most the others' turns stay. -/
theorem lane_revertTurns_self (s : State) (c : LaneIx) : ∃ m q, (∀ t ∈ q, t.home ≠ c)
    ∧ (s.revertTurns c).lane c = { s.lane c with boundary := .unmarked, queue := q, machine := m } := by
  have hne := (partner_ne c).symm
  simp only [State.revertTurns]
  split
  · rw [State.dropPending, State.lane_modPair, State.lane_setQueue_ne _ _ _ _ hne]
    generalize hq : (s.lane c).queue.filter _ = q
    obtain ⟨m, h⟩ := lane_setQueue_self (s.modLane c fun x => { x with boundary := .unmarked }) c q
    refine ⟨m, q, fun t ht => ?_, by rw [h, State.lane_modLane_self]⟩
    rw [← hq] at ht
    simpa using (List.mem_filter.1 ht).2
  · rw [State.changeMode, State.lane_report, State.lane_modPair, State.lane_modLane_ne _ _ _ _ hne]
    generalize hu : State.setQueue (partner c) _ _ = u
    obtain ⟨m, h⟩ := lane_setQueue_self u c []
    refine ⟨m, [], nofun, ?_⟩
    rw [h, ← hu, State.lane_setQueue_ne _ _ _ _ hne, State.lane_modLane_self]

theorem closeTurns_alone (s : State) (c : LaneIx) :
    s.closeTurns c = ((s.revertTurns c).handOffs s [c, partner c]).startAlone (partner c) := by
  rw [closeTurns_eq, takeBoundary_alone]
  exact needsPartner_of_modes (by simp [modes_revertTurns])

/-- Step 1 of R7 leaves of the closing lane all but its mark, its queue and what the hand-offs change. -/
theorem core_closeTurns (s : State) (c : LaneIx) : ∃ q, (∀ t ∈ q, t.home ≠ c)
    ∧ ((s.closeTurns c).lane c).core = { (s.lane c).core with boundary := .unmarked, queue := q } := by
  obtain ⟨m, q, hq, e⟩ := lane_revertTurns_self s c
  refine ⟨q, hq, ?_⟩
  rw [closeTurns_alone, lane_startAlone_ne (partner_ne c).symm, core_handOffs, e]
  rfl

theorem boundary_closeTurns (s : State) (c : LaneIx) : ((s.closeTurns c).lane c).boundary = .unmarked := by
  obtain ⟨q, -, e⟩ := core_closeTurns s c
  exact congrArg Lane.boundary e

end Sys2Proof.Machine
end

section
/-! SUPPORT. The Ball Return Monitor and the invariant of play. RETURN_JAM and RETURN_BACKLOG of both lanes follow the
pair's jam and the length of its track (R138, R143, R144): where the record crosses a level, both gates are changed with
it. -/

namespace Sys2Proof.Machine

/-! ### One return record changed -/

/-- The part of play with a pair's return record replaced. -/
def PlayPart.putRet (p : PairIx) (t : ReturnRec) (P : PlayPart) : PlayPart :=
  { P with rets := fun q => if q = p then t else P.rets q }

@[simp] theorem PlayPart.putRet_rets_self (p : PairIx) (t : ReturnRec) (P : PlayPart) : (P.putRet p t).rets p = t := if_pos rfl
@[simp] theorem PlayPart.flagBoth_rets (p : PairIx) (r : Reason) (b : Bool) (P : PlayPart) : (P.flagBoth p r b).rets = P.rets := rfl

@[simp] theorem PlayPart.putRet_putRet (p : PairIx) (t u : ReturnRec) (P : PlayPart) : (P.putRet p t).putRet p u = P.putRet p u := by
  ext k : 2
  case rets => by_cases e : k = p <;> simp [PlayPart.putRet, e]
  all_goals rfl

theorem playPart_putRet (s : State) (p : PairIx) (f : ReturnRec → ReturnRec) :
    (s.modReturn p f).playPart = s.playPart.putRet p (f (s.ret p)).play := by
  ext q : 2
  case rets =>
    by_cases e : q = p
    · subst e
      simp [State.playPart, PlayPart.putRet]
    · simp [State.playPart, PlayPart.putRet, e, State.ret, State.pair_modReturn_ne _ _ _ _ e]
  all_goals rfl

/-- A pair's new record and the same change of both its lanes leave the whole sound where they fit each other. -/
theorem sound_pair {P Q : PlayPart} (h : P.sound) {p : PairIx} (ret : (Q.rets p).sound)
    (lanes : ∀ l, pairOf l = p → (Q.lanes l).sound l (Q.rets p)) (otherLanes : ∀ l, pairOf l ≠ p → Q.lanes l = P.lanes l)
    (otherRets : ∀ q, q ≠ p → Q.rets q = P.rets q) (hold : Q.hold = P.hold) (lost : Q.lost = P.lost) : Q.sound := by
  refine ⟨fun l => ?_, fun q => ?_, by rw [hold, lost, h.hold]⟩
  · by_cases e : pairOf l = p
    · rw [e]
      exact lanes l e
    · rw [otherLanes l e, otherRets _ e]
      exact h.lanes l
  · by_cases e : q = p
    · rw [e]
      exact ret
    · rw [otherRets q e]
      exact h.rets q

/-- A record that stays jammed as it was and on its side of the backlog level. -/
theorem sound_putRet {P : PlayPart} (h : P.sound) {p : PairIx} {t : ReturnRec} (ht : t.sound)
    (jam : t.jamStanding = (P.rets p).jamStanding) (backlog : 7 ≤ t.track.length ↔ 7 ≤ (P.rets p).track.length) :
    (P.putRet p t).sound := by
  refine sound_pair h (p := p) (by simpa using ht) (fun l e => ?_) (fun _ _ => rfl) (fun _ e => if_neg e) rfl rfl
  have hl := h.lanes l
  rw [e] at hl
  rw [PlayPart.putRet_rets_self]
  exact ⟨hl.noSession, by rw [jam]; exact hl.returnJam, by rw [backlog]; exact hl.returnBacklog, hl.deskHold, hl.reached, hl.home⟩

/-- RETURN_BACKLOG set on both lanes as the new record has it. -/
theorem sound_putBacklog {P : PlayPart} (h : P.sound) {p : PairIx} {t : ReturnRec} {b : Bool} (ht : t.sound)
    (jam : t.jamStanding = (P.rets p).jamStanding) (backlog : b = true ↔ 7 ≤ t.track.length) :
    ((P.putRet p t).flagBoth p .returnBacklog b).sound := by
  refine sound_pair h (p := p) (by simpa using ht) (fun l e => ?_) (fun _ e => if_neg e) (fun _ e => if_neg e) rfl rfl
  have hl := h.lanes l
  rw [e] at hl
  simp only [PlayPart.flagBoth, e, if_true, PlayPart.putRet_rets_self]
  exact ⟨hl.noSession, by rw [jam]; exact hl.returnJam, backlog, hl.deskHold, hl.reached, hl.home⟩

/-- RETURN_JAM set on both lanes as the new record has it. -/
theorem sound_putJam {P : PlayPart} (h : P.sound) {p : PairIx} {t : ReturnRec} {b : Bool} (ht : t.sound)
    (backlog : 7 ≤ t.track.length ↔ 7 ≤ (P.rets p).track.length) (jam : b = true ↔ t.jamStanding = true) :
    ((P.putRet p t).flagBoth p .returnJam b).sound := by
  refine sound_pair h (p := p) (by simpa using ht) (fun l e => ?_) (fun _ e => if_neg e) (fun _ e => if_neg e) rfl rfl
  have hl := h.lanes l
  rw [e] at hl
  simp only [PlayPart.flagBoth, e, if_true, PlayPart.putRet_rets_self]
  exact ⟨hl.noSession, jam, by rw [backlog]; exact hl.returnBacklog, hl.deskHold, hl.reached, hl.home⟩

theorem ret_sound {s : State} (h : s.playSound) (p : PairIx) : (s.ret p).sound := h.2.1 p

/-! ### The track and the rack -/

/-- A ball taken at the deck: the seventh on the track raises RETURN_BACKLOG (R137, R138). -/
theorem playSound_trackAppend {s : State} (h : s.playSound) (l : LaneIx) (kind : BallKind) : (s.trackAppend l kind).playSound := by
  obtain ⟨ht, hr⟩ := ret_sound h (pairOf l)
  simp only [State.trackAppend]
  split
  · exact playSound_of_playPart (by simp) h
  · rename_i full
    have full : (s.ret (pairOf l)).track.length < 8 := Nat.lt_of_not_le full
    rw [playSound_iff] at h ⊢
    rw [playPart_when _ _ _ (playPart_darkTest _ _)]
    by_cases seventh : (s.ret (pairOf l)).track.length + 1 = 7
    · simp only [Config.backlogLevel, seventh, State.when, decide_true, if_true, playPart_raiseBoth, playPart_putRet]
      refine sound_putBacklog h ⟨?_, hr⟩ rfl (iff_of_true rfl ?_)
      · simp [ReturnRec.play, seventh]
      · simp [ReturnRec.play, seventh]
    · simp only [Config.backlogLevel, seventh, State.when, decide_false, Bool.false_eq_true, if_false, playPart_putRet]
      refine sound_putRet h ⟨?_, hr⟩ rfl ?_
      · simp only [ReturnRec.play, List.length_append, List.length_singleton]
        omega
      · simp only [ReturnRec.play, State.playPart, List.length_append, List.length_singleton]
        omega

theorem playPart_rackUp (s : State) (p : PairIx) :
    (s.rackUp p).playPart = s.playPart.putRet p { (s.ret p).play with rack := min ((s.ret p).rack + 1) (s.ret p).rackMax } := by
  simp only [State.rackUp]
  split
  · rename_i le
    rw [playPart_putRet, Nat.min_eq_left le]
    rfl
  · rename_i le
    rw [playPart_report, playPart_putRet, Nat.min_eq_right (Nat.le_of_not_le le)]
    rfl

theorem playSound_rackUp {s : State} (h : s.playSound) (p : PairIx) : (s.rackUp p).playSound := by
  obtain ⟨ht, -, hr⟩ := ret_sound h p
  rw [playSound_iff] at h ⊢
  rw [playPart_rackUp]
  exact sound_putRet h ⟨ht, Nat.min_le_right _ _, hr⟩ rfl Iff.rfl

/-- A delivery: with the seventh ball gone RETURN_BACKLOG is cleared (R138, R139). -/
theorem playSound_ballAtRack {s : State} (h : s.playSound) (p : PairIx) : (s.ballAtRack p).playSound := by
  obtain ⟨ht, -, hr⟩ := ret_sound h p
  unfold State.ballAtRack
  split
  · exact playSound_of_playPart (by simp) (playSound_rackUp h p)
  · rename_i e rest track
    have le : rest.length + 1 ≤ 8 := by simpa [track] using ht
    have oldest (t : State) : (t.modReturn p fun t => { t with oldest := 0 }).playPart = t.playPart := playPart_modReturn t p _ rfl
    have up : ((s.modReturn p fun t => { t with track := rest }).rackUp p).playPart = s.playPart.putRet p
        { (s.ret p).play with track := rest, rack := min ((s.ret p).rack + 1) (s.ret p).rackMax } := by
      rw [playPart_rackUp, playPart_putRet, PlayPart.putRet_putRet, State.ret_modReturn_self]
      rfl
    suffices cleared : (((((s.modReturn p fun t => { t with track := rest }).rackUp p).travel p (s.elapsed e.entry)).pauseTest p).when
        (rest.length + 1 = Config.backlogLevel) (State.clearBoth .returnBacklog p)).playSound by
      split
      · exact playSound_of_playPart (by simp) cleared
      · exact playSound_of_playPart (oldest _) cleared
    rw [playSound_iff] at h ⊢
    by_cases seventh : rest.length + 1 = 7
    · simp only [Config.backlogLevel, seventh, State.when, decide_true, if_true, playPart_clearBoth, playPart_pauseTest,
        playPart_travel, up]
      refine sound_putBacklog h ⟨?_, Nat.min_le_right _ _, hr⟩ rfl (iff_of_false (by simp) ?_)
      · exact Nat.le_of_succ_le le
      · show ¬ 7 ≤ rest.length
        omega
    · simp only [Config.backlogLevel, seventh, State.when, decide_false, Bool.false_eq_true, if_false, playPart_pauseTest,
        playPart_travel, up]
      refine sound_putRet h ⟨?_, Nat.min_le_right _ _, hr⟩ rfl ?_
      · exact Nat.le_of_succ_le le
      · show 7 ≤ rest.length ↔ 7 ≤ (s.ret p).track.length
        rw [track, List.length_cons]
        omega

theorem playSound_ballTaken {s : State} (h : s.playSound) (p : PairIx) : (s.ballTaken p).playSound := by
  obtain ⟨ht, hrack, hr⟩ := ret_sound h p
  unfold State.ballTaken
  split
  · exact h
  · rw [playSound_iff] at h ⊢
    rw [playPart_pauseTest, playPart_putRet]
    exact sound_putRet h ⟨ht, Nat.le_trans (Nat.sub_le _ _) hrack, hr⟩ rfl Iff.rfl

/-! ### Jams, losses and returns -/

/-- A return jam raises RETURN_JAM on both lanes (R143). -/
theorem playSound_declareReturnJam {s : State} (h : s.playSound) (p : PairIx) : (s.declareReturnJam p).playSound := by
  have ht := ret_sound h p
  rw [playSound_iff] at h ⊢
  simp only [State.declareReturnJam, playPart_report, playPart_raiseBoth, playPart_putRet]
  exact sound_putJam h ht Iff.rfl (iff_of_true rfl rfl)

/-- A track written off is empty, and RETURN_BACKLOG is cleared with it (R144, R146). -/
theorem playSound_writeOff {s : State} (h : s.playSound) (p : PairIx) : (s.writeOff p).playSound := by
  obtain ⟨-, hr⟩ := ret_sound h p
  rw [playSound_iff] at h ⊢
  simp only [State.writeOff, playPart_clearBoth, playPart_putRet]
  exact sound_putBacklog h ⟨Nat.zero_le _, hr⟩ rfl (iff_of_false (by simp) (by simp [ReturnRec.play]))

/-- A record whose jam ends, with RETURN_JAM cleared on both lanes where it stood. -/
theorem playSound_unjam {s t : State} (h : s.playSound) {p : PairIx} {u : ReturnRec} (hu : u.sound) (jam : u.jamStanding = false)
    (track : u.track = (s.ret p).track)
    (e : t.playPart = (s.playPart.putRet p u).flagBoth p .returnJam false
      ∨ (s.ret p).jamStanding = false ∧ t.playPart = s.playPart.putRet p u) : t.playSound := by
  rw [playSound_iff] at h ⊢
  have backlog : 7 ≤ u.track.length ↔ 7 ≤ (s.playPart.rets p).track.length := by rw [track]; rfl
  obtain e | ⟨was, e⟩ := e <;> rw [e]
  · exact sound_putJam h hu backlog (by simp [jam])
  · exact sound_putRet h hu (jam.trans was.symm) backlog

theorem ret_of_playPart {s t : State} (h : t.playPart = s.playPart) (p : PairIx) : (t.ret p).play = (s.ret p).play :=
  congrFun (congrArg PlayPart.rets h) p

theorem playPart_writeOff (s : State) (p : PairIx) :
    (s.writeOff p).playPart = (s.playPart.putRet p { (s.ret p).play with track := [] }).flagBoth p .returnBacklog false := by
  rw [State.writeOff, playPart_clearBoth, playPart_putRet]
  rfl

/-- What a write-off leaves of the record. -/
theorem ret_writeOff (s : State) (p : PairIx) : ((s.writeOff p).ret p).play = { (s.ret p).play with track := [] } := by
  exact (congrFun (congrArg PlayPart.rets (playPart_writeOff s p)) p).trans (PlayPart.putRet_rets_self _ _ _)

/-- The contents of a HELLO answer with its rack count: the track written off, the jam ended, the rack seeded (R146). -/
theorem playSound_seedReturn {s : State} (h : s.playSound) (p : PairIx) (rack : Nat) : (s.seedReturn p rack).playSound := by
  obtain ⟨-, hrack, hr⟩ := ret_sound h p
  generalize htold : s.when (!(s.ret p).track.isEmpty) (State.report (.unaccounted p (s.writtenOff p))) = told
  have etold : told.playPart = s.playPart := by rw [← htold]; exact playPart_when _ _ _ (playPart_report _ _)
  have off := playSound_writeOff (playSound_of_playPart etold h) p
  have eret : ((told.writeOff p).ret p).play = { (s.ret p).play with track := [] } := by
    rw [ret_writeOff, ret_of_playPart etold]
  simp only [State.seedReturn, htold]
  refine playSound_of_playPart ((playPart_when _ _ _ (playPart_darkTest _ _)).trans (playPart_pauseTest _ _)) ?_
  have seeded (u : State) : (u.modReturn p fun t =>
      { t with jamStanding := false, rack := min t.rackMax rack, outOfReach := false, oldest := 0 }).playPart
        = u.playPart.putRet p { (u.ret p).play with jamStanding := false, rack := min (u.ret p).play.rackMax rack } :=
    playPart_putRet u p _
  refine playSound_unjam off (p := p)
    (u := { (s.ret p).play with track := [], jamStanding := false, rack := min (s.ret p).rackMax rack })
    ⟨Nat.zero_le _, Nat.min_le_left _ _, hr⟩ rfl (congrArg ReturnRec.track eret).symm ?_
  cases jam : (s.ret p).jamStanding
  · refine .inr ⟨(congrArg ReturnRec.jamStanding eret).trans jam, ?_⟩
    rw [State.when, if_neg (by simp), seeded, eret]
    rfl
  · refine .inl ?_
    have eclear : ((((told.writeOff p).clearBoth .returnJam p).ret p).play) = { (s.ret p).play with track := [] } := by
      rw [← eret]
      exact congrFun (congrArg PlayPart.rets (playPart_clearBoth (told.writeOff p) .returnJam p)) p
    rw [State.when, if_pos rfl, seeded, eclear, playPart_clearBoth]
    rfl

/-- CLEAR_RETURN_JAM: the track written off, the rack as reported, the jam ended (R144). -/
theorem playSound_clearJamOfReturn {s : State} (h : s.playSound) (p : PairIx) {rack : Nat} (fits : rack ≤ (s.ret p).rackMax) :
    (s.clearJamOfReturn p rack).playSound := by
  obtain ⟨-, hrack, hr⟩ := ret_sound h p
  simp only [State.clearJamOfReturn]
  refine playSound_of_playPart ((playPart_when _ _ _ (playPart_darkTest _ _)).trans (playPart_pauseTest _ _)) ?_
  refine playSound_unjam (playSound_writeOff h p) (p := p)
    (u := { (s.ret p).play with track := [], jamStanding := false, rack := rack })
    ⟨Nat.zero_le _, fits, hr⟩ rfl (congrArg ReturnRec.track (ret_writeOff s p)).symm (.inl ?_)
  have cleared : ((s.writeOff p).modReturn p fun t => { t with rack := rack, jamStanding := false, oldest := 0 }).playPart
      = (s.writeOff p).playPart.putRet p { ((s.writeOff p).ret p).play with jamStanding := false, rack := rack } :=
    playPart_putRet _ p _
  rw [playPart_clearBoth, cleared, ret_writeOff]

/-- The settings of RETURN_STATUS stay in their ranges, and the rack in the new one (R147). -/
theorem sound_store {t : ReturnRec} (h : t.sound) (threshold timeout : Option Nat) : (t.store threshold timeout).sound := by
  obtain ⟨ht, hrack, h4, h12, h5, h60⟩ := h
  have f : 4 ≤ (threshold.map (hold 4 12)).getD t.threshold ∧ (threshold.map (hold 4 12)).getD t.threshold ≤ 12 := by
    cases threshold
    · exact ⟨h4, h12⟩
    · exact ⟨le_hold _ _ _, hold_le (by decide) _⟩
  have g : 5 ≤ (timeout.map (hold 5 60)).getD t.timeout ∧ (timeout.map (hold 5 60)).getD t.timeout ≤ 60 := by
    cases timeout
    · exact ⟨h5, h60⟩
    · exact ⟨le_hold _ _ _, hold_le (by decide) _⟩
  exact ⟨ht, Nat.min_le_left _ _, f.1, f.2, g.1, g.2⟩

end Sys2Proof.Machine
end

section
/-! SUPPORT. Balls, stations, seconds, the desk link, sessions and resets, and the invariant of play. -/

namespace Sys2Proof.Machine

/-! ### A ball through the part -/

theorem playSound_recordBall {s : State} (h : s.playSound) (b : BallIn) (before : Game) : (s.recordBall b before).playSound := by
  simp only [State.recordBall]
  refine State.when_preserves State.playSound _ _ _ ?_ fun _ hu => playSound_frameOver hu b.lane
  exact playSound_of_playPart (by simp [State.reportCheck, State.finishGame]) h

theorem playSound_finishBall {s : State} (h : s.playSound) (l : LaneIx) (image : PinSet) : (s.finishBall l image).playSound := by
  have closed : (s.closeBall l).playSound := playSound_of_playPart (playPart_modMachine s l _) h
  simp only [State.finishBall]
  split
  · exact h
  · split
    · exact playSound_of_playPart (by simp) closed
    · split
      · exact playSound_of_playPart (by simp) closed
      · exact playSound_of_playPart (playPart_afterBall _ _ _ _ _) (playSound_recordBall closed _ _)

theorem playSound_deckImage {s : State} (h : s.playSound) (l : LaneIx) (image : Vector PinState 10) :
    (s.deckImage l image).playSound := by
  simp only [State.deckImage]
  split
  · split
    · exact h
    · split
      · exact playSound_of_playPart (by simp) h
      · exact playSound_finishBall (playSound_of_playPart (by simp) h) l _
  · exact h

theorem playSound_ballAtDeck {s : State} (h : s.playSound) (l : LaneIx) : (s.ballAtDeck l).playSound := by
  simp only [State.ballAtDeck]
  split
  · exact playSound_trackAppend (playSound_of_playPart (by simp) h) l _
  · exact playSound_of_playPart (playPart_report _ _) (playSound_trackAppend h l _)
  · exact playSound_of_playPart (playPart_report _ _) (playSound_trackAppend h l _)

/-! ### Stations -/

theorem playSound_attach {s : State} (h : s.playSound) (p : PairIx) (a : HelloAnswer) (withLoss : Bool) (cause : BackCause) :
    (s.attach p a withLoss cause).playSound := by
  simp only [State.attach]
  generalize hw : State.when withLoss (State.handLoss true p) _ = lost
  have hlost : lost.playSound := playSound_of_playPart (by rw [← hw]; simp) h
  refine playSound_of_playPart ?_ (playSound_seedReturn hlost p a.rackCount.toNat)
  rw [playPart_report, playPart_lateOrders]
  exact playPart_each _ _ (fun _ _ => by simp) _

theorem playSound_hello {s : State} (h : s.playSound) (e : Exchange) (a : HelloAnswer) : (s.hello e a).playSound := by
  have attached (withLoss : Bool) (cause : BackCause) := playSound_attach h e.pair a withLoss cause
  simp only [State.hello]
  split
  · split
    · exact attached _ _
    · exact h
  · split
    · exact playSound_seedReturn (playSound_of_playPart (by simp) h) _ _
    · exact h
  · split
    · exact attached _ _
    · exact attached _ _
    all_goals exact h
  · split
    · exact attached _ _
    · exact h
  · split
    · exact attached _ _
    · exact h

theorem playSound_helloIn {s : State} (h : s.playSound) (a : HelloAnswer) : (s.helloIn a).playSound := by
  have closed : s.closeExchange.playSound := playSound_of_playPart (playPart_closeExchange s) h
  unfold State.helloIn
  split
  · exact h
  · split
    · exact playSound_of_playPart (playPart_passOver _ _) (playSound_hello closed _ a)
    · exact h

theorem playSound_handEvent {s : State} (h : s.playSound) (p : PairIx) (e : BusEvent) : (s.handEvent p e).playSound := by
  cases e <;> simp only [State.handEvent]
  case ballAtDeck side => exact playSound_ballAtDeck h _
  case foul side => exact playSound_of_playPart (playPart_foul _ _) h
  case deckImage side seq pins =>
    split
    · exact h
    · exact playSound_deckImage h _ _
  case cycleDone side seq pins =>
    split
    · exact h
    · exact playSound_of_playPart (playPart_cycleDone _ _ _) h
  case machineJam side cause => exact playSound_of_playPart (playPart_machineJam _ _ _) h
  case ballAtRack => exact playSound_ballAtRack h p
  case ballTaken => exact playSound_ballTaken h p

/-- An event is a repeat, or marked taken, or marked taken and handed to its owner (R93). -/
theorem takeEvent_cases (s : State) (p : PairIx) (e : StationEvent) :
    let taken := s.modStation p fun t => { t with lastEvent := some e.seq }
    s.takeEvent p e = s ∨ s.takeEvent p e = taken.handEvent p e.event ∨ s.takeEvent p e = taken := by
  unfold State.takeEvent
  split
  · exact .inl rfl
  · exact .inr (ite_eq_or_eq _ _ _)

theorem playSound_takeEvent {s : State} (h : s.playSound) (p : PairIx) (e : StationEvent) : (s.takeEvent p e).playSound := by
  have taken : (s.modStation p fun t => { t with lastEvent := some e.seq }).playSound := playSound_of_playPart (by simp) h
  obtain e' | e' | e' := takeEvent_cases s p e <;> rw [e']
  · exact h
  · exact playSound_handEvent taken p e.event
  · exact taken

theorem playSound_statusIn {s : State} (h : s.playSound) (a : StatusAnswer) : (s.statusIn a).playSound := by
  have closed : s.closeExchange.playSound := playSound_of_playPart (playPart_closeExchange s) h
  have marked (p : PairIx) : (s.closeExchange.modStation p (Station.answered a)).playSound := playSound_of_playPart (by simp) closed
  unfold State.statusIn
  split
  · exact h
  · rename_i e _
    split
    · split
      · simp only [State.statusTaken]
        split
        · exact playSound_of_playPart (playPart_eventsLost _ _) (marked _)
        · split
          · exact marked _
          · exact playSound_takeEvent (marked _) _ _
      · exact closed
    · exact h

/-! ### Seconds and desk silence -/

/-- The desk lost and the next-game hold are set together (R181). -/
theorem playSound_loseDesk {s : State} (h : s.playSound) : s.loseDesk.playSound := by
  rw [playSound_iff] at h ⊢
  exact ⟨h.lanes, h.rets, rfl⟩

theorem playSound_dueSilence {s : State} (h : s.playSound) : s.dueSilence.playSound := by
  unfold State.dueSilence
  split
  · exact playSound_loseDesk (s := { s with due := { s.due with deskSilence := false } }) h
  · exact h

theorem playSound_dueOldest {s : State} (h : s.playSound) (p : PairIx) : (s.dueOldest p).playSound := by
  unfold State.dueOldest
  split
  · exact playSound_declareReturnJam (s := { s with due := { s.due with oldest := s.due.oldest.filter (· ≠ p) } }) h p
  · exact h

theorem playSound_drain {s : State} (h : s.playSound) : s.drain.playSound := by
  simp only [State.drain]
  split
  · exact h
  · refine State.each_preserves State.playSound _ _ (fun p _ _ hu => playSound_dueOldest hu p) _ ?_
    refine playSound_of_playPart ((playPart_each _ _ (fun _ _ => by simp) _).trans (playPart_each _ _ (fun _ _ => by simp) _)) ?_
    refine playSound_dueSilence (playSound_of_playPart ?_ h)
    rw [playPart_each _ _ fun _ _ => playPart_duePrepaid _ _, playPart_each _ _ fun _ _ => playPart_duePlay _ _, playPart_dueMinute]

/-- A good frame ends the desk-lost state and the hold together (R181). -/
theorem playSound_endSilence {s : State} (h : s.playSound) : s.endSilence.playSound := by
  simp only [State.endSilence]
  split
  · exact playSound_of_playPart (playPart_modLink s _ rfl) h
  · generalize hu : State.report _ _ = u
    have e : u.playPart = { s.playPart with lost := false } := by
      rw [← hu, playPart_report]
      rfl
    refine playSound_clearHold ?_
    rw [playSound_iff] at h ⊢
    show ({ u.playPart with hold := false } : PlayPart).sound
    rw [e]
    exact ⟨h.lanes, h.rets, rfl⟩

/-! ### The receiver and the transmit line -/

@[simp] theorem Link.listFault_lost (f : LinkFault) (k : Link) : (k.listFault f).lost = k.lost := by
  unfold Link.listFault
  split <;> rfl

@[simp] theorem Link.accept_lost (kind tag : Byte) (body : List Byte) (k : Link) : (k.accept kind tag body).lost = k.lost := by
  unfold Link.accept
  split
  · rfl
  · simp

@[simp] theorem Link.send_lost (k : Link) : k.send.lost = k.lost := by
  unfold Link.send
  repeat' split
  all_goals rfl

@[simp] theorem Link.sent_lost (k : Link) : k.sent.lost = k.lost := by
  unfold Link.sent
  split <;> rfl

theorem playSound_receive {s : State} (h : s.playSound) (kind tag : Byte) (body : List Byte) (check : Byte) :
    (s.receive kind tag body check).playSound := by
  unfold State.receive
  split
  · exact h
  · exact h
  · refine playSound_of_playPart (playPart_modLink _ _ rfl) ?_
    split
    · exact playSound_of_playPart (by simp) h
    · split
      · exact playSound_of_playPart (by simp) h
      · exact playSound_of_playPart (by simp) (playSound_endSilence h)

@[simp] theorem playPart_badByte (s : State) (place : FaultPlace) : (s.badByte place).playPart = s.playPart := by
  unfold State.badByte
  split
  · rfl
  · exact playPart_modLink s _ (congrArg Option.isSome (Link.listFault_lost _ _))
  · exact playPart_modLink s _ rfl

@[simp] theorem playPart_badLength (s : State) : s.badLength.playPart = s.playPart := by
  unfold State.badLength
  split
  · rfl
  · rfl
  · exact playPart_modLink s _ (congrArg Option.isSome (Link.listFault_lost _ _))

@[simp] theorem playPart_gap (s : State) (tag : Option Byte) : (s.gap tag).playPart = s.playPart := by
  unfold State.gap
  split
  · rfl
  · exact playPart_modLink s _ rfl
  · exact playPart_modLink s _ (congrArg Option.isSome (Link.listFault_lost _ _))

@[simp] theorem playPart_huntByte (s : State) (b : Byte) : (s.huntByte b).playPart = s.playPart := by
  unfold State.huntByte
  repeat' split
  case h_1.isTrue => exact playPart_modLink s _ rfl
  case h_3 => exact playPart_modLink s _ rfl
  all_goals rfl

/-! ### Sessions -/

/-- OPEN_SESSION: the session OPEN and NO_SESSION cleared, on a lane at home (R6, R18). -/
theorem playSound_openLane {s : State} (h : s.playSound) (l : LaneIx) (c : SessionSettings) (mode : BillingMode) (roster : List SlotView) :
    (s.openLane l c mode roster).playSound := by
  simp only [State.openLane]
  rw [playSound_iff, playPart_handHead, playPart_modLane _ _ _ rfl, playPart_reportHead, playPart_setQueue, playPart_modLane _ _ _ rfl,
    ← playSound_iff]
  generalize hu : State.modLane l _ s = cleared
  have hplay : cleared.playPart = s.playPart.putLane l { (s.lane l).play with boundary := .unmarked, startLane := l } := by
    rw [← hu, playPart_putLane]
    rfl
  have hcleared : cleared.playSound := playSound_putLane h hplay ((lane_sound h l).unmark rfl)
  have hl := lane_sound hcleared l
  have opened : (cleared.setSession l .open_).playPart = cleared.playPart.putLane l { (cleared.lane l).play with session := .open_ } :=
    playPart_setSession cleared l .open_
  have lane : ((cleared.setSession l .open_).lane l).play = { (cleared.lane l).play with session := .open_ } :=
    (congrFun (congrArg PlayPart.lanes opened) l).trans (PlayPart.putLane_lanes_self _ _ _)
  refine playSound_putLane hcleared (l := l) (x := { (cleared.lane l).play with session := .open_, noSession := false }) ?_ ?_
  · rw [playPart_clearReason, opened, PlayPart.putLane_putLane, lane]
    rfl
  · exact ⟨by simp, hl.returnJam, hl.returnBacklog, fun _ => by simp, fun _ => rfl, hl.home⟩

@[simp] theorem playPart_orphanBalls (s : State) (c : LaneIx) : (s.orphanBalls c).playPart = s.playPart := by
  simp [State.orphanBalls, State.orphan]

/-- A lane closed: unmarked by step 1 of R7, DESK_HOLD cleared and NO_SESSION raised, the session CLOSED. -/
theorem playSound_closeLane {s : State} (h : s.playSound) (l : LaneIx) : (s.closeLane l).playSound := by
  have turned := playSound_closeTurns (playSound_of_playPart (playPart_orphanBalls s l) h) l
  have unmarked := boundary_closeTurns (s.orphanBalls l) l
  simp only [State.closeLane]
  generalize (s.orphanBalls l).closeTurns l = u at turned unmarked
  generalize hb : State.finalise l _ = billed
  have ebilled : billed.playPart = u.playPart := by
    rw [← hb, playPart_finalise]
    exact playPart_modLane u l _ rfl
  have hbilled := playSound_of_playPart ebilled turned
  have hl := lane_sound hbilled l
  have hmark : (billed.lane l).boundary = .unmarked := (boundary_of_playPart ebilled l).trans unmarked
  have lane1 : ((billed.clearReason .deskHold l).lane l).play = (billed.lane l).play.flag .deskHold false :=
    (congrFun (congrArg PlayPart.lanes (playPart_clearReason billed l .deskHold)) l).trans (PlayPart.putLane_lanes_self _ _ _)
  generalize hg : State.raiseReason .noSession _ l _ = gated
  have egated : gated.playPart = billed.playPart.putLane l (((billed.lane l).play.flag .deskHold false).flag .noSession true) := by
    rw [← hg, playPart_raiseReason, lane1, playPart_clearReason, PlayPart.putLane_putLane]
  have lane2 : (gated.lane l).play = ((billed.lane l).play.flag .deskHold false).flag .noSession true :=
    (congrFun (congrArg PlayPart.lanes egated) l).trans (PlayPart.putLane_lanes_self _ _ _)
  refine playSound_putLane hbilled (l := l)
    (x := { (billed.lane l).play with deskHold := false, noSession := true, session := .closed }) ?_ ?_
  · rw [playPart_setSession, playPart_putLane, PlayPart.putLane_putLane, State.lane_modLane_self, egated, PlayPart.putLane_putLane]
    congr 1
    exact congrArg (fun x : LanePlay => { x with session := .closed }) lane2
  · refine ⟨iff_of_true rfl rfl, hl.returnJam, hl.returnBacklog, nofun, fun e => ?_, hl.home⟩
    exact absurd (e.symm.trans hmark) (by decide)

@[simp] theorem playPart_closeStandby (s : State) (l : LaneIx) : (s.closeStandby l).playPart = s.playPart := by
  simp [State.closeStandby]

theorem playSound_closeSession {s : State} (h : s.playSound) (l : LaneIx) : (s.closeSession l).playSound :=
  playSound_of_playPart (playPart_closeStandby _ l) (playSound_closeLane h l)

/-- DESK_HOLD is raised on a running session (R10). -/
theorem playSound_holdLane {s : State} (h : s.playSound) (l : LaneIx) : (holdLane l s).state.playSound := by
  have hl := lane_sound h l
  unfold holdLane
  split
  · exact h
  · rename_i running
    split
    · exact h
    · refine playSound_putLane h (playPart_raiseReason s l .deskHold s.clock) ?_
      refine ⟨hl.noSession, hl.returnJam, hl.returnBacklog, fun _ e => running ?_, hl.reached, hl.home⟩
      rw [show (s.lane l).session = .closed from e]
      rfl

theorem playSound_releaseLane {s : State} (h : s.playSound) (l : LaneIx) : (releaseLane l s).state.playSound := by
  have hl := lane_sound h l
  unfold releaseLane
  split
  · refine playSound_putLane h (playPart_clearReason s l .deskHold) ?_
    exact ⟨hl.noSession, hl.returnJam, hl.returnBacklog, nofun, hl.reached, hl.home⟩
  · exact h

/-! ### Resets -/

/-- A lane as reset, its reasons those of no session, beside an empty track. -/
theorem sound_reset {P : PlayPart} (lanes : ∀ l, P.lanes l = ⟨.closed, .unmarked, l, true, false, false, false⟩)
    (rets : ∀ p, (P.rets p).sound ∧ (P.rets p).track = [] ∧ (P.rets p).jamStanding = false) (hold : P.hold = P.lost) : P.sound := by
  refine ⟨fun l => ?_, fun p => (rets p).1, hold⟩
  obtain ⟨-, track, jam⟩ := rets (pairOf l)
  rw [lanes l]
  exact ⟨by simp, by simp [jam], by simp [track], nofun, nofun, rfl⟩

theorem initial_sound : ReturnRec.initial.sound := by
  simp only [ReturnRec.sound, ReturnRec.initial]
  decide

theorem lane_powerOn (rate1 rate0 : Bool) (l : LaneIx) : (State.powerOn rate1 rate0).lane l = Lane.initial l .epoch .initial := by
  fin_cases l <;> rfl

theorem pair_powerOn (rate1 rate0 : Bool) (p : PairIx) : (State.powerOn rate1 rate0).pair p = Pair.initial .initial false := by
  simp [State.pair, State.powerOn]

theorem playSound_powerOn (rate1 rate0 : Bool) : (State.powerOn rate1 rate0).playSound := by
  rw [playSound_iff]
  refine sound_reset (fun l => ?_) (fun p => ?_) rfl
  · simp only [State.playPart, lane_powerOn]
    rfl
  · simp only [State.playPart, State.ret, pair_powerOn]
    exact ⟨initial_sound, rfl, rfl⟩

theorem lane_lineReset (rate1 rate0 : Bool) (s : State) (l : LaneIx) :
    (s.lineReset rate1 rate0).lane l = Lane.initial l s.clock (s.lane l).health := mapLanes_get _ _ l

theorem pair_lineReset (rate1 rate0 : Bool) (s : State) (p : PairIx) :
    (s.lineReset rate1 rate0).pair p = Pair.initial (s.pair p).health true := mapPairs_get _ _ p

theorem playSound_lineReset (rate1 rate0 : Bool) (s : State) : (s.lineReset rate1 rate0).playSound := by
  rw [playSound_iff]
  refine sound_reset (fun l => ?_) (fun p => ?_) rfl
  · simp only [State.playPart, lane_lineReset]
    rfl
  · simp only [State.playPart, State.ret, pair_lineReset]
    exact ⟨initial_sound, rfl, rfl⟩

theorem lane_resetCentre (s : State) (l : LaneIx) :
    s.resetCentre.lane l = Lane.centreReset l ((s.each s.runningLanes State.endSession).lane l) := mapLanes_get _ _ l

theorem pair_resetCentre (s : State) (p : PairIx) :
    s.resetCentre.pair p = Pair.centreReset p ((s.each s.runningLanes State.endSession).pair p) := mapPairs_get _ _ p

theorem playSound_endSession {s : State} (h : s.playSound) (l : LaneIx) : (s.endSession l).playSound :=
  playSound_of_playPart (playPart_report _ _) (playSound_closeLane h l)

/-- The sessions end soundly, and what RESET CENTRE then clears keeps NO_SESSION with the session (R21, R148). -/
theorem playSound_resetCentre {s : State} (h : s.playSound) : s.resetCentre.playSound := by
  have ended := State.each_preserves State.playSound s.runningLanes State.endSession (fun l _ _ hu => playSound_endSession hu l) s h
  rw [playSound_iff] at ended ⊢
  refine ⟨fun l => ?_, fun p => ?_, ended.hold⟩
  · have hl := ended.lanes l
    simp only [State.playPart, State.ret, lane_resetCentre, pair_resetCentre]
    exact ⟨hl.noSession, iff_of_false nofun nofun, iff_of_false nofun (by simp [Pair.centreReset, ReturnRec.play]), nofun, nofun, rfl⟩
  · obtain ⟨-, -, hr⟩ := ended.rets p
    simp only [State.playPart, State.ret, pair_resetCentre]
    exact ⟨Nat.zero_le _, Nat.zero_le _, hr⟩

end Sys2Proof.Machine
end

section
/-! SUPPORT. What the checks of a request and its occasion preserve, and the invariant of play over each request, each
command and each step. -/

namespace Sys2Proof.Machine

/-! ### The checks of a request -/

section Checks

variable {P : State → Prop} {s : State}

theorem checkLength_preserves (agrees : Bool) {k : State → Answer} (hs : P s) (hk : P (k s).state) :
    P (checkLength agrees k s).state := by
  unfold checkLength
  split
  · exact hk
  · exact hs

theorem checkLane_preserves (n : Nat) {k : LaneIx → State → Answer} (hs : P s) (hk : ∀ l, findLane n = some l → P (k l s).state) :
    P (checkLane n k s).state := by
  obtain e | e | ⟨l, hl, e⟩ := checkLane_cases n k s <;> rw [e]
  · exact hs
  · exact hs
  · exact hk l hl

theorem checkLaneExempt_preserves (n : Nat) {k : LaneIx → State → Answer} (hs : P s)
    (hk : ∀ l, findLane n = some l → P (k l s).state) : P (checkLaneExempt n k s).state := by
  obtain e | e | ⟨l, hl, e⟩ := checkLaneExempt_cases n k s <;> rw [e]
  · exact hs
  · exact hs
  · exact hk l hl

theorem checkPair_preserves (n : Nat) {k : PairIx → State → Answer} (hs : P s) (hk : ∀ p, findPair n = some p → P (k p s).state) :
    P (checkPair n k s).state := by
  obtain e | e | ⟨p, hp, e⟩ := checkPair_cases n k s <;> rw [e]
  · exact hs
  · exact hs
  · exact hk p hp

theorem checkRunning_preserves (agrees : Bool) (l : LaneIx) {k : LaneIx → State → Answer} (hs : P s) (hk : P (k l s).state) :
    P (checkRunning agrees k l s).state := by
  unfold checkRunning
  split
  · exact checkLength_preserves agrees hs hk
  · exact hs

theorem checkHeld_preserves (agrees : Bool) (l : LaneIx) {k : LaneIx → State → Answer} (hs : P s) (hk : P (k l s).state) :
    P (checkHeld agrees k l s).state := by
  unfold checkHeld
  split
  · exact checkLength_preserves agrees hs hk
  · exact hs

theorem checkSlot_preserves (slot : Nat) (l : LaneIx) {k : Bowler → LaneIx → State → Answer} (hs : P s)
    (hk : ∀ b, P (k b l s).state) : P (checkSlot slot k l s).state := by
  unfold checkSlot
  split
  · exact hs
  · exact hk _

theorem checkOpenRecord_preserves (slot game : Nat) (l : LaneIx) {k : Bowler → Game → LaneIx → State → Answer} (hs : P s)
    (hk : ∀ b g, P (k b g l s).state) : P (checkOpenRecord slot game k l s).state := by
  refine checkSlot_preserves slot l hs fun b => ?_
  simp only
  split
  · exact hs
  · split
    · exact hs
    · exact hk _ _

theorem checkStation_preserves (l : LaneIx) {k : LaneIx → State → Answer} (hs : P s) (hk : P (k l s).state) :
    P (checkStation k l s).state := by
  unfold checkStation
  split
  · exact hs
  · exact hk

theorem checkValid_preserves (valid : Bool) (l : LaneIx) {k : LaneIx → State → Answer} (hs : P s) (hk : P (k l s).state) :
    P (checkValid valid k l s).state := by
  unfold checkValid
  split
  · exact hk
  · exact hs

/-- A request placed with its reply, where the owner's answer and the placing preserve P. -/
theorem carryOut_preserves (kind : RequestKind) {f : List Byte → State → Answer} (hs : P s)
    (place : ∀ r t, P t → P (t.modLink (Link.place r))) (hf : ∀ body, P (f body s).state) : P (s.carryOut kind f) := by
  unfold State.carryOut
  split
  · exact hs
  · split
    · exact place _ _ (hf _)
    · exact hs

/-- A step of the running part, where the parts still due preserve P. -/
theorem live_preserves {f : State → State} (hs : P s) (drain : P s.drain) (hf : ∀ t, P t → P (f t)) : P (State.live f s) := by
  unfold State.live
  split
  · exact hs
  · exact hf _ drain

theorem resetRequest_preserves (own other : Byte) {f : Bool → State → Answer} (hs : P s)
    (place : ∀ r t, P t → P (t.modLink (Link.place r))) (hf : ∀ force, P (f force s).state) : P (s.resetRequest own other f) := by
  have refused (st : Status) : P (s.carryOut .reset fun _ => refuse st) := carryOut_preserves _ hs place fun _ => hs
  unfold State.resetRequest
  split
  · exact hs
  · split
    · split
      · exact hs
      · refine carryOut_preserves _ hs place fun _ => ?_
        split
        · exact hf _
        · exact hs
    · exact refused _

end Checks

/-! ### The requests and the invariant of play -/

theorem playSound_live {s : State} (h : s.playSound) {f : State → State} (hf : ∀ t : State, t.playSound → (f t).playSound) :
    (State.live f s).playSound := live_preserves h (playSound_drain h) hf

theorem playSound_carryOut (kind : RequestKind) {f : List Byte → State → Answer}
    (hf : ∀ (body : List Byte) (t : State), t.playSound → (f body t).state.playSound) {s : State} (h : s.playSound) :
    (s.carryOut kind f).playSound :=
  carryOut_preserves kind h (fun _ _ ht => playSound_of_playPart (playPart_modLink _ _ rfl) ht) fun body => hf body s h

theorem playSound_openSession {s : State} (h : s.playSound) (agrees : Bool) (f : OpenFields) (l : LaneIx) :
    (openSession agrees f l s).state.playSound := by
  unfold openSession
  split
  · exact h
  · split
    · exact h
    · split
      · exact h
      · split
        · exact h
        · dsimp only
          exact playSound_openLane h l _ _ _

theorem playPart_addBowler (s : State) (l : LaneIx) (v : SlotView) : (s.addBowler l v).playPart = s.playPart := by
  simp only [State.addBowler]
  rw [playPart_when _ _ _ (by simp), playPart_modAccount]
  exact playPart_modLane s l _ rfl

theorem playPart_addBowlerRequest (f : AddBowlerFields) (l : LaneIx) (s : State) : (addBowler f l s).state.playPart = s.playPart := by
  simp only [addBowler]
  split
  · rfl
  · split
    · rfl
    · exact playPart_addBowler s l _

theorem playSound_withdrawBowler {s : State} (h : s.playSound) (slot : Nat) (b : Bowler) (l : LaneIx) :
    (withdrawBowler slot b l s).state.playSound := by
  simp only [withdrawBowler, State.withdrawBowler]
  repeat' split
  · exact h
  · exact h
  · exact playSound_testBoundary (playSound_of_playPart (by simp) h) l
  · exact playSound_of_playPart (by simp) h

theorem playSound_markBlind {s : State} (h : s.playSound) (slot : Nat) (b : Bowler) (l : LaneIx) :
    (markBlind slot b l s).state.playSound := by
  simp only [markBlind, State.blindBowler]
  repeat' split
  · exact h
  · exact h
  · exact h
  · exact playSound_testBoundary (playSound_of_playPart (by simp) h) l
  · exact playSound_of_playPart (by simp) h

theorem playPart_skipTurn (l : LaneIx) (s : State) : (skipTurn l s).state.playPart = s.playPart := by
  unfold skipTurn
  repeat' split
  · rfl
  · simp
  · rfl

theorem playSound_cancelPending {s : State} (h : s.playSound) (p : PairIx) : (s.cancelPending p).playSound := by
  unfold State.cancelPending
  split
  · exact playSound_retakePair (playSound_dropPending h p) p
  · exact h

theorem playSound_pairMode {s : State} (h : s.playSound) (mode : Option PairMode) (p : PairIx) : (pairMode mode p s).state.playSound := by
  unfold pairMode
  split
  · exact h
  · rename_i m
    repeat' split
    · exact playSound_cancelPending h p
    · exact h
    · exact playSound_changeModeNow h p m
    · exact playSound_of_playPart (playPart_modPair s p _ rfl) h

theorem playPart_correctFrame (slot frame : Nat) (balls : List BallField) (g : Game) (l : LaneIx) (s : State) :
    (correctFrame slot frame balls g l s).state.playPart = s.playPart := by
  simp only [correctFrame]
  repeat' split
  · rfl
  · rfl
  · rfl
  · rfl
  · simp

theorem playPart_certifyGame (game : Nat) (l : LaneIx) (s : State) : (certifyGame game l s).state.playPart = s.playPart := by
  simp only [certifyGame]
  repeat' split
  · rfl
  · rfl
  · rfl
  · rfl
  · exact playPart_modLane s l _ rfl

theorem playPart_ackCheck (slot frame : Nat) (ball : Option Nat) (g : Game) (l : LaneIx) (s : State) :
    (ackCheck slot frame ball g l s).state.playPart = s.playPart := by
  simp only [ackCheck]
  repeat' split
  · rfl
  · rfl
  · exact playPart_modGame s l _ _ _

theorem playPart_addCredit (amount : Nat) (l : LaneIx) (s : State) : (addCredit amount l s).state.playPart = s.playPart := by
  unfold addCredit
  repeat' split
  · rfl
  · rfl
  · rfl
  · simp

/-- MACHINE_POWER, CLEAR_JAM and SERVICE act through the Pinsetter Supervisor on their lane, and on its power-off. -/
theorem playPart_powerOn (l : LaneIx) (s : State) : (powerOn l s).state.playPart = s.playPart := by
  unfold powerOn powerAnswer State.pendPowerOff
  repeat' split
  all_goals simp [refuse]

theorem playPart_powerOff (l : LaneIx) (s : State) : (powerOff l s).state.playPart = s.playPart := by
  unfold powerOff powerAnswer State.pendPowerOff
  repeat' split
  all_goals simp [refuse]

theorem playPart_clearJam (l : LaneIx) (s : State) : (clearJam l s).state.playPart = s.playPart := by
  unfold clearJam
  split <;> simp [refuse]

theorem playPart_takeOut (l : LaneIx) (s : State) : (takeOut l s).state.playPart = s.playPart := by
  unfold takeOut serviceAnswer
  repeat' split
  all_goals simp

theorem playPart_bringIn (l : LaneIx) (s : State) : (bringIn l s).state.playPart = s.playPart := by
  unfold bringIn serviceAnswer
  repeat' split
  all_goals simp

theorem playPart_setHealth (f : HealthFields) (l : LaneIx) (s : State) : (setHealth f l s).state.playPart = s.playPart := by
  simp [setHealth]

theorem playSound_returnStatus {s : State} (h : s.playSound) (threshold timeout : Option Nat) (p : PairIx) :
    (returnStatus threshold timeout p s).state.playSound := by
  have ht := ret_sound h p
  simp only [returnStatus]
  split
  · exact h
  · rw [playSound_iff] at h ⊢
    rw [playPart_when _ _ _ (playPart_pauseTest _ _), playPart_putRet]
    exact sound_putRet h (sound_store ht threshold timeout) rfl Iff.rfl

theorem playSound_clearReturnJam {s : State} (h : s.playSound) (balls : Nat) (p : PairIx) : (clearReturnJam balls p s).state.playSound := by
  simp only [clearReturnJam]
  repeat' split
  · exact h
  · exact h
  · exact playSound_clearJamOfReturn h p (Nat.min_le_left _ _)

theorem playPart_setClock (s : State) (t : DateTime) : (s.setClock t).playPart = s.playPart := rfl

/-! ### The commands -/

/-- Every command keeps the gates and the returns sound: a request through its checks, any other by what its meaning
does. -/
theorem playSound_exec (c : Instr) {s : State} (h : s.playSound) : ∃ t, exec c s = .next t ∧ t.playSound := by
  have live {f : State → State} (hf : ∀ t : State, t.playSound → (f t).playSound) : (State.live f s).playSound := playSound_live h hf
  have still {f : State → State} (hf : ∀ t : State, (f t).playPart = t.playPart) : (State.live f s).playSound :=
    live fun t => playSound_of_playPart (hf t)
  have request (kind : RequestKind) {f : List Byte → State → Answer}
      (hf : ∀ (body : List Byte) (t : State), t.playSound → (f body t).state.playSound) :
      (State.live (State.carryOut kind f) s).playSound := live fun _ => playSound_carryOut kind hf
  have part {t : State} (ht : t.playSound) : (if s.held then s else t).playSound := by
    split
    · exact h
    · exact ht
  have tell {t : State} {f : Link → Link} (hf : (f t.link).lost = t.link.lost) (ht : t.playSound) : (t.modLink f).playSound :=
    playSound_of_playPart (playPart_modLink t f (congrArg Option.isSome hf)) ht
  cases c with
  | powerOn rate1 rate0 => exact ⟨_, rfl, playSound_of_playPart rfl (playSound_powerOn rate1 rate0)⟩
  | resetLine rate1 rate0 => exact ⟨_, rfl, playSound_lineReset rate1 rate0 s⟩
  | resetLineAsserted => exact ⟨_, rfl, live fun _ ht => ht⟩
  | frameReceived kind tag body check => exact ⟨_, rfl, live fun _ ht => playSound_receive ht kind tag body check⟩
  | byteFault place => exact ⟨_, rfl, still fun t => playPart_badByte t place⟩
  | lengthFault len =>
    refine ⟨_, rfl, still fun t => ?_⟩
    split
    · rfl
    · exact playPart_badLength t
  | gapFault tag => exact ⟨_, rfl, still fun t => playPart_gap t tag⟩
  | huntStartByte byte => exact ⟨_, rfl, still fun t => playPart_huntByte t byte⟩
  | transmitFrameStart => exact ⟨_, rfl, live fun _ => tell (Link.send_lost _)⟩
  | transmitFrameEnd => exact ⟨_, rfl, live fun _ => tell (Link.sent_lost _)⟩
  | unknownKind =>
    refine ⟨_, rfl, live fun t ht => ?_⟩
    unfold State.refuseUnknown
    repeat' split
    · exact ht
    · exact ht
    · exact tell rfl ht
  | ping => exact ⟨_, rfl, request _ fun _ _ ht => checkLength_preserves _ ht ht⟩
  | status => exact ⟨_, rfl, request _ fun _ _ ht => checkLength_preserves _ ht (tell rfl ht)⟩
  | peek => exact ⟨_, rfl, request _ fun _ _ ht => checkLength_preserves _ ht ht⟩
  | resetCentre =>
    refine ⟨_, rfl, live fun t ht => resetRequest_preserves _ _ ht (fun _ _ => tell rfl) fun force => ?_⟩
    split
    · exact ht
    · exact playSound_resetCentre ht
  | resetLink =>
    exact ⟨_, rfl, live fun t ht => resetRequest_preserves _ _ ht (fun _ _ => tell rfl) fun force => tell rfl ht⟩
  | setLink =>
    refine ⟨_, rfl, request _ fun _ _ ht => ?_⟩
    split
    · exact tell rfl ht
    · exact ht
  | getLink => exact ⟨_, rfl, request _ fun _ _ ht => checkLength_preserves _ ht ht⟩
  | setClock agrees fields =>
    refine ⟨_, rfl, request _ fun _ _ ht => checkLength_preserves _ ht ?_⟩
    split
    · exact playSound_of_playPart (playPart_setClock _ _) ht
    · exact ht
  | getClock => exact ⟨_, rfl, request _ fun _ _ ht => checkLength_preserves _ ht ht⟩
  | setTariff agrees weekday weekend =>
    refine ⟨_, rfl, request _ fun _ _ ht => checkLength_preserves _ ht ?_⟩
    unfold installTariff
    dsimp only
    split
    · exact playSound_of_playPart (playPart_setMeter _ _) ht
    · exact playSound_of_playPart (playPart_setMeter _ _) ht
  | getTariff => exact ⟨_, rfl, request _ fun _ _ ht => checkLength_preserves _ ht ht⟩
  | setBilling agrees fields =>
    exact ⟨_, rfl, request _ fun _ _ ht => checkLength_preserves _ ht (playSound_of_playPart (playPart_setMeter _ _) ht)⟩
  | openSession agrees f =>
    exact ⟨_, rfl, request _ fun _ _ ht => checkLane_preserves _ ht fun l _ => playSound_openSession ht agrees f l⟩
  | closeSession agrees lane =>
    refine ⟨_, rfl, request _ fun _ _ ht => checkLength_preserves _ ht (checkLaneExempt_preserves _ ht fun l _ => ?_)⟩
    split
    · dsimp only
      exact playSound_closeSession ht l
    · exact ht
  | addBowler agrees f =>
    exact ⟨_, rfl, request _ fun _ _ ht => checkLane_preserves _ ht fun l _ => checkRunning_preserves _ l ht
      (playSound_of_playPart (playPart_addBowlerRequest f l _) ht)⟩
  | setBowler agrees f =>
    exact ⟨_, rfl, request _ fun _ _ ht => checkLane_preserves _ ht fun l _ => checkRunning_preserves _ l ht
      (checkSlot_preserves _ l ht fun _ => playSound_of_playPart (playPart_modBowlerOf _ l _ _) ht)⟩
  | withdrawBowler agrees lane slot =>
    exact ⟨_, rfl, request _ fun _ _ ht => checkLane_preserves _ ht fun l _ => checkRunning_preserves _ l ht
      (checkSlot_preserves _ l ht fun b => playSound_withdrawBowler ht slot b l)⟩
  | markBlind agrees lane slot =>
    exact ⟨_, rfl, request _ fun _ _ ht => checkLane_preserves _ ht fun l _ => checkRunning_preserves _ l ht
      (checkSlot_preserves _ l ht fun b => playSound_markBlind ht slot b l)⟩
  | skipTurn agrees lane =>
    exact ⟨_, rfl, request _ fun _ _ ht => checkLane_preserves _ ht fun l _ => checkRunning_preserves _ l ht
      (playSound_of_playPart (playPart_skipTurn l _) ht)⟩
  | pairMode agrees pair mode =>
    exact ⟨_, rfl, request _ fun _ _ ht => checkLength_preserves _ ht (checkPair_preserves _ ht fun p _ =>
      playSound_pairMode ht mode p)⟩
  | holdLane agrees lane =>
    exact ⟨_, rfl, request _ fun _ _ ht => checkLength_preserves _ ht (checkLaneExempt_preserves _ ht fun l _ =>
      playSound_holdLane ht l)⟩
  | releaseLane agrees lane =>
    exact ⟨_, rfl, request _ fun _ _ ht => checkLength_preserves _ ht (checkLaneExempt_preserves _ ht fun l _ =>
      playSound_releaseLane ht l)⟩
  | laneStatus agrees lane =>
    exact ⟨_, rfl, request _ fun _ _ ht => checkLength_preserves _ ht (checkLaneExempt_preserves _ ht fun _ _ => ht)⟩
  | getGame agrees n =>
    refine ⟨_, rfl, request _ fun _ _ ht => checkLane_preserves _ ht fun l _ => checkHeld_preserves _ l ht
      (checkSlot_preserves _ l ht fun b => ?_)⟩
    split
    · exact ht
    · exact ht
  | correctFrame agrees n frame balls =>
    exact ⟨_, rfl, request _ fun _ _ ht => checkLane_preserves _ ht fun l _ => checkHeld_preserves _ l ht
      (checkOpenRecord_preserves _ _ l ht fun _ g => playSound_of_playPart (playPart_correctFrame _ _ _ g l _) ht)⟩
  | certifyGame agrees lane game =>
    exact ⟨_, rfl, request _ fun _ _ ht => checkLane_preserves _ ht fun l _ => checkHeld_preserves _ l ht
      (playSound_of_playPart (playPart_certifyGame game l _) ht)⟩
  | ackCheck agrees n frame ball =>
    exact ⟨_, rfl, request _ fun _ _ ht => checkLane_preserves _ ht fun l _ => checkHeld_preserves _ l ht
      (checkOpenRecord_preserves _ _ l ht fun _ g => playSound_of_playPart (playPart_ackCheck _ _ _ g l _) ht)⟩
  | getTeam agrees lane game =>
    refine ⟨_, rfl, request _ fun _ _ ht => checkLane_preserves _ ht fun l _ => checkHeld_preserves _ l ht ?_⟩
    unfold getTeam
    dsimp only
    split
    · exact ht
    · exact ht
  | getAccount agrees lane =>
    refine ⟨_, rfl, request _ fun _ _ ht => checkLength_preserves _ ht (checkLane_preserves _ ht fun l _ => ?_)⟩
    split
    · exact ht
    · exact ht
  | addCredit agrees lane amount =>
    refine ⟨_, rfl, request _ fun _ _ ht => checkLane_preserves _ ht fun l _ => checkLength_preserves _ ht ?_⟩
    split
    · exact playSound_of_playPart (playPart_addCredit amount l _) ht
    · exact ht
  | machinePowerOn agrees lane valid =>
    exact ⟨_, rfl, request _ fun _ _ ht => checkLength_preserves _ ht (checkLane_preserves _ ht fun l _ =>
      checkValid_preserves _ l ht (checkStation_preserves l ht (playSound_of_playPart (playPart_powerOn l _) ht)))⟩
  | machinePowerOff agrees lane valid =>
    exact ⟨_, rfl, request _ fun _ _ ht => checkLength_preserves _ ht (checkLane_preserves _ ht fun l _ =>
      checkValid_preserves _ l ht (checkStation_preserves l ht (playSound_of_playPart (playPart_powerOff l _) ht)))⟩
  | clearJam agrees lane =>
    exact ⟨_, rfl, request _ fun _ _ ht => checkLength_preserves _ ht (checkLane_preserves _ ht fun l _ =>
      checkStation_preserves l ht (playSound_of_playPart (playPart_clearJam l _) ht))⟩
  | serviceOut agrees lane valid =>
    exact ⟨_, rfl, request _ fun _ _ ht => checkLength_preserves _ ht (checkLane_preserves _ ht fun l _ =>
      checkValid_preserves _ l ht (checkStation_preserves l ht (playSound_of_playPart (playPart_takeOut l _) ht)))⟩
  | serviceIn agrees lane valid =>
    exact ⟨_, rfl, request _ fun _ _ ht => checkLength_preserves _ ht (checkLane_preserves _ ht fun l _ =>
      checkValid_preserves _ l ht (checkStation_preserves l ht (playSound_of_playPart (playPart_bringIn l _) ht)))⟩
  | setMachine agrees f =>
    exact ⟨_, rfl, request _ fun _ t ht => checkLength_preserves _ ht (checkPair_preserves _ ht fun p _ =>
      playSound_of_playPart (playPart_modPair t p _ rfl) ht)⟩
  | getHealth agrees lane =>
    exact ⟨_, rfl, request _ fun _ _ ht => checkLength_preserves _ ht (checkLane_preserves _ ht fun _ _ => ht)⟩
  | setHealth agrees f =>
    exact ⟨_, rfl, request _ fun _ _ ht => checkLane_preserves _ ht fun l _ => checkLength_preserves _ ht
      (playSound_of_playPart (playPart_setHealth f l _) ht)⟩
  | stationReset agrees pair hold =>
    exact ⟨_, rfl, request _ fun _ _ ht => checkLength_preserves _ ht (checkPair_preserves _ ht fun p _ =>
      playSound_of_playPart (playPart_resetStation _ p _) ht)⟩
  | returnStatus agrees pair threshold timeout =>
    exact ⟨_, rfl, request _ fun _ _ ht => checkPair_preserves _ ht fun p _ => checkLength_preserves _ ht
      (playSound_returnStatus ht threshold timeout p)⟩
  | clearReturnJam agrees pair balls =>
    exact ⟨_, rfl, request _ fun _ _ ht => checkPair_preserves _ ht fun p _ => checkLength_preserves _ ht
      (playSound_clearReturnJam ht balls p)⟩
  | secondEvent =>
    refine ⟨_, rfl, ?_⟩
    split
    · exact playSound_of_playPart (playPart_toSecond s) h
    · exact playSound_of_playPart (playPart_second _) (playSound_drain h)
  | minuteEvent => exact ⟨_, rfl, part (playSound_of_playPart (playPart_dueMinute s) h)⟩
  | playMinute lane =>
    exact ⟨_, rfl, part (playSound_of_playPart ((playPart_duePlay _ lane).trans (playPart_dueMinute s)) h)⟩
  | prepaidMinute lane =>
    exact ⟨_, rfl, part (playSound_of_playPart ((playPart_duePrepaid _ lane).trans (playPart_dueMinute s)) h)⟩
  | deskSilenceExpiry => exact ⟨_, rfl, part (playSound_dueSilence h)⟩
  | idleTimerExpiry lane => exact ⟨_, rfl, part (playSound_of_playPart (playPart_dueIdle s lane) h)⟩
  | onTimeElapsed lane => exact ⟨_, rfl, part (playSound_of_playPart (playPart_dueOnTime s lane) h)⟩
  | oldestEntryExpiry pair => exact ⟨_, rfl, part (playSound_dueOldest h pair)⟩
  | settleExpiry lane => exact ⟨_, rfl, still fun t => playPart_settleOut t lane⟩
  | rereadSettleExpiry lane => exact ⟨_, rfl, still fun t => playPart_rereadOut t lane⟩
  | readTimeout lane => exact ⟨_, rfl, still fun t => playPart_readOut t lane⟩
  | cycleTimeout lane => exact ⟨_, rfl, still fun t => playPart_cycleOut t lane⟩
  | warmUpExpiry lane => exact ⟨_, rfl, still fun t => playPart_warmUpOut t lane⟩
  | paceTimerExpiry => exact ⟨_, rfl, still playPart_paceOut⟩
  | resetHoldExpiry pair => exact ⟨_, rfl, still fun t => playPart_holdOut t pair⟩
  | sendPoll => exact ⟨_, rfl, still playPart_sendPoll⟩
  | sendProbe => exact ⟨_, rfl, still playPart_sendProbe⟩
  | sendResetPoll => exact ⟨_, rfl, still playPart_sendReset⟩
  | answerWindowExpiry => exact ⟨_, rfl, still playPart_windowOut⟩
  | helloAnswer answer => exact ⟨_, rfl, live fun _ ht => playSound_helloIn ht answer⟩
  | statusAnswer answer => exact ⟨_, rfl, live fun _ ht => playSound_statusIn ht answer⟩

theorem playSound_idleTenth {s : State} (h : s.playSound) : s.idleTenth.playSound := by
  unfold State.idleTenth
  split
  · exact playSound_of_playPart (playPart_advance s 1) h
  · exact playSound_of_playPart (playPart_advance _ 1) (playSound_drain h)

/-- Settles O56, by what each command does to the part of play. -/
theorem stepsKeepThePlaySound : Obligations.StepsKeepThePlaySound := by
  unfold Obligations.StepsKeepThePlaySound
  intro s t h
  unfold step
  split
  · rintro ⟨rfl⟩
    exact playSound_idleTenth h
  · rename_i c rest _
    obtain ⟨u, e, hu⟩ := playSound_exec c (s := { s with pending := rest }) h
    rw [e]
    rintro ⟨rfl⟩
    exact hu

end Sys2Proof.Machine
end

section
/-! SUPPORT. What lies elsewhere: the other pairs' lanes and records, the clock, the meter, the hold and the return clock.
Each operation on a lane or on a pair leaves alone what lies elsewhere than that pair, where the teams' start lanes are of
their own pairs. -/

namespace Sys2Proof.Machine

/-- The state without one pair's two lanes and records, the bus and the link. -/
@[ext] structure Elsewhere where
  lanes : LaneIx → Option Lane
  pairs : PairIx → Option Pair
  clock : DateTime
  clockValid : Bool
  meter : Meter
  hold : Bool
  returnClock : Reading

/-- What lies elsewhere than in the pair given, or everywhere where none is. -/
def State.elsewhere (o : Option PairIx) (s : State) : Elsewhere :=
  { lanes := fun l => if o = some (pairOf l) then none else some (s.lane l)
    pairs := fun p => if o = some p then none else some (s.pair p)
    clock := s.clock, clockValid := s.clockValid, meter := s.meter, hold := s.hold, returnClock := s.returnClock }

theorem lane_of_elsewhere {o : Option PairIx} {s t : State} (h : t.elsewhere o = s.elsewhere o) {l : LaneIx}
    (hl : o ≠ some (pairOf l)) : t.lane l = s.lane l := by
  simpa [State.elsewhere, hl] using congrFun (congrArg Elsewhere.lanes h) l

theorem pair_of_elsewhere {o : Option PairIx} {s t : State} (h : t.elsewhere o = s.elsewhere o) {p : PairIx} (hp : o ≠ some p) :
    t.pair p = s.pair p := by
  simpa [State.elsewhere, hp] using congrFun (congrArg Elsewhere.pairs h) p

/-! ### The updates -/

@[simp] theorem elsewhere_modLane {p : PairIx} (s : State) (l : LaneIx) (f : Lane → Lane) (h : pairOf l = p) :
    (s.modLane l f).elsewhere (some p) = s.elsewhere (some p) := by
  ext k : 2
  case lanes =>
    by_cases e : p = pairOf k
    · simp [State.elsewhere, e]
    · have hk : k ≠ l := fun hk => e (by rw [hk, h])
      simp [State.elsewhere, e, State.lane_modLane_ne _ _ _ _ hk]
  all_goals rfl

@[simp] theorem elsewhere_modMachine {p : PairIx} (s : State) (l : LaneIx) (f : MachineRec → MachineRec) (h : pairOf l = p) :
    (s.modMachine l f).elsewhere (some p) = s.elsewhere (some p) := elsewhere_modLane s l _ h
@[simp] theorem elsewhere_modAccount {p : PairIx} (s : State) (l : LaneIx) (f : Account → Account) (h : pairOf l = p) :
    (s.modAccount l f).elsewhere (some p) = s.elsewhere (some p) := elsewhere_modLane s l _ h
@[simp] theorem elsewhere_modGame {p : PairIx} (s : State) (l : LaneIx) (slot number : Nat) (f : Game → Game) (h : pairOf l = p) :
    (s.modGame l slot number f).elsewhere (some p) = s.elsewhere (some p) := elsewhere_modLane s l _ h
@[simp] theorem elsewhere_modBowlerOf {p : PairIx} (s : State) (l : LaneIx) (slot : Nat) (f : Bowler → Bowler) (h : pairOf l = p) :
    (s.modBowlerOf l slot f).elsewhere (some p) = s.elsewhere (some p) := elsewhere_modLane s l _ h
@[simp] theorem elsewhere_setQueue {p : PairIx} (s : State) (l : LaneIx) (q : List Turn) (h : pairOf l = p) :
    (s.setQueue l q).elsewhere (some p) = s.elsewhere (some p) := elsewhere_modLane s l _ h

@[simp] theorem elsewhere_modPair (s : State) (p : PairIx) (f : Pair → Pair) :
    (s.modPair p f).elsewhere (some p) = s.elsewhere (some p) := by
  ext q : 2
  case pairs =>
    by_cases e : p = q
    · simp [State.elsewhere, e]
    · simp [State.elsewhere, e, State.pair_modPair_ne _ _ _ _ (Ne.symm e)]
  all_goals rfl

@[simp] theorem elsewhere_modStation (s : State) (p : PairIx) (f : Station → Station) :
    (s.modStation p f).elsewhere (some p) = s.elsewhere (some p) := elsewhere_modPair s p _
@[simp] theorem elsewhere_modReturn (s : State) (p : PairIx) (f : ReturnRec → ReturnRec) :
    (s.modReturn p f).elsewhere (some p) = s.elsewhere (some p) := elsewhere_modPair s p _
@[simp] theorem elsewhere_setLift (s : State) (p : PairIx) (o : LiftOrder) :
    (s.setLift p o).elsewhere (some p) = s.elsewhere (some p) := elsewhere_modPair s p _
@[simp] theorem elsewhere_changeMode (s : State) (p : PairIx) (m : PairMode) (c : ModeCause) :
    (s.changeMode p m c).elsewhere (some p) = s.elsewhere (some p) :=
  elsewhere_modPair s p fun x => { x with mode := m, pendingMode := none }
@[simp] theorem elsewhere_dropPending (s : State) (p : PairIx) :
    (s.dropPending p).elsewhere (some p) = s.elsewhere (some p) := elsewhere_modPair s p _
@[simp] theorem elsewhere_losePair (s : State) (p : PairIx) :
    (s.losePair p).elsewhere (some p) = s.elsewhere (some p) := elsewhere_modPair s p _

@[simp] theorem elsewhere_modLink (s : State) (f : Link → Link) (o : Option PairIx) : (s.modLink f).elsewhere o = s.elsewhere o := rfl
@[simp] theorem elsewhere_report (s : State) (r : Report) (o : Option PairIx) : (s.report r).elsewhere o = s.elsewhere o := rfl
@[simp] theorem elsewhere_modBus (s : State) (f : Bus → Bus) (o : Option PairIx) : (s.modBus f).elsewhere o = s.elsewhere o := rfl

@[simp] theorem elsewhere_when {o : Option PairIx} (s : State) (c : Bool) (f : State → State) (h : (f s).elsewhere o = s.elsewhere o) :
    (s.when c f).elsewhere o = s.elsewhere o := by
  obtain e | e := State.when_cases c f s <;> rw [e]
  exact h

@[simp] theorem elsewhere_darkTest (s : State) (p : PairIx) : (s.darkTest p).elsewhere (some p) = s.elsewhere (some p) := by
  unfold State.darkTest
  repeat' split
  all_goals simp [State.setStation]

@[simp] theorem elsewhere_setSession {p : PairIx} (s : State) (l : LaneIx) (st : SessionState) (h : pairOf l = p) :
    (s.setSession l st).elsewhere (some p) = s.elsewhere (some p) := by
  subst h
  simp [State.setSession]

/-! ### The Pinsetter Supervisor and the gate -/

theorem elsewhere_of_outside {l : LaneIx} {p : PairIx} {s t : State} (hp : pairOf l = p) (h : t.outside l = s.outside l) :
    t.elsewhere (some p) = s.elsewhere (some p) := by
  subst hp
  ext k : 2
  case lanes =>
    by_cases e : pairOf l = pairOf k
    · simp [State.elsewhere, e]
    · simp [State.elsewhere, e, lane_of_outside h (k := k) fun hk => e (by rw [hk])]
  case pairs =>
    by_cases e : pairOf l = k
    · simp [State.elsewhere, e]
    · simp [State.elsewhere, e, pair_of_outside h (Ne.symm e)]
  all_goals
    rw [rest_of_outside h]
    rfl

@[simp] theorem elsewhere_reportHead (s : State) (k : LaneIx) (o : Option PairIx) : (s.reportHead k).elsewhere o = s.elsewhere o := by
  unfold State.reportHead
  split <;> rfl

section Supervisor

variable {l : LaneIx} {p : PairIx} (s : State) (h : pairOf l = p)
include h

@[simp] theorem elsewhere_enter (st : MachineState) : (s.enter l st).elsewhere (some p) = s.elsewhere (some p) :=
  elsewhere_of_outside h (by simp)
@[simp] theorem elsewhere_forgetDeck : (s.forgetDeck l).elsewhere (some p) = s.elsewhere (some p) := elsewhere_of_outside h (by simp)
@[simp] theorem elsewhere_serviceOut : (s.serviceOut l).elsewhere (some p) = s.elsewhere (some p) := elsewhere_of_outside h (by simp)
@[simp] theorem elsewhere_powerDown : (s.powerDown l).elsewhere (some p) = s.elsewhere (some p) := elsewhere_of_outside h (by simp)
@[simp] theorem elsewhere_wake : (s.wake l).elsewhere (some p) = s.elsewhere (some p) := elsewhere_of_outside h (by simp)
@[simp] theorem elsewhere_wakeForHead : (s.wakeForHead l).elsewhere (some p) = s.elsewhere (some p) := elsewhere_of_outside h (by simp)
@[simp] theorem elsewhere_startCycle (c : Cycle) : (s.startCycle l c).elsewhere (some p) = s.elsewhere (some p) :=
  elsewhere_of_outside h (by simp)
@[simp] theorem elsewhere_headTold : (s.headTold l).elsewhere (some p) = s.elsewhere (some p) := elsewhere_of_outside h (by simp)
@[simp] theorem elsewhere_removalOrder : (s.removalOrder l).elsewhere (some p) = s.elsewhere (some p) :=
  elsewhere_of_outside h (by simp)
@[simp] theorem elsewhere_loseLane (silent : Bool) : (s.loseLane silent l).elsewhere (some p) = s.elsewhere (some p) :=
  elsewhere_of_outside h (by simp)
@[simp] theorem elsewhere_raiseReason (r : Reason) (t : DateTime) : (s.raiseReason r t l).elsewhere (some p) = s.elsewhere (some p) :=
  elsewhere_of_outside h (by simp)
@[simp] theorem elsewhere_clearReason (r : Reason) : (s.clearReason r l).elsewhere (some p) = s.elsewhere (some p) :=
  elsewhere_of_outside h (by simp)
@[simp] theorem elsewhere_evaluateBilling : (s.evaluateBilling l).elsewhere (some p) = s.elsewhere (some p) :=
  elsewhere_of_outside h (by simp)

@[simp] theorem elsewhere_testLane (health : LaneHealth) (attrs : List Attribute) :
    (s.testLane l health attrs).elsewhere (some p) = s.elsewhere (some p) := by
  rw [State.testLane, State.each_keeps (State.elsewhere (some p)) _ _ fun r _ t => elsewhere_report t r (some p)]
  exact elsewhere_modLane s l _ h

/-! ### The Billing Meter and the hand-offs -/

@[simp] theorem elsewhere_charge (n : Nat) : (s.charge l n).elsewhere (some p) = s.elsewhere (some p) := by
  unfold State.charge
  repeat' split
  all_goals simp [h]

@[simp] theorem elsewhere_chargeMinute (n : Nat) : (s.chargeMinute l n).elsewhere (some p) = s.elsewhere (some p) := by
  unfold State.chargeMinute
  split <;> simp [h]

@[simp] theorem elsewhere_finalise : (s.finalise l).elsewhere (some p) = s.elsewhere (some p) := by
  have charged (ns : List Nat) (t : State) : (t.each ns (State.charge l)).elsewhere (some p) = t.elsewhere (some p) :=
    State.each_keeps (State.elsewhere (some p)) ns _ (fun n _ t => elsewhere_charge t h n) t
  simp only [State.finalise]
  split <;> simp [h, charged]

@[simp] theorem elsewhere_handHead : (s.handHead l).elsewhere (some p) = s.elsewhere (some p) := by
  simp [State.handHead, State.tellMeter, h]

end Supervisor

theorem elsewhere_each {α : Type} {o : Option PairIx} (xs : List α) (f : α → State → State)
    (h : ∀ x ∈ xs, ∀ s, (f x s).elsewhere o = s.elsewhere o) (s : State) : (s.each xs f).elsewhere o = s.elsewhere o :=
  State.each_keeps (State.elsewhere o) xs f h s

theorem elsewhere_handOffs {p : PairIx} {ls : List LaneIx} (h : ∀ l ∈ ls, pairOf l = p) (s before : State) :
    (s.handOffs before ls).elsewhere (some p) = s.elsewhere (some p) :=
  elsewhere_each _ _ (fun l hl t => by simp [State.headChanged, h l (List.mem_of_mem_filter hl)]) s

theorem elsewhere_evaluateAccount {l : LaneIx} {p : PairIx} (h : pairOf l = p) (s : State) :
    (s.evaluateAccount l).elsewhere (some p) = s.elsewhere (some p) := by
  refine elsewhere_each _ _ (fun k hk t => elsewhere_when t _ _ (elsewhere_evaluateBilling t ?_)) s
  rw [← h, pairOf_eq_lanes]
  simpa using hk

theorem elsewhere_closeTurns (s : State) (c : LaneIx) : (s.closeTurns c).elsewhere (some (pairOf c)) = s.elsewhere (some (pairOf c)) := by
  have here : pairOf (partner c) = pairOf c := pairOf_partner c
  rw [closeTurns_alone, startAlone_keeps (State.elsewhere (some (pairOf c))) _ (fun s f => elsewhere_modLane s _ f here)
    (fun s st => elsewhere_setSession s _ st here) (fun s before => elsewhere_handOffs (by simp [here]) s before),
    elsewhere_handOffs (by simp [here])]
  simp only [State.revertTurns]
  split <;> simp [here]

theorem elsewhere_closeSession {l : LaneIx} {p : PairIx} (h : pairOf l = p) (s : State) :
    (s.closeSession l).elsewhere (some p) = s.elsewhere (some p) := by
  have orphaned : (s.orphanBalls l).elsewhere (some p) = s.elsewhere (some p) := by simp [State.orphanBalls, State.orphan, h]
  have turned : ((s.orphanBalls l).closeTurns l).elsewhere (some p) = s.elsewhere (some p) := by
    subst h
    rw [elsewhere_closeTurns, orphaned]
  simp [State.closeSession, State.closeStandby, State.closeLane, h, turned]

end Sys2Proof.Machine
end

section
/-! SUPPORT. The turn operations and the requests of one pair, and what lies elsewhere. A game of an ALTERNATE pair starts
on the lane opposite a team's last start, so the start lanes of the pair's teams must be of the pair: atHome carries that
along. -/

namespace Sys2Proof.Machine

/-- Every team starts in its own pair, and what lies elsewhere than in pair p is e. -/
structure State.atHome (p : PairIx) (e : Elsewhere) (s : State) : Prop where
  starts : s.startsAtHome
  elsewhere : s.elsewhere (some p) = e

/-- What lies elsewhere than in pair p is e. -/
def State.away (p : PairIx) (e : Elsewhere) (s : State) : Prop := s.elsewhere (some p) = e

theorem State.atHome.away {p : PairIx} {e : Elsewhere} {s : State} (h : s.atHome p e) : s.away p e := h.elsewhere

section Turns

variable {p : PairIx} {e : Elsewhere} {s : State}

theorem atHome_of_playPart {t : State} (h : s.atHome p e) (play : t.playPart = s.playPart)
    (away : t.elsewhere (some p) = s.elsewhere (some p)) : t.atHome p e :=
  ⟨fun l => by rw [startLane_of_playPart play]; exact h.starts l, away.trans h.elsewhere⟩

/-- A lane of the pair changed, and its start lane in the pair. -/
theorem atHome_modLane (h : s.atHome p e) {l : LaneIx} (hl : pairOf l = p) {f : Lane → Lane}
    (start : pairOf (f (s.lane l)).startLane = pairOf l) : (s.modLane l f).atHome p e := by
  refine ⟨fun k => ?_, (elsewhere_modLane s l f hl).trans h.elsewhere⟩
  by_cases hk : k = l
  · subst hk
    simpa using start
  · rw [State.lane_modLane_ne _ _ _ _ hk]
    exact h.starts k

theorem atHome_setQueue (h : s.atHome p e) {l : LaneIx} (hl : pairOf l = p) (q : List Turn) : (s.setQueue l q).atHome p e :=
  atHome_of_playPart h (by simp) (by simp [hl])

theorem atHome_handOffs (h : s.atHome p e) (before : State) {ls : List LaneIx} (hls : ∀ l ∈ ls, pairOf l = p) :
    (s.handOffs before ls).atHome p e :=
  atHome_of_playPart h (by simp) (elsewhere_handOffs hls s before)

theorem atHome_changeMode (h : s.atHome p e) (m : PairMode) (c : ModeCause) : (s.changeMode p m c).atHome p e :=
  atHome_of_playPart h (by simp) (by simp)

theorem atHome_dropPending (h : s.atHome p e) : (s.dropPending p).atHome p e := atHome_of_playPart h (by simp) (by simp)

/-! ### Boundaries -/

theorem atHome_beginGame (h : s.atHome p e) {l start : LaneIx} (hl : pairOf l = p) (hs : pairOf start = p) :
    (s.beginGame l start).atHome p e :=
  atHome_setQueue (atHome_modLane h hl (hs.trans hl.symm)) hs _

theorem atHome_endSeries (h : s.atHome p e) {l : LaneIx} (hl : pairOf l = p) : (s.endSeries l).atHome p e := by
  subst hl
  have unmarked : (s.modLane l fun x => { x with boundary := .unmarked }).atHome (pairOf l) e := atHome_modLane h rfl (h.starts l)
  exact atHome_of_playPart (atHome_modLane unmarked rfl (unmarked.starts l)) (playPart_darkTest _ _) (elsewhere_darkTest _ _)

theorem atHome_startAlone (h : s.atHome p e) {l : LaneIx} (hl : pairOf l = p) : (s.startAlone l).atHome p e := by
  unfold State.startAlone
  repeat' split
  · exact h
  · exact atHome_endSeries h hl
  · exact h
  · exact atHome_handOffs (atHome_beginGame h hl hl) s (by simpa using hl)

theorem atHome_startEach (h : s.atHome p e) : (s.startEach p).atHome p e :=
  atHome_startAlone (atHome_startAlone h (by simp)) (by simp)

theorem atHome_startBoth (h : s.atHome p e) : (s.startBoth p).atHome p e := by
  have opposite (l : LaneIx) (hl : pairOf l = p) : pairOf (partner (s.lane l).startLane) = p := by
    rw [pairOf_partner, h.starts l, hl]
  exact atHome_handOffs (atHome_beginGame (atHome_beginGame h (by simp) (opposite _ (by simp))) (by simp) (opposite _ (by simp))) s
    (by simp)

theorem atHome_pairBoundary (h : s.atHome p e) : (s.pairBoundary p).atHome p e := by
  have changed (m : PairMode) (c : ModeCause) := atHome_changeMode h m c
  unfold State.pairBoundary
  repeat' split
  · exact atHome_startEach (atHome_dropPending h)
  · exact h
  · exact atHome_startBoth (changed _ _)
  · exact atHome_startEach h
  · exact atHome_startEach (changed _ _)
  · exact atHome_startEach (changed _ _)
  · exact h
  · exact atHome_startEach (changed _ _)
  · exact h
  · exact atHome_startBoth h

theorem atHome_takeBoundary (h : s.atHome p e) {l : LaneIx} (hl : pairOf l = p) : (s.takeBoundary l).atHome p e := by
  subst hl
  unfold State.takeBoundary
  repeat' split
  · exact h
  · exact atHome_pairBoundary h
  · exact h
  · exact atHome_startAlone h rfl

theorem atHome_retakePair (h : s.atHome p e) : (s.retakePair p).atHome p e :=
  atHome_takeBoundary (atHome_takeBoundary h (by simp)) (by simp)

theorem atHome_testBoundary (h : s.atHome p e) {l : LaneIx} (hl : pairOf l = p) : (s.testBoundary l).atHome p e := by
  unfold State.testBoundary
  split
  · exact atHome_takeBoundary (atHome_of_playPart (atHome_modLane h hl (h.starts l)) (playPart_report _ _) rfl) hl
  · exact h

/-! ### Mode changes and closing lanes -/

theorem atHome_bringHome (h : s.atHome p e) {l : LaneIx} (hl : pairOf l = p) : (s.bringHome l).atHome p e := by
  simp only [State.bringHome]
  split
  · exact h
  · exact atHome_modLane (atHome_setQueue (atHome_setQueue h (by simp [hl]) _) hl _) hl rfl

theorem atHome_changeModeNow (h : s.atHome p e) (m : PairMode) : (s.changeModeNow p m).atHome p e := by
  have changed := atHome_changeMode h m .request
  simp only [State.changeModeNow]
  cases m
  case separate =>
    exact atHome_retakePair (atHome_handOffs (atHome_bringHome (atHome_bringHome changed (by simp)) (by simp)) s (by simp))
  case alternate => exact atHome_retakePair (atHome_handOffs changed s (by simp))

end Turns

/-! ### The requests -/

section Requests

variable {p : PairIx} {e : Elsewhere} {s : State} (h : s.atHome p e)
include h

theorem elsewhere_openSession (agrees : Bool) (f : OpenFields) {l : LaneIx} (hl : pairOf l = p) :
    (openSession agrees f l s).state.elsewhere (some p) = e := by
  rw [← h.elsewhere]
  unfold openSession
  repeat' split
  · rfl
  · rfl
  · rfl
  · rfl
  · simp [State.openLane, hl]

theorem elsewhere_addBowler (f : AddBowlerFields) {l : LaneIx} (hl : pairOf l = p) :
    (addBowler f l s).state.elsewhere (some p) = e := by
  have start : pairOf (s.lane l).startLane = p := (h.starts l).trans hl
  have handed (t u : State) : (t.handOffs u [(s.lane l).startLane]).elsewhere (some p) = t.elsewhere (some p) :=
    elsewhere_handOffs (by simpa using start) t u
  rw [← h.elsewhere]
  simp only [addBowler]
  split
  · rfl
  · split
    · rfl
    · simp [State.addBowler, hl, start, handed]

theorem atHome_removeTurn {l : LaneIx} (hl : pairOf l = p) (slot : Nat) : (s.removeTurn l slot).atHome p e := by
  have partnerHere : pairOf (partner l) = p := (pairOf_partner l).trans hl
  exact atHome_handOffs (atHome_setQueue (atHome_setQueue h hl _) partnerHere _) s (by simp [hl, partnerHere])

/-- A bowler's turn removed, its record and its state changed, and the boundary tested (R39, R40). -/
theorem atHome_endTurn {l : LaneIx} (hl : pairOf l = p) (slot number : Nat) (f : Game → Game) (g : Bowler → Bowler) :
    ((((s.removeTurn l slot).modGame l slot number f).modBowlerOf l slot g).testBoundary l).atHome p e :=
  atHome_testBoundary (atHome_of_playPart (atHome_removeTurn h hl slot) (by simp) (by simp [hl])) hl

theorem elsewhere_withdrawBowler (slot : Nat) (b : Bowler) {l : LaneIx} (hl : pairOf l = p) :
    (withdrawBowler slot b l s).state.elsewhere (some p) = e := by
  simp only [withdrawBowler, State.withdrawBowler]
  repeat' split
  · exact h.elsewhere
  · exact h.elsewhere
  · exact (atHome_endTurn h hl _ _ _ _).elsewhere
  · exact (elsewhere_modBowlerOf s l slot _ hl).trans h.elsewhere

theorem elsewhere_markBlind (slot : Nat) (b : Bowler) {l : LaneIx} (hl : pairOf l = p) :
    (markBlind slot b l s).state.elsewhere (some p) = e := by
  simp only [markBlind, State.blindBowler]
  repeat' split
  · exact h.elsewhere
  · exact h.elsewhere
  · exact h.elsewhere
  · exact (atHome_endTurn h hl _ _ _ _).elsewhere
  · exact (elsewhere_modBowlerOf s l slot _ hl).trans h.elsewhere

theorem elsewhere_skipTurn {l : LaneIx} (hl : pairOf l = p) : (skipTurn l s).state.elsewhere (some p) = e := by
  unfold skipTurn
  repeat' split
  · exact h.elsewhere
  · exact (atHome_handOffs (atHome_setQueue h hl _) s (by simpa using hl)).elsewhere
  · exact h.elsewhere

theorem elsewhere_pairMode (mode : Option PairMode) : (pairMode mode p s).state.elsewhere (some p) = e := by
  have cancelled : (s.cancelPending p).atHome p e := by
    unfold State.cancelPending
    split
    · exact atHome_retakePair (atHome_dropPending h)
    · exact h
  unfold pairMode
  split
  · exact h.elsewhere
  · rename_i m
    repeat' split
    · exact cancelled.elsewhere
    · exact h.elsewhere
    · exact (atHome_changeModeNow h m).elsewhere
    · exact (elsewhere_modPair s p _).trans h.elsewhere

end Requests

/-! ### The requests that move no play -/

section Still

variable {p : PairIx} (s : State)

theorem elsewhere_holdLane {l : LaneIx} (hl : pairOf l = p) : (holdLane l s).state.elsewhere (some p) = s.elsewhere (some p) := by
  unfold holdLane
  repeat' split
  · rfl
  · rfl
  · exact elsewhere_raiseReason s hl _ _

theorem elsewhere_releaseLane {l : LaneIx} (hl : pairOf l = p) : (releaseLane l s).state.elsewhere (some p) = s.elsewhere (some p) := by
  unfold releaseLane
  split
  · exact elsewhere_clearReason s hl _
  · rfl

theorem elsewhere_correctFrame (slot frame : Nat) (balls : List BallField) (g : Game) {l : LaneIx} (hl : pairOf l = p) :
    (correctFrame slot frame balls g l s).state.elsewhere (some p) = s.elsewhere (some p) := by
  simp only [correctFrame]
  repeat' split
  · rfl
  · rfl
  · rfl
  · rfl
  · simp [hl]

theorem elsewhere_certifyGame (game : Nat) {l : LaneIx} (hl : pairOf l = p) :
    (certifyGame game l s).state.elsewhere (some p) = s.elsewhere (some p) := by
  simp only [certifyGame]
  repeat' split
  · rfl
  · rfl
  · rfl
  · rfl
  · exact elsewhere_modLane s l _ hl

theorem elsewhere_ackCheck (slot frame : Nat) (ball : Option Nat) (g : Game) {l : LaneIx} (hl : pairOf l = p) :
    (ackCheck slot frame ball g l s).state.elsewhere (some p) = s.elsewhere (some p) := by
  simp only [ackCheck]
  repeat' split
  · rfl
  · rfl
  · exact elsewhere_modGame s l _ _ _ hl

theorem elsewhere_addCredit (amount : Nat) {l : LaneIx} (hl : pairOf l = p) :
    (addCredit amount l s).state.elsewhere (some p) = s.elsewhere (some p) := by
  unfold addCredit
  repeat' split
  · rfl
  · rfl
  · rfl
  · exact (elsewhere_evaluateAccount hl _).trans (elsewhere_modAccount s l _ hl)

theorem elsewhere_powerOn {l : LaneIx} (hl : pairOf l = p) : (powerOn l s).state.elsewhere (some p) = s.elsewhere (some p) := by
  unfold powerOn powerAnswer State.pendPowerOff
  repeat' split
  all_goals simp [refuse, hl]

theorem elsewhere_powerOff {l : LaneIx} (hl : pairOf l = p) : (powerOff l s).state.elsewhere (some p) = s.elsewhere (some p) := by
  unfold powerOff powerAnswer State.pendPowerOff
  repeat' split
  all_goals simp [refuse, hl]

theorem elsewhere_clearJam {l : LaneIx} (hl : pairOf l = p) : (clearJam l s).state.elsewhere (some p) = s.elsewhere (some p) := by
  unfold clearJam
  split <;> simp [refuse, hl]

theorem elsewhere_takeOut {l : LaneIx} (hl : pairOf l = p) : (takeOut l s).state.elsewhere (some p) = s.elsewhere (some p) := by
  unfold takeOut serviceAnswer
  repeat' split
  all_goals simp [hl]

theorem elsewhere_bringIn {l : LaneIx} (hl : pairOf l = p) : (bringIn l s).state.elsewhere (some p) = s.elsewhere (some p) := by
  unfold bringIn serviceAnswer
  repeat' split
  all_goals simp [hl]

theorem elsewhere_setHealth (f : HealthFields) {l : LaneIx} (hl : pairOf l = p) :
    (setHealth f l s).state.elsewhere (some p) = s.elsewhere (some p) := by
  subst hl
  simp [setHealth, State.testPair]

theorem elsewhere_resetStation (hold : Nat) : (s.resetStation p hold).elsewhere (some p) = s.elsewhere (some p) := by
  have lost (t : State) : (t.handLoss false p).elsewhere (some p) = t.elsewhere (some p) := by
    rw [State.handLoss, elsewhere_losePair]
    exact elsewhere_each _ _ (fun l hl u => elsewhere_loseLane u ((mem_fittedLanes t p l).1 hl).1 false) t
  simp [State.resetStation, lost]

theorem elsewhere_clearBoth (r : Reason) : (s.clearBoth r p).elsewhere (some p) = s.elsewhere (some p) := by
  simp [State.clearBoth]

@[simp] theorem elsewhere_pauseTest : (s.pauseTest p).elsewhere (some p) = s.elsewhere (some p) := by
  simp only [State.pauseTest]
  repeat' split
  all_goals simp

theorem elsewhere_returnStatus (threshold timeout : Option Nat) :
    (returnStatus threshold timeout p s).state.elsewhere (some p) = s.elsewhere (some p) := by
  simp only [returnStatus]
  split
  · rfl
  · simp

theorem elsewhere_clearReturnJam (balls : Nat) : (clearReturnJam balls p s).state.elsewhere (some p) = s.elsewhere (some p) := by
  simp only [clearReturnJam]
  repeat' split
  · rfl
  · rfl
  · simp [State.clearJamOfReturn, State.writeOff, elsewhere_clearBoth]

end Still

/-! ### What a lane or pair request is -/

/-- A number out of range is refused, and then the place whose station is ABSENT, whatever else the request carries (R1,
R34, R96, R122, R144, R147). -/
def ChecksPlaceFirst (isLane : Bool) (n : Nat) (f : State → Answer) : Prop :=
  ∀ s, (numberInRange isLane n = false → f s = refuse .badLane s)
    ∧ ∀ p, numberedPair isLane n = some p → (s.station p).state = .absent →
      (∀ l, findLane n = some l → isLane = true → (s.lane l).session = .closed) → f s = refuse .notFitted s

/-- The answer leaves alone what lies elsewhere than in the pair of the number. -/
def StaysInPair (isLane : Bool) (n : Nat) (f : State → Answer) : Prop :=
  ∀ s, s.startsAtHome → (f s).state.elsewhere (numberedPair isLane n) = s.elsewhere (numberedPair isLane n)

theorem checkLane_placeFirst (n : Nat) (k : LaneIx → State → Answer) : ChecksPlaceFirst true n (checkLane n k) := by
  intro s
  refine ⟨fun out => ?_, fun p hp absent _ => ?_⟩
  · rw [checkLane, (findLane_none_iff n).2 out]
  · obtain ⟨l, hl, rfl⟩ := Option.map_eq_some_iff.1 hp
    simp [checkLane, hl, State.laneFitted, absent]

theorem checkLaneExempt_placeFirst (n : Nat) (k : LaneIx → State → Answer) : ChecksPlaceFirst true n (checkLaneExempt n k) := by
  intro s
  refine ⟨fun out => ?_, fun p hp absent closed => ?_⟩
  · rw [checkLaneExempt, (findLane_none_iff n).2 out]
  · obtain ⟨l, hl, rfl⟩ := Option.map_eq_some_iff.1 hp
    simp [checkLaneExempt, hl, State.laneFitted, absent, closed l hl rfl, SessionState.running]

theorem checkPair_placeFirst (n : Nat) (k : PairIx → State → Answer) : ChecksPlaceFirst false n (checkPair n k) := by
  intro s
  refine ⟨fun out => ?_, fun p hp absent _ => ?_⟩
  · rw [checkPair, (findPair_none_iff n).2 out]
  · rw [checkPair, show findPair n = some p from hp]
    simp [absent]

theorem checkLane_stays (n : Nat) {k : LaneIx → State → Answer}
    (hk : ∀ (p : PairIx) (e : Elsewhere) (s : State) (l : LaneIx), s.atHome p e → pairOf l = p → (k l s).state.away p e) :
    StaysInPair true n (checkLane n k) := by
  intro s home
  refine checkLane_preserves (P := fun t => t.elsewhere (numberedPair true n) = s.elsewhere (numberedPair true n)) n rfl fun l hl => ?_
  rw [show numberedPair true n = some (pairOf l) by simp [numberedPair, hl]]
  exact hk _ _ s l ⟨home, rfl⟩ rfl

theorem checkLaneExempt_stays (n : Nat) {k : LaneIx → State → Answer}
    (hk : ∀ (p : PairIx) (e : Elsewhere) (s : State) (l : LaneIx), s.atHome p e → pairOf l = p → (k l s).state.away p e) :
    StaysInPair true n (checkLaneExempt n k) := by
  intro s home
  refine checkLaneExempt_preserves (P := fun t => t.elsewhere (numberedPair true n) = s.elsewhere (numberedPair true n)) n rfl
    fun l hl => ?_
  rw [show numberedPair true n = some (pairOf l) by simp [numberedPair, hl]]
  exact hk _ _ s l ⟨home, rfl⟩ rfl

theorem checkPair_stays (n : Nat) {k : PairIx → State → Answer}
    (hk : ∀ (p : PairIx) (e : Elsewhere) (s : State), s.atHome p e → (k p s).state.away p e) :
    StaysInPair false n (checkPair n k) := by
  intro s home
  refine checkPair_preserves (P := fun t => t.elsewhere (numberedPair false n) = s.elsewhere (numberedPair false n)) n rfl
    fun p hp => ?_
  rw [show numberedPair false n = some p from hp]
  exact hk _ _ s ⟨home, rfl⟩

theorem checkLength_stays {isLane : Bool} {n : Nat} {f : State → Answer} (agrees : Bool) (h : StaysInPair isLane n f) :
    StaysInPair isLane n (checkLength agrees f) := fun s home =>
  checkLength_preserves (P := fun t => t.elsewhere (numberedPair isLane n) = s.elsewhere (numberedPair isLane n)) agrees rfl (h s home)

/-- A request that names a lane or a pair is the answer of its owner to the oldest request of its kind. With a BODY length
that agrees it checks its place first; and it stays in its pair. -/
theorem exec_of_requestNamed {c : Instr} {kind : RequestKind} {agrees isLane : Bool} {n : Nat}
    (h : requestNamed c = some (kind, agrees, isLane, n)) : ∃ f : State → Answer,
    (∀ s, exec c s = .next (State.live (State.carryOut kind fun _ => f) s)) ∧ (agrees = true → ChecksPlaceFirst isLane n f)
      ∧ StaysInPair isLane n f := by
  have lengthFirst {il : Bool} {n : Nat} {f : State → Answer} {a : Bool} (hf : ChecksPlaceFirst il n f) :
      a = true → ChecksPlaceFirst il n (checkLength a f) := by rintro rfl; exact hf
  cases c with
  | openSession a f =>
    cases h
    exact ⟨_, fun _ => rfl, fun _ => checkLane_placeFirst _ _, checkLane_stays _ fun _ _ _ _ hs hl => elsewhere_openSession hs _ f hl⟩
  | closeSession a lane =>
    cases h
    refine ⟨_, fun _ => rfl, lengthFirst (checkLaneExempt_placeFirst _ _), checkLength_stays _ (checkLaneExempt_stays _
      fun p e s l hs hl => ?_)⟩
    split
    · dsimp only
      exact (elsewhere_closeSession hl _).trans hs.elsewhere
    · exact hs.away
  | addBowler a f =>
    cases h
    exact ⟨_, fun _ => rfl, fun _ => checkLane_placeFirst _ _, checkLane_stays _ fun _ _ _ l hs hl => checkRunning_preserves _ l hs.away
      (elsewhere_addBowler hs f hl)⟩
  | setBowler a f =>
    cases h
    exact ⟨_, fun _ => rfl, fun _ => checkLane_placeFirst _ _, checkLane_stays _ fun _ _ _ l hs hl => checkRunning_preserves _ l hs.away
      (checkSlot_preserves _ l hs.away fun _ => (elsewhere_modBowlerOf _ l _ _ hl).trans hs.elsewhere)⟩
  | withdrawBowler a lane slot =>
    cases h
    exact ⟨_, fun _ => rfl, fun _ => checkLane_placeFirst _ _, checkLane_stays _ fun _ _ _ l hs hl => checkRunning_preserves _ l hs.away
      (checkSlot_preserves _ l hs.away fun b => elsewhere_withdrawBowler hs slot b hl)⟩
  | markBlind a lane slot =>
    cases h
    exact ⟨_, fun _ => rfl, fun _ => checkLane_placeFirst _ _, checkLane_stays _ fun _ _ _ l hs hl => checkRunning_preserves _ l hs.away
      (checkSlot_preserves _ l hs.away fun b => elsewhere_markBlind hs slot b hl)⟩
  | skipTurn a lane =>
    cases h
    exact ⟨_, fun _ => rfl, fun _ => checkLane_placeFirst _ _, checkLane_stays _ fun _ _ _ l hs hl => checkRunning_preserves _ l hs.away
      (elsewhere_skipTurn hs hl)⟩
  | pairMode a pair mode =>
    cases h
    exact ⟨_, fun _ => rfl, lengthFirst (checkPair_placeFirst _ _), checkLength_stays _ (checkPair_stays _
      fun _ _ _ hs => elsewhere_pairMode hs mode)⟩
  | holdLane a lane =>
    cases h
    exact ⟨_, fun _ => rfl, lengthFirst (checkLaneExempt_placeFirst _ _), checkLength_stays _ (checkLaneExempt_stays _
      fun _ _ s _ hs hl => (elsewhere_holdLane s hl).trans hs.elsewhere)⟩
  | releaseLane a lane =>
    cases h
    exact ⟨_, fun _ => rfl, lengthFirst (checkLaneExempt_placeFirst _ _), checkLength_stays _ (checkLaneExempt_stays _
      fun _ _ s _ hs hl => (elsewhere_releaseLane s hl).trans hs.elsewhere)⟩
  | laneStatus a lane =>
    cases h
    exact ⟨_, fun _ => rfl, lengthFirst (checkLaneExempt_placeFirst _ _), checkLength_stays _ (checkLaneExempt_stays _
      fun _ _ _ _ hs _ => hs.away)⟩
  | getGame a name =>
    cases h
    refine ⟨_, fun _ => rfl, fun _ => checkLane_placeFirst _ _, checkLane_stays _ fun p e s l hs hl => checkHeld_preserves _ l hs.away
      (checkSlot_preserves _ l hs.away fun b => ?_)⟩
    split <;> exact hs.away
  | correctFrame a name frame balls =>
    cases h
    exact ⟨_, fun _ => rfl, fun _ => checkLane_placeFirst _ _, checkLane_stays _ fun _ _ s l hs hl => checkHeld_preserves _ l hs.away
      (checkOpenRecord_preserves _ _ l hs.away fun _ g => (elsewhere_correctFrame s _ _ _ g hl).trans hs.elsewhere)⟩
  | certifyGame a lane game =>
    cases h
    exact ⟨_, fun _ => rfl, fun _ => checkLane_placeFirst _ _, checkLane_stays _ fun _ _ s l hs hl => checkHeld_preserves _ l hs.away
      ((elsewhere_certifyGame s game hl).trans hs.elsewhere)⟩
  | ackCheck a name frame ball =>
    cases h
    exact ⟨_, fun _ => rfl, fun _ => checkLane_placeFirst _ _, checkLane_stays _ fun _ _ s l hs hl => checkHeld_preserves _ l hs.away
      (checkOpenRecord_preserves _ _ l hs.away fun _ g => (elsewhere_ackCheck s _ _ _ g hl).trans hs.elsewhere)⟩
  | getTeam a lane game =>
    cases h
    refine ⟨_, fun _ => rfl, fun _ => checkLane_placeFirst _ _, checkLane_stays _ fun p e s l hs hl => checkHeld_preserves _ l hs.away ?_⟩
    simp only [getTeam]
    split <;> exact hs.away
  | getAccount a lane =>
    cases h
    refine ⟨_, fun _ => rfl, lengthFirst (checkLane_placeFirst _ _), checkLength_stays _ (checkLane_stays _ fun p e s l hs hl => ?_)⟩
    split <;> exact hs.away
  | addCredit a lane amount =>
    cases h
    refine ⟨_, fun _ => rfl, fun _ => checkLane_placeFirst _ _, checkLane_stays _ fun p e s l hs hl => checkLength_preserves _ hs.away ?_⟩
    split
    · exact (elsewhere_addCredit s amount hl).trans hs.elsewhere
    · exact hs.away
  | machinePowerOn a lane valid =>
    cases h
    exact ⟨_, fun _ => rfl, lengthFirst (checkLane_placeFirst _ _), checkLength_stays _ (checkLane_stays _ fun _ _ s l hs hl =>
      checkValid_preserves _ l hs.away (checkStation_preserves l hs.away ((elsewhere_powerOn s hl).trans hs.elsewhere)))⟩
  | machinePowerOff a lane valid =>
    cases h
    exact ⟨_, fun _ => rfl, lengthFirst (checkLane_placeFirst _ _), checkLength_stays _ (checkLane_stays _ fun _ _ s l hs hl =>
      checkValid_preserves _ l hs.away (checkStation_preserves l hs.away ((elsewhere_powerOff s hl).trans hs.elsewhere)))⟩
  | clearJam a lane =>
    cases h
    exact ⟨_, fun _ => rfl, lengthFirst (checkLane_placeFirst _ _), checkLength_stays _ (checkLane_stays _ fun _ _ s l hs hl =>
      checkStation_preserves l hs.away ((elsewhere_clearJam s hl).trans hs.elsewhere))⟩
  | serviceOut a lane valid =>
    cases h
    exact ⟨_, fun _ => rfl, lengthFirst (checkLane_placeFirst _ _), checkLength_stays _ (checkLane_stays _ fun _ _ s l hs hl =>
      checkValid_preserves _ l hs.away (checkStation_preserves l hs.away ((elsewhere_takeOut s hl).trans hs.elsewhere)))⟩
  | serviceIn a lane valid =>
    cases h
    exact ⟨_, fun _ => rfl, lengthFirst (checkLane_placeFirst _ _), checkLength_stays _ (checkLane_stays _ fun _ _ s l hs hl =>
      checkValid_preserves _ l hs.away (checkStation_preserves l hs.away ((elsewhere_bringIn s hl).trans hs.elsewhere)))⟩
  | setMachine a f =>
    cases h
    exact ⟨_, fun _ => rfl, lengthFirst (checkPair_placeFirst _ _), checkLength_stays _ (checkPair_stays _
      fun p _ s hs => (elsewhere_modPair s p _).trans hs.elsewhere)⟩
  | getHealth a lane =>
    cases h
    exact ⟨_, fun _ => rfl, lengthFirst (checkLane_placeFirst _ _), checkLength_stays _ (checkLane_stays _ fun _ _ _ _ hs _ =>
      hs.away)⟩
  | setHealth a f =>
    cases h
    exact ⟨_, fun _ => rfl, fun _ => checkLane_placeFirst _ _, checkLane_stays _ fun _ _ s _ hs hl => checkLength_preserves _ hs.away
      ((elsewhere_setHealth s f hl).trans hs.elsewhere)⟩
  | stationReset a pair hold =>
    cases h
    exact ⟨_, fun _ => rfl, lengthFirst (checkPair_placeFirst _ _), checkLength_stays _ (checkPair_stays _
      fun _ _ s hs => (elsewhere_resetStation s _).trans hs.elsewhere)⟩
  | returnStatus a pair threshold timeout =>
    cases h
    exact ⟨_, fun _ => rfl, fun _ => checkPair_placeFirst _ _, checkPair_stays _ fun _ _ s hs => checkLength_preserves _ hs.away
      ((elsewhere_returnStatus s threshold timeout).trans hs.elsewhere)⟩
  | clearReturnJam a pair balls =>
    cases h
    exact ⟨_, fun _ => rfl, fun _ => checkPair_placeFirst _ _, checkPair_stays _ fun _ _ s hs => checkLength_preserves _ hs.away
      ((elsewhere_clearReturnJam s balls).trans hs.elsewhere)⟩
  | _ => cases h

/-- Settles O60: a request names one pair, and its owner's answer stays there. -/
theorem requestsStayInTheirPair : Obligations.RequestsStayInTheirPair := by
  unfold Obligations.RequestsStayInTheirPair
  intro c kind agrees isLane n s t named free home run
  obtain ⟨f, meaning, -, stays⟩ := exec_of_requestNamed named
  rw [meaning, State.live_of_free free] at run
  obtain ⟨rfl⟩ := run
  have away : (s.carryOut kind fun _ => f).elsewhere (numberedPair isLane n) = s.elsewhere (numberedPair isLane n) :=
    carryOut_preserves (P := fun t => t.elsewhere (numberedPair isLane n) = s.elsewhere (numberedPair isLane n)) kind rfl
      (fun _ _ ht => ht) fun _ => stays s home
  exact ⟨fun l hl => lane_of_elsewhere away hl, fun p hp => pair_of_elsewhere away hp, congrArg Elsewhere.clock away,
    congrArg Elsewhere.clockValid away, congrArg Elsewhere.meter away, congrArg Elsewhere.hold away,
    congrArg Elsewhere.returnClock away⟩

/-- Settles O20: the place of a request is checked before all else but its BODY's length. -/
theorem placeChecksComeFirst : Obligations.PlaceChecksComeFirst := by
  unfold Obligations.PlaceChecksComeFirst
  intro c kind isLane n s r named front
  obtain ⟨f, meaning, places, -⟩ := exec_of_requestNamed named
  obtain ⟨badLane, notFitted⟩ := places rfl s
  have refused {st : Status} (h : f s = refuse st s) : exec c s = .next (s.refusedWith r st) := by
    rw [meaning, State.carryOut_of_front front]
    simp only [h]
    rfl
  exact ⟨fun out => refused (badLane out), fun p hp absent closed => refused (notFitted p hp absent closed)⟩

end Sys2Proof.Machine
end

section
/-! SUPPORT. The state of a machine that enters a state, is issued a cycle or is released by the gate; and HOLD_LANE and
RELEASE_LANE. -/

namespace Sys2Proof.Machine

theorem replies_of_outside {l : LaneIx} {s t : State} (h : t.outside l = s.outside l) : t.link.replies = s.link.replies := by
  rw [link_of_outside h]

/-- A reply joins the replies of a request that keeps them (R174). -/
theorem replies_answered {s t : State} {r : Slot} {kind : RequestKind} (h : t.link.replies = s.link.replies)
    (front : r.kind = kind.code) (st : Status) (body : ReplyBody) :
    (t.answered r st body).link.replies = s.link.replies ++ [⟨kind.code + 0x80, r.tag, st, body⟩] := by
  rw [← h, ← front]
  rfl

/-! ### A machine entering a state -/

@[simp] theorem MachineRec.enter_state (st : MachineState) (m : MachineRec) : (m.enter st).state = st := by
  unfold MachineRec.enter
  split
  · assumption
  · rfl

@[simp] theorem MachineRec.enter_pendingCycle (st : MachineState) (m : MachineRec) : (m.enter st).pendingCycle = m.pendingCycle := by
  unfold MachineRec.enter
  split <;> rfl

@[simp] theorem MachineRec.enter_inFlight (st : MachineState) (m : MachineRec) : (m.enter st).inFlight = m.inFlight := by
  unfold MachineRec.enter
  split <;> rfl

@[simp] theorem machine_report (s : State) (r : Report) (l : LaneIx) : (s.report r).machine l = s.machine l := rfl
@[simp] theorem machine_darkTest (s : State) (p : PairIx) (l : LaneIx) : (s.darkTest p).machine l = s.machine l := by
  rw [State.machine, lane_darkTest, State.machine]
@[simp] theorem machine_handCommand (s : State) (l k : LaneIx) (c : BusCommand) : (s.handCommand l c).machine k = s.machine k := by
  simp only [State.handCommand]
  split <;> rfl

theorem machine_when (s : State) (c : Bool) (f : State → State) (l : LaneIx) (h : (f s).machine l = s.machine l) :
    (s.when c f).machine l = s.machine l := by
  obtain e | e := State.when_cases c f s <;> rw [e]
  exact h

@[simp] theorem machine_enter (s : State) (l : LaneIx) (st : MachineState) : (s.enter l st).machine l = (s.machine l).enter st := by
  rw [State.enter, machine_when _ _ _ _ (machine_report _ _ _), State.enterSilent, machine_when _ _ _ _ (machine_darkTest _ _ _),
    State.machine_modMachine_self]

/-- A cycle issued is in flight, with nothing pending (R109). -/
theorem machine_issueCycle (s : State) (l : LaneIx) (c : Cycle) (turn : Option Turn) (need : Option Need) :
    ((s.issueCycle l c turn need).machine l).state = .cycling ∧ ((s.issueCycle l c turn need).machine l).pendingCycle = none
      ∧ ((s.issueCycle l c turn need).machine l).cycleInFlight = some c := by
  simp [State.issueCycle, MachineRec.cycleInFlight]

/-! ### A lane released (R15) -/

theorem release_of_not_waiting {s : State} {l : LaneIx} (h : (s.machine l).state ≠ .waiting) : s.release l = s := by
  unfold State.release
  split
  · rename_i e _
    exact absurd e h
  · rfl

theorem release_of_blocked {s : State} {l : LaneIx} {p : PendingCycle} (pending : (s.machine l).pendingCycle = some p)
    (blocked : (s.gate l).blocks p.cycle = true) : s.release l = s := by
  unfold State.release
  split
  · rename_i q _ e
    obtain rfl : p = q := Option.some.inj (pending.symm.trans e)
    rw [if_pos blocked]
  · rfl

theorem release_of_clear {s : State} {l : LaneIx} {p : PendingCycle} (waiting : (s.machine l).state = .waiting)
    (pending : (s.machine l).pendingCycle = some p) (clear : (s.gate l).blocks p.cycle = false) (deck : p.served = false) :
    s.release l = s.issueCycle l p.cycle p.turn p.need := by
  simp [State.release, waiting, pending, clear, deck]

/-! ### HOLD_LANE and RELEASE_LANE (R10, R11) -/

theorem exec_holdLane {s : State} {r : Slot} {l : LaneIx} (fits : s.fits l) (front : s.front .holdLane r) :
    exec (.holdLane true (laneNumber l)) s
      = .next ((holdLane l s).state.answered r (holdLane l s).status (holdLane l s).body) := by
  have e : checkLength true (checkLaneExempt (laneNumber l) holdLane) s = holdLane l s := checkLaneExempt_of_fits fits holdLane
  rw [← e]
  exact congrArg Host.Outcome.next (State.carryOut_of_front front _)

theorem exec_releaseLane {s : State} {r : Slot} {l : LaneIx} (fits : s.fits l) (front : s.front .releaseLane r) :
    exec (.releaseLane true (laneNumber l)) s
      = .next ((releaseLane l s).state.answered r (releaseLane l s).status (releaseLane l s).body) := by
  have e : checkLength true (checkLaneExempt (laneNumber l) releaseLane) s = releaseLane l s := checkLaneExempt_of_fits fits releaseLane
  rw [← e]
  exact congrArg Host.Outcome.next (State.carryOut_of_front front _)

theorem running_iff (st : SessionState) : st.running = true ↔ st ≠ .closed := by cases st <;> simp [SessionState.running]

theorem has_deskHold_iff (g : Gate) : g.has .deskHold = true ↔ g.deskHold ≠ none := Option.isSome_iff_ne_none

theorem holdLane_of_closed {s : State} {l : LaneIx} (h : (s.lane l).session = .closed) : holdLane l s = refuse .noSession s := by
  simp [holdLane, h, SessionState.running]

theorem holdLane_of_held {s : State} {l : LaneIx} (h : (s.lane l).session ≠ .closed) (held : (s.gate l).deskHold ≠ none) :
    holdLane l s = ⟨s, .noChange, s.gateReply l⟩ := by
  simp [holdLane, (running_iff _).2 h, (has_deskHold_iff _).2 held]

theorem holdLane_of_free {s : State} {l : LaneIx} (h : (s.lane l).session ≠ .closed) (free : (s.gate l).deskHold = none) :
    holdLane l s = ⟨s.raiseReason .deskHold s.clock l, .ok, (s.raiseReason .deskHold s.clock l).gateReply l⟩ := by
  have has : (s.gate l).has .deskHold = false := by simpa using (has_deskHold_iff (s.gate l)).not.2 (by simpa using free)
  simp [holdLane, (running_iff _).2 h, has]

theorem raiseDeskHold_eq {s : State} {l : LaneIx} (free : (s.gate l).deskHold = none) :
    s.raiseReason .deskHold s.clock l = s.setLane l { s.lane l with gate := { s.gate l with deskHold := some s.clock } } := by
  have has : (s.gate l).has .deskHold = false := by simpa using (has_deskHold_iff (s.gate l)).not.2 (by simpa using free)
  rw [State.raiseReason, has]
  rfl

/-- The lane with DESK_HOLD off its gate, before the gate's clearing event reaches PSV. -/
def State.unheld (l : LaneIx) (s : State) : State := s.modLane l fun x => { x with gate := x.gate.put .deskHold none }

theorem machine_unheld (s : State) (l : LaneIx) : (s.unheld l).machine l = s.machine l := by
  simp [State.unheld, State.machine]

theorem gate_unheld (s : State) (l : LaneIx) : (s.unheld l).gate l = { s.gate l with deskHold := none } := by
  simp [State.unheld, State.gate]
  rfl

theorem clearDeskHold_eq {s : State} {l : LaneIx} (held : (s.gate l).deskHold ≠ none) :
    s.clearReason .deskHold l = (s.unheld l).release l := by
  rw [State.clearReason, if_pos ((has_deskHold_iff _).2 held)]
  rfl

/-- Settles O18, by what HOLD_LANE and RELEASE_LANE answer and what the gate's clearing event does to a WAITING lane. -/
theorem holdAndReleaseLane : Obligations.HoldAndReleaseLane := by
  unfold Obligations.HoldAndReleaseLane
  intro s r l fits
  refine ⟨fun front => ⟨fun closed => ?_, fun running held => ?_, fun running free => ?_⟩, fun front => ⟨fun free => ?_, fun held => ?_⟩⟩
  · rw [exec_holdLane fits front, holdLane_of_closed closed]
    rfl
  · rw [exec_holdLane fits front, holdLane_of_held running held]
    rfl
  · refine ⟨_, rfl, ?_⟩
    rw [exec_holdLane fits front, holdLane_of_free running free, ← raiseDeskHold_eq free]
    rfl
  · have has : (s.gate l).has .deskHold = false := by simpa using (has_deskHold_iff (s.gate l)).not.2 (by simpa using free)
    rw [exec_releaseLane fits front, releaseLane, has]
    rfl
  · have answer : releaseLane l s = ⟨s.clearReason .deskHold l, .ok, (s.clearReason .deskHold l).gateReply l⟩ :=
      if_pos ((has_deskHold_iff _).2 held)
    have kept := outside_clearReason l .deskHold s
    have gate : (s.clearReason .deskHold l).gate l = { s.gate l with deskHold := none } := by
      rw [clearDeskHold_eq held, gate_release, gate_unheld]
    rw [exec_releaseLane fits front, answer]
    refine ⟨_, rfl, gate, ?_, queue_of_outside kept l, account_of_outside kept l, roster_of_outside kept l,
      fun k hk => ?_, fun busy => ?_, fun p waiting pending => ⟨fun blocked => ?_, fun clear deck => ?_⟩⟩
    · exact replies_answered (replies_of_outside kept) front.2.2 .ok _
    · show (s.clearReason .deskHold l).lane k = s.lane k
      exact lane_of_outside kept hk
    · show (s.clearReason .deskHold l).machine l = s.machine l
      rw [clearDeskHold_eq held, release_of_not_waiting (by rwa [machine_unheld]), machine_unheld]
    · show (s.clearReason .deskHold l).machine l = s.machine l
      have blocked : ((s.unheld l).gate l).blocks p.cycle = true := by
        rw [gate_unheld, ← gate]
        exact blocked
      rw [clearDeskHold_eq held, release_of_blocked (by rwa [machine_unheld]) blocked, machine_unheld]
    · have clear : ((s.unheld l).gate l).blocks p.cycle = false := by
        rw [gate_unheld, ← gate]
        exact clear
      have issued := machine_issueCycle (s.unheld l) l p.cycle p.turn p.need
      rw [← release_of_clear (by rwa [machine_unheld]) (by rwa [machine_unheld]) clear deck, ← clearDeskHold_eq held] at issued
      exact issued

end Sys2Proof.Machine
end

section
/-! SUPPORT. What opening a session leaves of its pair and of the link, the roster and the turns it starts with; and
OPEN_SESSION. -/

namespace Sys2Proof.Machine

/-! ### A pair beside its station, and the link beside its reports -/

/-- A pair without its station table entry. -/
def Pair.unstationed (x : Pair) : Pair := { x with station := .initial }

/-- The link without its report queue. -/
def Link.quiet (k : Link) : Link := { k with reports := [], reportsLost := false, lostClasses := .empty }

theorem fields_of_unstationed {x y : Pair} (h : y.unstationed = x.unstationed) :
    y.mode = x.mode ∧ y.settings = x.settings ∧ y.ret = x.ret ∧ y.health = x.health := by
  cases x
  cases y
  simp only [Pair.unstationed, Pair.mk.injEq] at h
  obtain ⟨mode, -, settings, ret, health, -⟩ := h
  exact ⟨mode, settings, ret, health⟩

theorem frames_of_quiet {x y : Link} (h : y.quiet = x.quiet) : y.slots = x.slots ∧ y.replies = x.replies := by
  cases x
  cases y
  simp only [Link.quiet, Link.mk.injEq] at h
  simp only [h, and_self]

theorem quiet_of_outside {l : LaneIx} {s t : State} (h : t.outside l = s.outside l) : t.link.quiet = s.link.quiet :=
  (congrArg Link.quiet (link_of_outside h)).trans rfl

theorem unstationed_of_outside {l : LaneIx} {s t : State} (h : t.outside l = s.outside l) (p : PairIx) :
    (t.pair p).unstationed = (s.pair p).unstationed := by
  by_cases e : p = pairOf l
  · subst e
    exact (congrArg Pair.unstationed (pair_self_of_outside h)).trans rfl
  · rw [pair_of_outside h e]

@[simp] theorem quiet_queue (r : Report) (k : Link) : (k.queue r).quiet = k.quiet := by
  unfold Link.queue
  repeat' split
  all_goals rfl

@[simp] theorem quiet_report (s : State) (r : Report) : (s.report r).link.quiet = s.link.quiet := quiet_queue r s.link

@[simp] theorem quiet_reportHead (s : State) (l : LaneIx) : (s.reportHead l).link.quiet = s.link.quiet := by
  unfold State.reportHead
  split
  · rfl
  · exact quiet_report _ _

@[simp] theorem quiet_darkTest (s : State) (p : PairIx) : (s.darkTest p).link.quiet = s.link.quiet := by
  unfold State.darkTest
  repeat' split
  all_goals rfl

@[simp] theorem quiet_setSession (s : State) (l : LaneIx) (st : SessionState) : (s.setSession l st).link.quiet = s.link.quiet :=
  quiet_darkTest _ _

@[simp] theorem quiet_handHead (s : State) (l : LaneIx) : (s.handHead l).link.quiet = s.link.quiet :=
  (quiet_of_outside (outside_headTold l (s.tellMeter l))).trans
    (quiet_of_outside (outside_evaluateBilling l (s.modLane l fun x => { x with head := x.queue.head? })) :)

@[simp] theorem unstationed_modStation (s : State) (p q : PairIx) (f : Station → Station) :
    ((s.modStation p f).pair q).unstationed = (s.pair q).unstationed := by
  by_cases e : q = p
  · simp [State.modStation, e, Pair.unstationed]
  · simp [State.modStation, State.pair_modPair_ne _ _ _ _ e]

@[simp] theorem unstationed_darkTest (s : State) (p q : PairIx) : ((s.darkTest p).pair q).unstationed = (s.pair q).unstationed := by
  unfold State.darkTest State.setStation
  repeat' split
  · exact unstationed_modStation _ _ _ _
  · rfl
  · rfl
  · exact unstationed_modStation _ _ _ _
  · rfl

@[simp] theorem unstationed_reportHead (s : State) (l : LaneIx) (p : PairIx) :
    ((s.reportHead l).pair p).unstationed = (s.pair p).unstationed := by
  unfold State.reportHead
  split <;> rfl

@[simp] theorem unstationed_setSession (s : State) (l : LaneIx) (st : SessionState) (p : PairIx) :
    ((s.setSession l st).pair p).unstationed = (s.pair p).unstationed := unstationed_darkTest _ _ p

@[simp] theorem unstationed_handHead (s : State) (l : LaneIx) (p : PairIx) :
    ((s.handHead l).pair p).unstationed = (s.pair p).unstationed :=
  (unstationed_of_outside (outside_headTold l (s.tellMeter l)) p).trans
    (unstationed_of_outside (outside_evaluateBilling l (s.modLane l fun x => { x with head := x.queue.head? })) p :)

theorem lane_setSession_self (s : State) (l : LaneIx) (st : SessionState) :
    (s.setSession l st).lane l = { s.lane l with session := st } := by
  rw [State.setSession, lane_darkTest, State.lane_modLane_self]

/-! ### The roster and the turns of game 1 -/

theorem hold300_eq : hold300 = min 300 := funext fun _ => by simp [hold300, hold]

/-- The roster of a lane opened with the entries given, every bowler in game 1. -/
def openRoster (c : SessionSettings) (l : LaneIx) (roster : List SlotView) : List Bowler :=
  (roster.map bowlerOf).map (Bowler.startGame c.scores 1 l)

/-- Where every bowler has an IN_PROGRESS record of a game, each slot has its frame-1 turn (R30). -/
theorem frameOneTurns_of_inProgress {bowlers : List Bowler} {number : Nat} (home : LaneIx)
    (started : ∀ b ∈ bowlers, ∃ g, b.game number = some g ∧ g.state = .inProgress) :
    frameOneTurns home bowlers number = (List.range bowlers.length).map fun i => ⟨home, i + 1, number, 1⟩ := by
  have slots : bowlers.zipIdx.map Prod.snd = List.range bowlers.length := by
    rw [List.zipIdx_map_snd, List.range_eq_range']
  rw [← slots, List.map_map, frameOneTurns, recordsOf, slotted, List.filterMap_filterMap, List.filterMap_map, ← List.filterMap_eq_map]
  refine List.filterMap_congr fun x hx => ?_
  obtain ⟨g, game, state⟩ := started x.1 (List.fst_mem_of_mem_zipIdx hx)
  simp [game, state]

theorem frameOneTurns_openRoster (c : SessionSettings) (l : LaneIx) (roster : List SlotView) :
    frameOneTurns l (openRoster c l roster) 1 = (List.range roster.length).map fun i => ⟨l, i + 1, 1, 1⟩ := by
  rw [frameOneTurns_of_inProgress]
  · simp [openRoster]
  · intro b hb
    obtain ⟨v, -, rfl⟩ : ∃ v ∈ roster, (bowlerOf v).startGame c.scores 1 l = b := by simpa [openRoster] using hb
    exact ⟨_, rfl, rfl⟩

/-! ### The lane opened -/

@[simp] theorem core_setAccount (s : State) (l : LaneIx) (a : Option Account) :
    ((s.modLane l fun x => { x with account := a }).lane l).core = { (s.lane l).core with account := a } := by
  rw [State.lane_modLane_self]
  rfl

@[simp] theorem core_setRoster (s : State) (l : LaneIx) (bs : List Bowler) :
    ((s.modLane l fun x => { x with roster := bs }).lane l).core = { (s.lane l).core with roster := bs } := by
  rw [State.lane_modLane_self]
  rfl

@[simp] theorem core_setQueue (s : State) (l : LaneIx) (q : List Turn) :
    ((s.setQueue l q).lane l).core = { (s.lane l).core with queue := q } := by
  obtain ⟨m, e⟩ := lane_setQueue_self s l q
  rw [e]
  rfl

@[simp] theorem core_setSession (s : State) (l : LaneIx) (st : SessionState) :
    ((s.setSession l st).lane l).core = { (s.lane l).core with session := st } := by
  rw [lane_setSession_self]
  rfl

@[simp] theorem core_clearReason (s : State) (l k : LaneIx) (r : Reason) : ((s.clearReason r l).lane k).core = (s.lane k).core :=
  core_of_outside (outside_clearReason l r s) k

/-- The lane cleared for a session, and OPEN with NO_SESSION gone (R6 steps 1 and 2). -/
def State.admitted (l : LaneIx) (c : SessionSettings) (s : State) : State :=
  ((s.modLane l fun x =>
    { x with gamesPlanned := c.gamesPlanned, lastRoster := false, game := 1, startLane := l, boundary := .unmarked
             settings := c.scores, roster := [], machine := { x.machine with powerOffPending := false } }).setSession l
      .open_).clearReason .noSession l

/-- The lane's roster and its turns queued (R6 steps 3 and 4). -/
def State.seated (l : LaneIx) (bowlers : List Bowler) (turns : List Turn) (s : State) : State :=
  (s.modLane l fun x => { x with roster := bowlers }).setQueue l turns

/-- OPEN_SESSION by its steps (R6). -/
theorem openLane_eq (s : State) (l : LaneIx) (c : SessionSettings) (mode : BillingMode) (roster : List SlotView) :
    s.openLane l c mode roster
      = ((((s.admitted l c).seated l (openRoster c l roster)
          (((s.admitted l c).lane l).queue ++ (List.range roster.length).map fun i => ⟨l, i + 1, 1, 1⟩)).reportHead l).modLane l fun x =>
        { x with account := some (Account.opened l mode c.allowance c.leagueFee roster.length) }).handHead l := by
  have queue : (((s.admitted l c).modLane l fun x => { x with roster := openRoster c l roster }).lane l).queue
      = ((s.admitted l c).lane l).queue := by rw [State.lane_modLane_self]
  rw [← frameOneTurns_openRoster c, ← queue]
  rfl

theorem core_admitted (s : State) (l : LaneIx) (c : SessionSettings) :
    ((s.admitted l c).lane l).core = { (s.lane l).core with
      session := .open_, gamesPlanned := c.gamesPlanned, lastRoster := false, game := 1, startLane := l, boundary := .unmarked
      settings := c.scores, roster := [] } := by
  rw [State.admitted, core_clearReason, core_setSession, State.lane_modLane_self]
  rfl

/-- The lane as OPEN_SESSION leaves it, but for what PSV, HMN and the hand-offs change of it (R5, R6). -/
def Lane.opened (l : LaneIx) (c : SessionSettings) (mode : BillingMode) (roster : List SlotView) (x : Lane) : Lane :=
  { x with
    session := .open_, gamesPlanned := c.gamesPlanned, lastRoster := false, game := 1, startLane := l, boundary := .unmarked
    queue := x.queue ++ (List.range roster.length).map (fun i => ⟨l, i + 1, 1, 1⟩), settings := c.scores
    roster := openRoster c l roster
    account := some (Account.opened l mode c.allowance c.leagueFee roster.length) }

theorem core_openLane (s : State) (l : LaneIx) (c : SessionSettings) (mode : BillingMode) (roster : List SlotView) :
    ((s.openLane l c mode roster).lane l).core = ((s.lane l).opened l c mode roster).core := by
  have queue : ((s.admitted l c).lane l).queue = (s.lane l).queue := (congrArg Lane.queue (core_admitted s l c) :)
  rw [openLane_eq, core_handHead, core_setAccount, lane_reportHead, State.seated, core_setQueue, core_setRoster, core_admitted, queue]
  rfl

theorem fields_of_unbilled {g g' : Gate} (h : g'.unbilled = g.unbilled) :
    g'.noSession = g.noSession ∧ g'.returnJam = g.returnJam ∧ g'.deskHold = g.deskHold ∧ g'.returnBacklog = g.returnBacklog := by
  cases g
  cases g'
  simpa [Gate.unbilled] using h

theorem noSession_cleared (s : State) (l : LaneIx) : ((s.clearReason .noSession l).gate l).noSession = none := by
  rw [gate_clearReason]
  split
  · rfl
  · rename_i h
    simpa [Gate.has, Gate.raisedAt] using h

theorem noSession_openLane (s : State) (l : LaneIx) (c : SessionSettings) (mode : BillingMode) (roster : List SlotView) :
    ((s.openLane l c mode roster).gate l).noSession = none := by
  have admitted : ((s.admitted l c).gate l).noSession = none := noSession_cleared _ l
  rw [openLane_eq, (fields_of_unbilled (unbilled_handHead _ l l)).1, gate_modLane _ _ _ _ rfl, gate_reportHead, State.seated, State.setQueue,
    gate_modLane _ _ _ _ (by split <;> rfl), gate_modLane _ _ _ _ rfl, admitted]

theorem lane_openLane_ne {l k : LaneIx} (h : k ≠ l) (s : State) (c : SessionSettings) (mode : BillingMode) (roster : List SlotView) :
    (s.openLane l c mode roster).lane k = s.lane k := by
  rw [openLane_eq, lane_handHead_ne h, State.lane_modLane_ne _ _ _ _ h, lane_reportHead, State.seated, State.lane_setQueue_ne _ _ _ _ h,
    State.lane_modLane_ne _ _ _ _ h, State.admitted, lane_of_outside (outside_clearReason l _ _) h, lane_setSession_ne h,
    State.lane_modLane_ne _ _ _ _ h]

theorem unstationed_openLane (s : State) (l : LaneIx) (c : SessionSettings) (mode : BillingMode) (roster : List SlotView) (p : PairIx) :
    ((s.openLane l c mode roster).pair p).unstationed = (s.pair p).unstationed := by
  rw [openLane_eq, unstationed_handHead, State.pair_modLane, unstationed_reportHead]
  show ((s.admitted l c).pair p).unstationed = _
  rw [State.admitted, unstationed_of_outside (outside_clearReason l _ _), unstationed_setSession, State.pair_modLane]

theorem quiet_openLane (s : State) (l : LaneIx) (c : SessionSettings) (mode : BillingMode) (roster : List SlotView) :
    (s.openLane l c mode roster).link.quiet = s.link.quiet := by
  rw [openLane_eq, quiet_handHead]
  show Link.quiet (State.link (State.reportHead l _)) = _
  rw [quiet_reportHead]
  show (s.admitted l c).link.quiet = _
  rw [State.admitted, quiet_of_outside (outside_clearReason l _ _), quiet_setSession]
  rfl

theorem kept_openLane (s : State) (l : LaneIx) (c : SessionSettings) (mode : BillingMode) (roster : List SlotView) :
    (s.openLane l c mode roster).kept = s.kept := by
  simp [State.openLane]

theorem elsewhere_openLane (s : State) (l : LaneIx) (c : SessionSettings) (mode : BillingMode) (roster : List SlotView) :
    (s.openLane l c mode roster).elsewhere (some (pairOf l)) = s.elsewhere (some (pairOf l)) := by
  simp [State.openLane]

/-! ### OPEN_SESSION -/

theorem exec_openSession {s : State} {r : Slot} {l : LaneIx} {f : OpenFields} (lane : f.lane = laneNumber l) (fits : s.fits l)
    (front : s.front .openSession r) :
    exec (.openSession true f) s
      = .next ((openSession true f l s).state.answered r (openSession true f l s).status (openSession true f l s).body) := by
  have e : checkLane f.lane (openSession true f) s = openSession true f l s := lane ▸ checkLane_of_fits fits (openSession true f)
  rw [← e]
  exact congrArg Host.Outcome.next (State.carryOut_of_front front _)

/-- A CLOSED lane, a roster of 1 to 8 and what the mode needs pass every check (R4). -/
theorem openSession_of_closed {s : State} {l : LaneIx} {f : OpenFields} {mode : BillingMode} (closed : (s.lane l).session = .closed)
    (least : 1 ≤ f.roster.length) (most : f.roster.length ≤ 8) (code : billingMode f.mode = some mode)
    (tariff : mode.needsTariff = true → s.clockValid = true ∧ s.meter.installed.isSome = true) :
    openSession true f l s = ⟨s.openLane l (appliedSettings f mode) mode (f.roster.map appliedEntry),
      adjustedOr (openAdjusted f mode) .ok, .opened (appliedSettings f mode) (f.roster.map appliedEntry) 1⟩ := by
  have idle : (s.lane l).session.running = false := by rw [closed]; rfl
  have sized : (f.roster.length = 0 || Config.rosterMax < f.roster.length || false) = false := by
    simp only [Config.rosterMax, Bool.or_false, Bool.or_eq_false_iff, decide_eq_false_iff_not]
    omega
  have configured : s.configured mode = true := by
    unfold State.configured
    cases h : mode.needsTariff
    · rfl
    · simp [tariff h]
  simp only [openSession, idle, Bool.not_true, sized, code, configured, Bool.false_eq_true, if_false]

theorem getElem?_openRoster {c : SessionSettings} {l : LaneIx} {entries : List RosterField} {i : Nat} {e : RosterField}
    (h : entries[i]? = some e) :
    (openRoster c l (entries.map appliedEntry))[i]? = some ((bowlerOf (appliedEntry e)).startGame c.scores 1 l) := by
  simp [openRoster, h]

/-- Settles O16, by the lane as openLane leaves it and the parts of the state that it keeps. -/
theorem openSessionOpensTheLane : Obligations.OpenSessionOpensTheLane := by
  unfold Obligations.OpenSessionOpensTheLane
  intro s r l f mode front lane fits closed least most code tariff
  obtain ⟨session, gamesPlanned, lastRoster, game, startLane, boundary, queue, settings, roster, account⟩ :=
    fields_of_core (core_openLane s l (appliedSettings f mode) mode (f.roster.map appliedEntry))
  obtain ⟨slots, replies⟩ := frames_of_quiet (quiet_openLane s l (appliedSettings f mode) mode (f.roster.map appliedEntry))
  obtain ⟨pairMode, pairSettings, ret, health⟩ :=
    fields_of_unstationed (unstationed_openLane s l (appliedSettings f mode) mode (f.roster.map appliedEntry) (pairOf l))
  obtain ⟨-, -, -, -, -, clock, -, meter, hold, bus⟩ :=
    fields_of_kept (kept_openLane s l (appliedSettings f mode) mode (f.roster.map appliedEntry))
  have noSession := noSession_openLane s l (appliedSettings f mode) mode (f.roster.map appliedEntry)
  have otherLanes := fun k (h : k ≠ l) => lane_openLane_ne h s (appliedSettings f mode) mode (f.roster.map appliedEntry)
  have elsewhere := elsewhere_openLane s l (appliedSettings f mode) mode (f.roster.map appliedEntry)
  rw [exec_openSession lane fits front, openSession_of_closed closed least most code tariff]
  generalize s.openLane l (appliedSettings f mode) mode (f.roster.map appliedEntry) = t at *
  refine ⟨_, rfl, session, game, lastRoster, boundary, startLane, gamesPlanned, ?_, noSession, ?_, fun i e he => ?_, ?_, ?_, ?_, ?_,
    otherLanes, fun p hp => pair_of_elsewhere elsewhere (by simpa using hp.symm), pairMode, pairSettings, ret, health, clock, meter, bus, hold⟩
  · refine settings.trans ?_
    simp [Lane.opened, appliedSettings, hold300_eq]
  · refine (congrArg List.length roster).trans ?_
    simp [Lane.opened, openRoster]
  · refine ⟨_, _, (congrArg (·[i]?) roster).trans (getElem?_openRoster he), rfl, rfl, ?_, ?_, ?_, rfl, rfl, rfl, rfl, ?_⟩
    · exact congrFun hold300_eq e.average
    · exact congrFun hold300_eq e.average
    · exact congrArg (fun h : Nat → Nat => e.fixed.map h) hold300_eq
    · have scores : (t.lane l).settings = (appliedSettings f mode).scores := settings
      show handicapOf _ (hold300 e.average) (e.fixed.map hold300) = handicapOf (t.lane l).settings _ _
      rw [hold300_eq, scores]
  · refine queue.trans ?_
    simp [Lane.opened]
  · refine ⟨_, account, rfl, rfl, ?_, rfl, rfl, rfl, rfl, rfl, rfl, ?_⟩
    · cases mode <;> rfl
    · simp [Account.opened]
  · exact congrArg markBuilt slots
  · exact ⟨_, replies_answered replies front.2.2 _ _⟩

end Sys2Proof.Machine
end

section
/-! SUPPORT. What closing a session makes of its lane, step by step: the account made final, the turns taken out of both
queues, the gate; and CLOSE_SESSION. -/

namespace Sys2Proof.Machine

/-! ### The account made final (R167) -/

/-- An account without what a charge changes of it. -/
def Account.uncharged (a : Account) : Account := { a with accrued := 0, carry := 0, feeCount := 0, saturated := false }

/-- a' is account a after charges: nothing else changed, and the charge not lowered and within its limit. -/
def Account.charged (a a' : Account) : Prop :=
  a'.uncharged = a.uncharged ∧ (a.accrued ≤ Config.chargeMax → a.accrued ≤ a'.accrued ∧ a'.accrued ≤ Config.chargeMax)

/-- Lane l is lane x with its account a charged. -/
def State.billed (l : LaneIx) (x : Lane) (a : Account) (s : State) : Prop :=
  ∃ a', s.lane l = { x with account := some a' } ∧ a.charged a'

theorem lane_modAccount_of {s : State} {l : LaneIx} {x : Lane} {a : Account} (h : s.lane l = { x with account := some a })
    (f : Account → Account) : (s.modAccount l f).lane l = { x with account := some (f a) } := by
  rw [State.modAccount, State.lane_modLane_self, h]
  rfl

section Billed

variable {s : State} {l : LaneIx} {x : Lane} {a : Account} (h : s.billed l x a)
include h

theorem billed_report (r : Report) : (s.report r).billed l x a := h

theorem billed_modAccount {f : Account → Account} (hf : ∀ a', a.charged a' → a.charged (f a')) : (s.modAccount l f).billed l x a := by
  obtain ⟨a', lane, charged⟩ := h
  exact ⟨f a', lane_modAccount_of lane f, hf a' charged⟩

theorem billed_setFees (n : Nat) : (s.modAccount l fun a => { a with feeCount := n }).billed l x a :=
  billed_modAccount h fun _ charged => charged

theorem billed_charge (n : Nat) : (s.charge l n).billed l x a := by
  obtain ⟨a', lane, same, range⟩ := h
  have account : (s.lane l).account = some a' := by rw [lane]
  simp only [State.charge, account]
  split
  · rename_i fits
    refine ⟨_, lane_modAccount_of lane _, same, fun least => ⟨?_, fits⟩⟩
    have := (range least).1
    dsimp only
    omega
  · refine State.when_preserves (State.billed l x a) _ _ _ ?_ fun _ hs => billed_report hs _
    exact ⟨_, lane_modAccount_of lane _, same, fun least => ⟨least, le_refl _⟩⟩

theorem billed_chargeMinute (rate : Nat) : (s.chargeMinute l rate).billed l x a := by
  unfold State.chargeMinute
  split
  · exact h
  · refine billed_charge (billed_modAccount h ?_) _
    exact fun _ charged => charged

end Billed

theorem madeFinal_of_charged {a a' : Account} (h : a.charged a') (t : DateTime) :
    a.madeFinal { a' with episode := 0, isFinal := true, closeTime := some t } t := by
  obtain ⟨same, range⟩ := h
  cases a
  cases a'
  simp only [Account.uncharged, Account.mk.injEq] at same
  obtain ⟨lane, mode, allowance, -, used, session, play, down, -, -, -, games, -, -, -, -, -, -, entries⟩ := same
  exact ⟨rfl, rfl, lane, mode, allowance, session, play, down, rfl, used, games, entries, fun least => (range least).1⟩

theorem lane_finalise {s : State} {l : LaneIx} {a : Account} (h : (s.lane l).account = some a) :
    ∃ a', (s.finalise l).lane l = { s.lane l with account := some a' } ∧ a.madeFinal a' s.clock := by
  have start : s.billed l (s.lane l) a := ⟨a, by rw [← h], rfl, fun least => ⟨le_refl _, least⟩⟩
  simp only [State.finalise, h]
  generalize hminute : State.when _ _ s = minute
  have minuted : minute.billed l (s.lane l) a :=
    hminute ▸ State.when_preserves _ _ _ _ start fun _ hs => billed_chargeMinute hs _
  generalize hleague : State.when _ _ minute = league
  have leagued : league.billed l (s.lane l) a :=
    hleague ▸ State.when_preserves _ _ _ _ minuted fun _ hs =>
      billed_setFees (State.each_preserves (State.billed l (s.lane l) a) _ _ (fun n _ _ ht => billed_charge ht n) _ hs) _
  generalize hraised : State.when _ _ league = raised
  have raisedBilled : raised.billed l (s.lane l) a :=
    hraised ▸ State.when_preserves _ _ _ _ leagued fun _ hs => billed_charge hs _
  obtain ⟨a', lane, charged⟩ := raisedBilled
  exact ⟨_, lane_modAccount_of lane _, madeFinal_of_charged charged s.clock⟩

/-- What an application of f keeps, a conditional one keeps. -/
theorem State.when_keeps {β : Type} (g : State → β) (c : Bool) (f : State → State) (s : State) (h : g (f s) = g s) :
    g (s.when c f) = g s := by
  cases c
  · rfl
  · exact h

/-- The account step changes lane l's account and queues reports, and nothing else. -/
theorem finalise_keeps {β : Type} (g : State → β) (l : LaneIx) (account : ∀ s f, g (State.modAccount l f s) = g s)
    (report : ∀ s r, g (State.report r s) = g s) (s : State) : g (s.finalise l) = g s := by
  have charge (n : Nat) (t : State) : g (t.charge l n) = g t := by
    unfold State.charge
    repeat' split
    · rfl
    · exact account _ _
    · rw [State.when_keeps g _ _ _ (report _ _), account]
  have minute (n : Nat) (t : State) : g (t.chargeMinute l n) = g t := by
    unfold State.chargeMinute
    split
    · rfl
    · rw [charge, account]
  simp only [State.finalise]
  split
  · rfl
  · rw [account, State.when_keeps g _ _ _ (charge _ _), State.when_keeps g _ _ _ ?_, State.when_keeps g _ _ _ (minute _ _)]
    rw [account, State.each_keeps g _ _ fun n _ t => charge n t]

/-! ### The turns taken out of both queues (R42) -/

theorem home_frameOneTurns {home : LaneIx} {roster : List Bowler} {number : Nat} {u : Turn} (h : u ∈ frameOneTurns home roster number) :
    u.home = home := by
  obtain ⟨x, -, hx⟩ := List.mem_filterMap.1 h
  split at hx
  · cases hx
    rfl
  · cases hx

/-- A lane that goes on alone queues only its own turns. -/
theorem home_startAlone {s : State} {l : LaneIx} {u : Turn} (h : u ∈ ((s.startAlone l).lane l).queue) :
    u ∈ (s.lane l).queue ∨ u.home = l := by
  unfold State.startAlone at h
  repeat' split at h
  · exact .inl h
  · rw [State.endSeries, lane_setSession_self, State.lane_modLane_self] at h
    exact .inl h
  · exact .inl h
  · rw [(fields_of_core (core_handOffs _ _ _ l)).2.2.2.2.2.2.1, State.beginGame, State.lane_setQueue_queue, State.lane_modLane_self] at h
    exact (List.mem_append.1 h).imp_right home_frameOneTurns

theorem home_revertTurns_partner (s : State) (c : LaneIx) : ∀ u ∈ ((s.revertTurns c).lane (partner c)).queue, u.home ≠ c := by
  intro u hu
  simp only [State.revertTurns] at hu
  split at hu
  · rw [State.dropPending, State.lane_modPair, State.lane_setQueue_queue] at hu
    simpa using (List.mem_filter.1 hu).2
  · rw [State.changeMode, State.lane_report, State.lane_modPair, State.lane_modLane_self] at hu
    dsimp only at hu
    rw [State.lane_setQueue_ne _ _ _ _ (partner_ne c), State.lane_setQueue_queue] at hu
    rcases List.mem_append.1 hu with hu | hu
    · simpa using (List.mem_filter.1 hu).2
    · simpa using (List.mem_filter.1 hu).2

theorem home_closeTurns_partner (s : State) (c : LaneIx) : ∀ u ∈ ((s.closeTurns c).lane (partner c)).queue, u.home ≠ c := by
  intro u hu
  rw [closeTurns_alone] at hu
  rcases home_startAlone hu with hu | hu
  · rw [(fields_of_core (core_handOffs _ _ _ _)).2.2.2.2.2.2.1] at hu
    exact home_revertTurns_partner s c u hu
  · exact fun e => partner_ne c (hu.symm.trans e)

theorem gate_revertTurns_self (s : State) (c : LaneIx) : (s.revertTurns c).gate c = s.gate c := by
  obtain ⟨m, q, -, e⟩ := lane_revertTurns_self s c
  rw [State.gate, e, State.gate]

theorem unbilled_closeTurns (s : State) (c : LaneIx) : ((s.closeTurns c).gate c).unbilled = (s.gate c).unbilled := by
  rw [closeTurns_alone, State.gate, lane_startAlone_ne (partner_ne c).symm, ← State.gate, unbilled_handOffs, gate_revertTurns_self]

@[simp] theorem quiet_handOffs (s before : State) (ls : List LaneIx) : (s.handOffs before ls).link.quiet = s.link.quiet :=
  State.each_keeps (fun s => s.link.quiet) _ _ (fun l _ s => by simp [State.headChanged]) s

theorem quiet_closeTurns (s : State) (c : LaneIx) : (s.closeTurns c).link.quiet = s.link.quiet := by
  rw [closeTurns_alone, startAlone_keeps (fun s => s.link.quiet) _ (fun _ _ => rfl) (fun s st => quiet_setSession s _ st)
    (fun s before => quiet_handOffs s before _)]
  rw [quiet_handOffs]
  simp only [State.revertTurns]
  split
  · rfl
  · exact quiet_report _ _

theorem modes_of_unstationed {s t : State} {p : PairIx} (h : (t.pair p).unstationed = (s.pair p).unstationed) : t.modes p = s.modes p :=
  (congrArg (fun x : Pair => (x.mode, x.pendingMode)) h :)

theorem modes_modLane (s : State) (l : LaneIx) (f : Lane → Lane) (p : PairIx) : (s.modLane l f).modes p = s.modes p := rfl

theorem modes_closeTurns (s : State) (c : LaneIx) : (s.closeTurns c).modes (pairOf c) = (.separate, none) := by
  rw [closeTurns_alone, startAlone_keeps (fun s => s.modes (pairOf c)) _ (fun _ _ => rfl)
    (fun s st => modes_of_unstationed (unstationed_setSession s _ st _)) (fun s before => modes_handOffs s before _ _)]
  rw [modes_handOffs, modes_revertTurns]

/-! ### The lane closed, step by step (R7) -/

/-- Lane l's turns taken out of both queues, its balls orphaned before (R7 step 1, R9). -/
def State.vacated (l : LaneIx) (s : State) : State := (s.orphanBalls l).closeTurns l

/-- Lane l's records withdrawn and its account made final (R7 steps 2 and 3). -/
def State.settled (l : LaneIx) (s : State) : State := (s.modLane l fun x => { x with roster := withdrawRecords x.roster }).finalise l

/-- Lane l's gate and session closed, NO_SESSION raised at a time (R7 steps 4 and 5). -/
def State.shut (l : LaneIx) (time : DateTime) (s : State) : State :=
  (((s.clearReason .deskHold l).raiseReason .noSession time l).modLane l fun x => { x with lastRoster := true }).setSession l .closed

theorem closeLane_eq (s : State) (l : LaneIx) : s.closeLane l = ((s.vacated l).settled l).shut l s.clock := rfl

/-- The lane as CLOSE_SESSION leaves it, with the turns and the account left, but for what PSV, HMN and the hand-offs change
of it. -/
def Lane.closed (queue : List Turn) (account : Option Account) (x : Lane) : Lane :=
  { x with
    session := .closed, lastRoster := true, boundary := .unmarked, queue := queue, roster := x.roster.map Bowler.ended
    account := account }

/-- The balls orphaned are a change of the machines of the pair. -/
theorem orphanBalls_keeps {β : Type} (g : State → β) (l : LaneIx)
    (machine : ∀ s k f, pairOf k = pairOf l → g (State.modMachine k f s) = g s) (s : State) : g (s.orphanBalls l) = g s :=
  (State.when_keeps g _ _ _ (machine _ _ _ (pairOf_partner l))).trans (machine s l _ rfl)

theorem core_modMachine (s : State) (l k : LaneIx) (f : MachineRec → MachineRec) :
    ((s.modMachine l f).lane k).core = (s.lane k).core := core_modLane s l k _ rfl

/-- A lane without its boundary mark, with the turns left in its queue (R7 step 1). -/
def Lane.vacated (queue : List Turn) (x : Lane) : Lane := { x with boundary := .unmarked, queue := queue }

theorem core_vacated (s : State) (l : LaneIx) : ∃ queue, (∀ u ∈ queue, u.home ≠ l)
    ∧ ((s.vacated l).lane l).core = ((s.lane l).vacated queue).core := by
  obtain ⟨queue, home, e⟩ := core_closeTurns (s.orphanBalls l) l
  refine ⟨queue, home, ?_⟩
  rw [State.vacated, e, orphanBalls_keeps (fun s => (s.lane l).core) l fun s k f _ => core_modMachine s k l f]
  rfl

theorem unbilled_vacated (s : State) (l : LaneIx) : ((s.vacated l).gate l).unbilled = (s.gate l).unbilled := by
  rw [State.vacated, unbilled_closeTurns, orphanBalls_keeps (fun s => s.gate l) l fun s k f _ => gate_modMachine s k l f]

/-- The lane's records withdrawn and its account, where it has one, made final. -/
theorem lane_settled (s : State) (l : LaneIx) : ∃ account,
    (s.settled l).lane l = { s.lane l with roster := (s.lane l).roster.map Bowler.ended, account := account }
      ∧ ∀ a, (s.lane l).account = some a → ∃ a', account = some a' ∧ a.madeFinal a' s.clock := by
  have withdrawn : (s.modLane l fun x => { x with roster := withdrawRecords x.roster }).lane l
      = { s.lane l with roster := (s.lane l).roster.map Bowler.ended } := State.lane_modLane_self _ _ _
  cases h : (s.lane l).account with
  | none =>
    refine ⟨none, ?_, nofun⟩
    rw [State.settled, State.finalise, withdrawn]
    simp only [h]
    rw [withdrawn, ← h]
  | some a =>
    obtain ⟨a', lane, final⟩ := lane_finalise (s := s.modLane l fun x => { x with roster := withdrawRecords x.roster }) (l := l) (a := a)
      (by rw [withdrawn, h])
    refine ⟨some a', by rw [State.settled, lane, withdrawn], fun b hb => ⟨a', rfl, ?_⟩⟩
    cases hb
    exact final

theorem lane_settled_ne {l k : LaneIx} (h : k ≠ l) (s : State) : (s.settled l).lane k = s.lane k := by
  rw [State.settled, finalise_keeps (fun s => s.lane k) l (fun s f => State.lane_modLane_ne s l k _ h) (fun _ _ => rfl),
    State.lane_modLane_ne _ _ _ _ h]

theorem core_shut (s : State) (l : LaneIx) (time : DateTime) :
    ((s.shut l time).lane l).core = { (s.lane l).core with lastRoster := true, session := .closed } := by
  rw [State.shut, core_setSession, State.lane_modLane_self]
  show ({ (State.lane (State.raiseReason .noSession time l (s.clearReason .deskHold l)) l).core with
    lastRoster := true, session := .closed } : Lane) = _
  rw [core_of_outside (outside_raiseReason l _ _ _), core_clearReason]

theorem gate_shut {s : State} {l : LaneIx} (open_ : (s.gate l).noSession = none) (time : DateTime) :
    ((s.shut l time).gate l).noSession = some time ∧ ((s.shut l time).gate l).deskHold = none := by
  have gate : (s.shut l time).gate l = ((s.clearReason .deskHold l).raiseReason .noSession time l).gate l := by
    rw [State.shut, State.setSession, gate_darkTest, gate_modLane _ _ _ _ rfl, gate_modLane _ _ _ _ rfl]
  have cleared : (s.clearReason .deskHold l).gate l = { s.gate l with deskHold := none } := by
    rw [gate_clearReason]
    split
    · rfl
    · rename_i h
      have : (s.gate l).deskHold = none := by simpa [Gate.has, Gate.raisedAt] using h
      rw [← this]
  rw [gate, gate_raiseReason, cleared]
  simp [Gate.has, Gate.raisedAt, open_, Gate.put]

theorem lane_shut_ne {l k : LaneIx} (h : k ≠ l) (s : State) (time : DateTime) : (s.shut l time).lane k = s.lane k := by
  rw [State.shut, lane_setSession_ne h, State.lane_modLane_ne _ _ _ _ h, lane_of_outside (outside_raiseReason l _ _ _) h,
    lane_of_outside (outside_clearReason l _ _) h]

theorem outside_closeStandby (s : State) (l : LaneIx) : (s.closeStandby l).outside l = s.outside l :=
  State.when_keeps (State.outside l) _ _ _ (by simp)

theorem gate_closeStandby (s : State) (l k : LaneIx) : (s.closeStandby l).gate k = s.gate k :=
  State.when_keeps (fun s => s.gate k) _ _ _ (by simp)

/-! ### The session closed -/

theorem core_closeSession (s : State) (l : LaneIx) : ∃ queue account, (∀ u ∈ queue, u.home ≠ l)
    ∧ (∀ a, (s.lane l).account = some a → ∃ a', account = some a' ∧ a.madeFinal a' s.clock)
    ∧ ((s.closeSession l).lane l).core = ((s.lane l).closed queue account).core := by
  obtain ⟨queue, home, vacated⟩ := core_vacated s l
  obtain ⟨account, settled, final⟩ := lane_settled (s.vacated l) l
  have kept : (s.vacated l).kept = s.kept := by
    rw [State.vacated, kept_closeTurns, orphanBalls_keeps State.kept l fun _ _ _ _ => rfl]
  have clock : (s.vacated l).clock = s.clock := (fields_of_kept kept).2.2.2.2.2.1
  obtain ⟨-, -, -, -, -, -, -, -, roster, before⟩ := fields_of_core vacated
  refine ⟨queue, account, home, fun a ha => ?_, ?_⟩
  · rw [← clock]
    exact final a (before.trans ha)
  · have settledCore : (((s.vacated l).settled l).lane l).core = { ((s.vacated l).lane l).core with
        roster := (s.lane l).roster.map Bowler.ended, account := account } := by
      rw [settled, roster]
      rfl
    rw [State.closeSession, core_of_outside (outside_closeStandby _ l), closeLane_eq, core_shut, settledCore, vacated]
    rfl

theorem gate_closeSession {s : State} {l : LaneIx} (open_ : (s.gate l).noSession = none) :
    ((s.closeSession l).gate l).noSession = some s.clock ∧ ((s.closeSession l).gate l).deskHold = none := by
  obtain ⟨account, settled, -⟩ := lane_settled (s.vacated l) l
  have gate : ((s.vacated l).settled l).gate l = (s.vacated l).gate l := by rw [State.gate, settled, State.gate]
  rw [State.closeSession, gate_closeStandby, closeLane_eq]
  exact gate_shut (by rw [gate, (fields_of_unbilled (unbilled_vacated s l)).1, open_]) s.clock

theorem home_closeSession_partner (s : State) (l : LaneIx) : ∀ u ∈ ((s.closeSession l).lane (partner l)).queue, u.home ≠ l := by
  intro u hu
  rw [State.closeSession, queue_of_outside (outside_closeStandby _ l), closeLane_eq, lane_shut_ne (partner_ne l),
    lane_settled_ne (partner_ne l)] at hu
  exact home_closeTurns_partner _ l u hu

theorem link_modLane (s : State) (l : LaneIx) (f : Lane → Lane) : (s.modLane l f).link = s.link := rfl

theorem quiet_closeSession (s : State) (l : LaneIx) : (s.closeSession l).link.quiet = s.link.quiet := by
  rw [State.closeSession, quiet_of_outside (outside_closeStandby _ l), closeLane_eq, State.shut, quiet_setSession, link_modLane,
    quiet_of_outside (outside_raiseReason l _ _ _), quiet_of_outside (outside_clearReason l _ _), State.settled,
    finalise_keeps (fun s => s.link.quiet) l (fun _ _ => rfl) fun s r => quiet_report s r,
    link_modLane, State.vacated, quiet_closeTurns, orphanBalls_keeps (fun s => s.link.quiet) l fun _ _ _ _ => rfl]

theorem modes_closeSession (s : State) (l : LaneIx) : (s.closeSession l).modes (pairOf l) = (.separate, none) := by
  rw [State.closeSession, modes_of_outside (outside_closeStandby _ l), closeLane_eq, State.shut,
    modes_of_unstationed (unstationed_setSession _ l _ _), modes_modLane, modes_of_outside (outside_raiseReason l _ _ _),
    modes_of_outside (outside_clearReason l _ _), State.settled,
    finalise_keeps (fun s => s.modes (pairOf l)) l (fun _ _ => rfl) fun _ _ => rfl, modes_modLane, State.vacated, modes_closeTurns]

/-! ### CLOSE_SESSION -/

theorem exec_closeSession {s : State} {r : Slot} {l : LaneIx} (front : s.front .closeSession r) (running : (s.lane l).session ≠ .closed) :
    exec (.closeSession true (laneNumber l)) s
      = .next ((s.closeSession l).answered r .ok (.finalAccount ((s.closeSession l).lane l).account)) := by
  have e : checkLaneExempt (laneNumber l) (fun l s =>
      if (s.lane l).session.running then ⟨s.closeSession l, .ok, .finalAccount ((s.closeSession l).lane l).account⟩
      else refuse .noSession s) s = ⟨s.closeSession l, .ok, .finalAccount ((s.closeSession l).lane l).account⟩ := by
    rw [checkLaneExempt_of_running running, if_pos ((running_iff _).2 running)]
  refine (congrArg Host.Outcome.next (State.carryOut_of_front front _)).trans ?_
  rw [checkLength, if_pos rfl, e]

theorem ended_state (g : Game) : g.ended.state ≠ .inProgress := by
  unfold Game.ended
  split
  · nofun
  · assumption

theorem ended_keeps (g : Game) : g.ended.number = g.number ∧ g.ended.frames = g.frames
    ∧ (g.state = .inProgress → g.ended.state = .withdrawn) ∧ (g.state ≠ .inProgress → g.ended = g) := by
  unfold Game.ended
  split
  · rename_i playing
    exact ⟨rfl, rfl, fun _ => rfl, fun h => absurd playing h⟩
  · rename_i ended
    exact ⟨rfl, rfl, fun h => absurd h ended, fun _ => rfl⟩

/-- Settles O17, by the lane as closeSession leaves it, the turns it takes out and the parts of the state that it keeps. -/
theorem closeSessionClosesTheLane : Obligations.CloseSessionClosesTheLane := by
  unfold Obligations.CloseSessionClosesTheLane
  intro s r l front running open_
  obtain ⟨queue', account', home, final, core⟩ := core_closeSession s l
  obtain ⟨session, -, lastRoster, game, -, boundary, queue, settings, roster, account⟩ := fields_of_core core
  obtain ⟨noSession, deskHold⟩ := gate_closeSession open_
  obtain ⟨mode, pending⟩ := Prod.mk.inj (modes_closeSession s l)
  obtain ⟨slots, replies⟩ := frames_of_quiet (quiet_closeSession s l)
  obtain ⟨-, -, -, -, -, clock, -, meter, hold, -⟩ := fields_of_kept (kept_closeSession s l)
  have partnerHome := home_closeSession_partner s l
  have elsewhere := elsewhere_closeSession rfl s (l := l)
  rw [exec_closeSession front running]
  generalize s.closeSession l = t at *
  refine ⟨_, rfl, session, lastRoster, boundary, noSession, deskHold, fun u hu => ?_, mode, pending, settings, game, roster,
    fun i b hb => ?_, fun b hb g hg => ?_, fun a ha => ?_, congrArg markBuilt slots, replies_answered replies front.2.2 _ _,
    fun k hk => lane_of_elsewhere elsewhere (by simpa using hk.symm), fun p hp => pair_of_elsewhere elsewhere (by simpa using hp.symm),
    clock, meter, hold⟩
  · rcases List.mem_append.1 hu with hu | hu
    · exact home u ((congrArg (u ∈ ·) queue).mp hu)
    · exact partnerHome u hu
  · refine ⟨b.ended, (congrArg (·[i]?) roster).trans (by simp [Lane.closed, hb]), rfl, rfl, fun j g hg => ?_⟩
    exact ⟨g.ended, by simp [Bowler.ended, hg], ended_keeps g⟩
  · have ended : b ∈ (s.lane l).roster.map Bowler.ended := (congrArg (b ∈ ·) roster).mp hb
    obtain ⟨before, -, rfl⟩ := List.mem_map.1 ended
    obtain ⟨game, -, rfl⟩ := List.mem_map.1 hg
    exact ended_state game
  · obtain ⟨a', some', finalised⟩ := final a ha
    exact ⟨a', account.trans some', finalised⟩

end Sys2Proof.Machine
end

section
/-! SUPPORT. The values that the resets give, the invariants right after power-on, and the reads of a lane, a return and
a record. -/

namespace Sys2Proof.Machine

/-! ### Power-on -/

/-- Settles O4, by the lane and the pair that power-on gives. -/
theorem powerOnValues : Obligations.PowerOnValues := by
  unfold Obligations.PowerOnValues
  intro rate1 rate0 s
  refine ⟨_, rfl, rfl, rfl, rfl, rfl, rfl, rfl, rfl, rfl, rfl, fun l => ?_, fun p => ?_, rfl, rfl, rfl, rfl, rfl, rfl, rfl, rfl, rfl, rfl, rfl,
    rfl⟩
  · have lane : (s.poweredOn rate1 rate0).lane l = Lane.initial l .epoch .initial := lane_powerOn rate1 rate0 l
    simp only [State.gate, State.machine, lane]
    exact ⟨rfl, rfl, rfl, rfl, rfl, rfl, rfl, rfl, rfl, rfl, rfl, rfl, rfl, rfl, rfl, rfl, rfl, rfl, rfl, rfl⟩
  · have pair : (s.poweredOn rate1 rate0).pair p = Pair.initial .initial false := pair_powerOn rate1 rate0 p
    simp only [State.ret, State.station, pair]
    exact ⟨rfl, rfl, rfl, rfl, rfl, rfl, rfl, rfl, rfl⟩

/-! ### The reset line -/

theorem exec_resetLineAsserted {s : State} (h : s.free) : exec .resetLineAsserted s = .next { s with held := true } :=
  congrArg Host.Outcome.next (State.live_of_free h _)

/-- While RESET_N is LOW every other command is no occasion for anything (log 5). -/
theorem exec_of_held {s : State} (h : s.held = true) {c : Instr} (power : ∀ a b, c ≠ .powerOn a b) (edge : ∀ a b, c ≠ .resetLine a b)
    (second : c ≠ .secondEvent) : exec c s = .next s := by
  have live (f : State → State) : State.live f s = s := State.live_of_held h f
  have part (t : State) : (if s.held then s else t) = s := if_pos h
  cases c with
  | powerOn a b => exact absurd rfl (power a b)
  | resetLine a b => exact absurd rfl (edge a b)
  | secondEvent => exact absurd rfl second
  | minuteEvent | playMinute lane | prepaidMinute lane | deskSilenceExpiry | idleTimerExpiry lane | onTimeElapsed lane
  | oldestEntryExpiry pair => exact congrArg Host.Outcome.next (part _)
  | _ => exact congrArg Host.Outcome.next (live _)

/-- A second event while RESET_N is LOW moves the clock on, and no lane, pair, tariff or frame (R149). -/
theorem toSecond_of_held {s : State} (h : s.held = true) : s.toSecond.clock = s.clock.tick ∧ s.toSecond.lanes = s.lanes
    ∧ s.toSecond.pairs = s.pairs ∧ s.toSecond.meter = s.meter ∧ s.toSecond.link = s.link :=
  ⟨rfl, rfl, if_pos h, rfl, rfl⟩

/-- Settles O5, by the hold of every command at a LOW reset line and the lane and the pair that its rising edge gives. -/
theorem resetLineKeepsClockAndHealth : Obligations.ResetLineKeepsClockAndHealth := by
  unfold Obligations.ResetLineKeepsClockAndHealth
  refine ⟨fun s h => exec_resetLineAsserted h, fun c s h power edge second => exec_of_held h power edge second,
    fun s h => ⟨s.toSecond, congrArg Host.Outcome.next (if_pos h), toSecond_of_held h⟩, fun rate1 rate0 s => ?_⟩
  refine ⟨s.lineReset rate1 rate0, rfl, rfl, rfl, rfl, rfl, rfl, rfl, fun l => ?_, fun p => ?_, rfl, rfl, rfl⟩
  · simp only [State.gate, State.machine, lane_lineReset]
    exact ⟨rfl, rfl, rfl, rfl, rfl, rfl, rfl, rfl, rfl, rfl, rfl, rfl⟩
  · simp only [State.ret, State.station, pair_lineReset]
    exact ⟨rfl, rfl, rfl, rfl, rfl, rfl, rfl, rfl, rfl, rfl, rfl, rfl, rfl, rfl, rfl, rfl⟩

/-! ### The invariants right after power-on -/

theorem lane_reset (l : LaneIx) : State.reset.lane l = Lane.initial l .epoch .initial := lane_powerOn false false l

theorem pair_reset (p : PairIx) : State.reset.pair p = Pair.initial .initial false := pair_powerOn false false p

theorem initialMachine_sound : MachineRec.initial.sound := by
  unfold MachineRec.sound
  decide

theorem initialStation_sound : Station.initial.sound := by
  unfold Station.sound
  decide

/-- With no session open and no turn queued, the turns are sound. -/
theorem turnsSound_reset : State.reset.turnsSound := by
  unfold State.turnsSound State.startsAtHome State.pairTurns State.machine
  simp only [lane_reset]
  exact ⟨fun _ => rfl, nofun, fun _ => List.nodup_nil, nofun, nofun, nofun, fun _ => Nat.zero_le 8, nofun⟩

/-- Settles O59, by the lane, the pair and the link that power-on gives. -/
theorem resetIsSound : Obligations.ResetIsSound := by
  unfold Obligations.ResetIsSound
  refine ⟨?_, fun l a ha => ?_, fun l => ?_, playSound_powerOn false false, fun p => ?_, fun p polled => ?_, turnsSound_reset⟩
  · unfold State.linkSound Link.sound
    decide
  · rw [lane_reset] at ha
    cases ha
  · rw [State.machine, lane_reset]
    exact initialMachine_sound
  · rw [State.station, pair_reset]
    exact initialStation_sound
  · rw [State.station, pair_reset] at polled
    cases polled

/-! ### The reads (R20, R80, R81, R133, R147, R168) -/

theorem shown_iff (x : Lane) : x.shown = true ↔ x.session ≠ .closed ∨ x.lastRoster = true := by
  rw [Lane.shown, Bool.or_eq_true, running_iff]

theorem checkHeld_of_shown {s : State} {l : LaneIx} (h : (s.lane l).session ≠ .closed ∨ (s.lane l).lastRoster = true)
    (k : LaneIx → State → Answer) : checkHeld true k l s = k l s :=
  if_pos ((shown_iff _).2 h)

theorem not_closed_of_shown {x : Lane} (h : x.session ≠ .closed ∨ x.lastRoster = true) :
    ¬(x.session = .closed && !x.lastRoster) = true := by
  rcases h with running | roster
  · simp [running]
  · simp [roster]

theorem checkLength_agreed (k : State → Answer) (s : State) : checkLength true k s = k s := rfl

theorem getGame_of_record {s : State} {l : LaneIx} {slot game : Nat} {b : Bowler} {g : Game} (bowler : s.bowler l slot = some b)
    (record : (if game = 0 then b.games.getLast? else b.game game) = some g) :
    getGame slot game l s = ⟨s, .ok, .game (gameView slot b g l)⟩ := by
  simp only [getGame, checkSlot, bowler, record]

theorem getTeam_of_known {s : State} {l : LaneIx} {game : Nat} (known : game ≤ (s.lane l).game) (started : (s.lane l).game ≠ 0) :
    getTeam game l s = ⟨s, .ok, .team (teamView l (if game = 0 then (s.lane l).game else game) (s.lane l).roster)⟩ := by
  simp [getTeam, started, Nat.not_lt.2 known]

/-- A request at the front whose checks pass and which answers s unchanged is answered, and nothing else changes. -/
theorem next_of_read {s : State} {r : Slot} {kind : RequestKind} (front : s.front kind r) {f : State → Answer} {body : ReplyBody}
    (read : f s = ⟨s, .ok, body⟩) : Host.Outcome.next (State.live (State.carryOut kind fun _ => f) s)
      = (Host.Outcome.next (s.answered r .ok body) : Host.Outcome State Fault Refusal) := by
  rw [State.carryOut_of_front front, read]

/-- Settles O19, read by read: each check passes, and the answer leaves the state as it stands. -/
theorem laneReadsChangeNothing : Obligations.LaneReadsChangeNothing := by
  unfold Obligations.LaneReadsChangeNothing
  intro s r l fits
  refine ⟨fun front => next_of_read front ?_, fun front => next_of_read front ?_, fun front => next_of_read front ?_,
    fun a front account shown => next_of_read front ?_,
    fun shown => ⟨fun slot game b g front bowler record => next_of_read front ?_, fun game front known started => next_of_read front ?_⟩⟩
  · rw [checkLength_agreed, checkLaneExempt_of_fits fits]
  · rw [checkLength_agreed, checkLane_of_fits fits]
  · rw [checkPair_of_present fits.1, checkLength_agreed]
    rfl
  · rw [checkLength_agreed, checkLane_of_fits fits, if_neg (not_closed_of_shown shown), State.accountReply, account]
  · rw [checkLane_of_fits fits, checkHeld_of_shown shown, getGame_of_record bowler record]
  · rw [checkLane_of_fits fits, checkHeld_of_shown shown, getTeam_of_known known started]

end Sys2Proof.Machine
end

section
/-! SUPPORT. Rosters and their records: the bowler in a slot, its record of a game number, the records of a roster, and
the frame-1 turns made of them. -/

namespace Sys2Proof.Machine

/-! ### Bowlers and records -/

theorem bowlerAt_none (roster : List Bowler) {slot : Nat} (h : roster.length < slot) : bowlerAt roster slot = none := by
  unfold bowlerAt
  split
  · rfl
  · exact List.getElem?_eq_none (by omega)

theorem bowlerAt_modBowler (slot k : Nat) (f : Bowler → Bowler) (roster : List Bowler) :
    bowlerAt (modBowler slot f roster) k = if k = slot then (bowlerAt roster k).map f else bowlerAt roster k := by
  unfold bowlerAt modBowler
  by_cases hk : k = 0
  · simp [hk]
  by_cases hs : slot = 0
  · simp [hs, hk]
  · have e : slot - 1 = k - 1 ↔ k = slot := by omega
    rw [if_neg hk, if_neg hs, if_neg hk, List.getElem?_modify]
    by_cases h : k = slot <;> simp [e, h]

theorem bowlerAt_map (f : Bowler → Bowler) (roster : List Bowler) (slot : Nat) :
    bowlerAt (roster.map f) slot = (bowlerAt roster slot).map f := by
  unfold bowlerAt
  split
  · rfl
  · exact List.getElem?_map

theorem bowlerAt_append_left {roster more : List Bowler} {slot : Nat} (h : slot ≤ roster.length) :
    bowlerAt (roster ++ more) slot = bowlerAt roster slot := by
  unfold bowlerAt
  split
  · rfl
  · exact List.getElem?_append_left (by omega)

@[simp] theorem length_modBowler (slot : Nat) (f : Bowler → Bowler) (roster : List Bowler) :
    (modBowler slot f roster).length = roster.length := by
  unfold modBowler
  split
  · rfl
  · exact List.length_modify ..

/-- A change that keeps the game numbers changes the record of its own number alone. -/
theorem game_modGame {f : Game → Game} (hf : ∀ g, (f g).number = g.number) (n m : Nat) (b : Bowler) :
    (b.modGame n f).game m = if m = n then (b.game m).map f else b.game m := by
  have number (g : Game) : (if g.number = n then f g else g).number = g.number := by
    split
    · exact hf g
    · rfl
  simp only [Bowler.game, Bowler.modGame, List.find?_map, Function.comp_def, number]
  cases e : b.games.find? fun g => decide (g.number = m) with
  | none => simp
  | some g =>
    obtain rfl : g.number = m := by simpa using List.find?_some e
    by_cases h : g.number = n <;> simp [h]

/-- The numbered bowlers of a roster are those in its slots. -/
theorem mem_slotted (roster : List Bowler) (x : Nat × Bowler) : x ∈ slotted roster ↔ bowlerAt roster x.1 = some x.2 := by
  obtain ⟨slot, b⟩ := x
  simp only [slotted, List.mem_map, Prod.mk.injEq, bowlerAt, Prod.exists, List.mem_zipIdx_iff_getElem?]
  constructor
  · rintro ⟨b', i, h, rfl, rfl⟩
    simpa using h
  · intro h
    split at h
    · cases h
    · exact ⟨b, slot - 1, h, by omega, rfl⟩

theorem mem_recordsOf (roster : List Bowler) (n : Nat) (x : Nat × Bowler × Game) :
    x ∈ recordsOf roster n ↔ bowlerAt roster x.1 = some x.2.1 ∧ x.2.1.game n = some x.2.2 := by
  obtain ⟨slot, b, g⟩ := x
  simp only [recordsOf, List.mem_filterMap, mem_slotted, Option.map_eq_some_iff, Prod.mk.injEq, Prod.exists]
  constructor
  · rintro ⟨slot', b', h, g', hg, rfl, rfl, rfl⟩
    exact ⟨h, hg⟩
  · rintro ⟨h, hg⟩
    exact ⟨slot, b, h, g, hg, rfl, rfl, rfl⟩

/-! ### Frame-1 turns (R30) -/

/-- Where each element kept keeps its key, the keys kept are a sublist of the keys. -/
theorem map_filterMap_sublist {α β κ : Type} {f : α → Option β} {key : β → κ} {key' : α → κ}
    (h : ∀ a b, f a = some b → key b = key' a) (xs : List α) : ((xs.filterMap f).map key).Sublist (xs.map key') := by
  induction xs with
  | nil => exact List.Sublist.slnil
  | cons a xs ih =>
    rw [List.filterMap_cons]
    split
    · exact ih.cons _
    · rename_i b e
      rw [List.map_cons, List.map_cons, h a b e]
      exact ih.cons_cons _

theorem nodup_slotted (roster : List Bowler) : ((slotted roster).map Prod.fst).Nodup := by
  have : (slotted roster).map Prod.fst = (roster.zipIdx.map Prod.snd).map (· + 1) := by
    rw [slotted, List.map_map, List.map_map]
    rfl
  rw [this, List.zipIdx_map_snd]
  exact List.Nodup.map (add_left_injective 1) List.nodup_range'

theorem nodup_frameOneTurns (home : LaneIx) (roster : List Bowler) (n : Nat) :
    ((frameOneTurns home roster n).map Turn.slot).Nodup := by
  refine List.Nodup.sublist (map_filterMap_sublist (key' := Prod.fst) (fun x u hu => ?_) _) ?_
  · split at hu
    · cases hu
      rfl
    · cases hu
  · refine List.Nodup.sublist (map_filterMap_sublist (key' := Prod.fst) (fun x u hu => ?_) _) (nodup_slotted roster)
    obtain ⟨g, -, rfl⟩ := Option.map_eq_some_iff.1 hu
    rfl

/-- A frame-1 turn stands for each slot whose record of the game is IN_PROGRESS. -/
theorem mem_frameOneTurns (home : LaneIx) (roster : List Bowler) (n : Nat) (u : Turn) :
    u ∈ frameOneTurns home roster n
      ↔ u = ⟨home, u.slot, n, 1⟩ ∧ ((bowlerAt roster u.slot).bind (·.game n)).map (·.state) = some .inProgress := by
  simp only [frameOneTurns, List.mem_filterMap, mem_recordsOf, Prod.exists]
  constructor
  · rintro ⟨slot, b, g, ⟨hb, hg⟩, hu⟩
    split at hu
    · rename_i state
      cases hu
      exact ⟨rfl, by simp [hb, hg, state]⟩
    · cases hu
  · rintro ⟨e, h⟩
    obtain ⟨g, hg, state⟩ := Option.map_eq_some_iff.1 h
    obtain ⟨b, hb, hg⟩ := Option.bind_eq_some_iff.1 hg
    exact ⟨u.slot, b, g, ⟨hb, hg⟩, by rw [if_pos state, ← e]⟩

end Sys2Proof.Machine
end

section
/-! SUPPORT. What the invariant of the turns reads of the state, turnPart: of each lane its team, its queue and the turn of a
ball to be scored; of each pair whether it is SEPARATE. turnsSound is a condition on it alone. -/

namespace Sys2Proof.Machine

/-- What turnsSound reads of a lane's team: plays of a slot, that its record of the current game is IN_PROGRESS; bowled, that
a record of the current game has a ball. -/
@[ext] structure Team where
  isOpen : Bool
  game : Nat
  start : LaneIx
  reached : Bool
  plays : Nat → Bool
  bowled : Bool
  size : Nat

/-- The record of the current game of the bowler in a slot. -/
def Lane.record (x : Lane) (slot : Nat) : Option Game := (bowlerAt x.roster slot).bind (·.game x.game)

/-- A lane's team. -/
def Lane.team (x : Lane) : Team :=
  { isOpen := x.session = .open_, game := x.game, start := x.startLane, reached := x.boundary = .reached
    plays := fun slot => (x.record slot).map (·.state) = some .inProgress
    bowled := (recordsOf x.roster x.game).any fun r => r.2.2.balls ≠ [], size := x.roster.length }

/-- The bowler of a turn: its home lane and its slot. -/
def Turn.seat (t : Turn) : LaneIx × Nat := (t.home, t.slot)

/-- What turnsSound reads of the state. -/
@[ext] structure TurnPart where
  teams : LaneIx → Team
  queues : LaneIx → List Turn
  scored : LaneIx → Option Turn
  separate : PairIx → Bool

/-- The turn of a ball of lane l that is to be scored. -/
def MachineRec.scored (m : MachineRec) : Option Turn := (m.ball.filter (!·.orphan)).map (·.turn)

/-- The part of the turns of a state. -/
def State.turnPart (s : State) : TurnPart :=
  { teams := fun l => (s.lane l).team, queues := fun l => (s.lane l).queue, scored := fun l => (s.machine l).scored
    separate := fun p => (s.pair p).mode = .separate }

/-- The bowlers of the turns of a lane's queue and of its partner's. -/
def TurnPart.seats (P : TurnPart) (l : LaneIx) : List (LaneIx × Nat) := (P.queues l ++ P.queues (partner l)).map Turn.seat

/-- turnSound over the part of the turns. -/
structure TurnPart.fits (P : TurnPart) (l : LaneIx) (t : Turn) : Prop where
  pair : pairOf t.home = pairOf l
  isOpen : (P.teams t.home).isOpen = true
  game : t.game = (P.teams t.home).game
  first : 1 ≤ t.frame
  last : t.frame ≤ 10
  plays : (P.teams t.home).plays t.slot = true
  atHome : P.separate (pairOf l) = true → t.home = l
  start : (P.teams t.home).bowled = false → (P.teams t.home).start = l

/-- turnsSound over the part of the turns. A lane of E is one whose turns are taken out as its session closes: its bowlers
need no turn, and it needs no start lane of its own. -/
structure TurnPart.sound (E : Set LaneIx) (P : TurnPart) : Prop where
  home : ∀ l, pairOf (P.teams l).start = pairOf l
  turns : ∀ l, ∀ t ∈ P.queues l, P.fits l t
  once : ∀ l, (P.seats l).Nodup
  seated : ∀ l, l ∉ E → (P.teams l).isOpen = true → ∀ slot, (P.teams l).plays slot = true → (l, slot) ∈ P.seats l
  reached : ∀ l, (P.teams l).reached = true → (P.teams l).isOpen = true ∧ ∀ slot, (P.teams l).plays slot = false
  starts : ∀ l, l ∉ E → (P.teams l).isOpen = true → (P.teams l).reached = false → P.separate (pairOf l) = true →
    (P.teams l).start = l
  size : ∀ l, (P.teams l).size ≤ 8
  scored : ∀ l t, P.scored l = some t → (P.queues l).head? = some t

/-! ### The condition over the part -/

theorem plays_iff (x : Lane) (slot : Nat) : x.team.plays slot = true ↔ ∃ g, x.record slot = some g ∧ g.state = .inProgress := by
  simp [Lane.team, Option.map_eq_some_iff]

theorem record_iff (x : Lane) (slot : Nat) (g : Game) : x.record slot = some g ↔ ∃ b, (slot, b, g) ∈ recordsOf x.roster x.game := by
  simp [Lane.record, mem_recordsOf, Option.bind_eq_some_iff]

theorem bowled_iff (x : Lane) : x.team.bowled = true ↔ ∃ slot g, x.record slot = some g ∧ g.balls ≠ [] := by
  simp only [Lane.team, List.any_eq_true, decide_eq_true_eq, record_iff, Prod.exists]
  constructor
  · rintro ⟨slot, b, g, h, balls⟩
    exact ⟨slot, g, ⟨b, h⟩, balls⟩
  · rintro ⟨slot, g, ⟨b, h⟩, balls⟩
    exact ⟨slot, b, g, h, balls⟩

theorem unbowled_iff (s : State) (l : LaneIx) : s.unbowled l ↔ (s.lane l).team.bowled = false := by
  simp [State.unbowled, Lane.team]

theorem ended_iff (st : GameState) : st.ended = true ↔ st ≠ .inProgress := by cases st <;> simp [GameState.ended]

theorem gameEnded_iff (s : State) (l : LaneIx) : s.gameEnded l = true ↔ ∀ slot, (s.lane l).team.plays slot = false := by
  simp only [State.gameEnded, List.all_eq_true, ended_iff, Bool.eq_false_iff, ne_eq, plays_iff, record_iff, Prod.forall]
  constructor
  · rintro h slot ⟨g, ⟨b, hr⟩, playing⟩
    exact h slot b g hr playing
  · intro h slot b g hr playing
    exact h slot ⟨g, ⟨b, hr⟩, playing⟩

theorem gameOf_of_current {s : State} {t : Turn} (h : t.game = (s.lane t.home).game) : s.gameOf t = (s.lane t.home).record t.slot := by
  rw [State.gameOf, h]
  rfl

theorem turnSound_iff (s : State) (l : LaneIx) (t : Turn) : s.turnSound l t ↔ s.turnPart.fits l t := by
  have plays (h : t.game = (s.lane t.home).game) :
      (s.gameOf t).map (·.state) = some .inProgress ↔ (s.turnPart.teams t.home).plays t.slot = true := by
    rw [gameOf_of_current h]
    exact (decide_eq_true_iff).symm
  constructor
  · rintro ⟨pair, isOpen, game, first, last, playing, home, start⟩
    exact ⟨pair, decide_eq_true isOpen, game, first, last, (plays game).1 playing, fun h => home (of_decide_eq_true h),
      fun h => start ((unbowled_iff s t.home).2 h)⟩
  · rintro ⟨pair, isOpen, game, first, last, playing, home, start⟩
    exact ⟨pair, of_decide_eq_true isOpen, game, first, last, (plays game).2 playing, fun h => home (decide_eq_true h),
      fun h => start ((unbowled_iff s t.home).1 h)⟩

theorem scored_iff (m : MachineRec) (t : Turn) : m.scored = some t ↔ ∃ b ∈ m.ball, b.orphan = false ∧ b.turn = t := by
  simp [MachineRec.scored, Option.map_eq_some_iff, Option.filter_eq_some_iff, and_assoc]

theorem lanes_of_pair (l : LaneIx) :
    (laneA (pairOf l) = l ∧ laneB (pairOf l) = partner l) ∨ (laneA (pairOf l) = partner l ∧ laneB (pairOf l) = l) := by
  revert l; decide

/-- The turns of a lane's pair are those of its queue and its partner's. -/
theorem pairTurns_perm (s : State) (l : LaneIx) : (s.pairTurns (pairOf l)).Perm (s.turnPart.queues l ++ s.turnPart.queues (partner l)) := by
  rcases lanes_of_pair l with ⟨a, b⟩ | ⟨a, b⟩ <;> rw [State.pairTurns, a, b]
  · exact List.Perm.refl _
  · exact List.perm_append_comm

theorem turnsSound_iff (s : State) : s.turnsSound ↔ s.turnPart.sound ∅ := by
  have seats (l : LaneIx) : ((s.pairTurns (pairOf l)).map Turn.seat).Perm (s.turnPart.seats l) := (pairTurns_perm s l).map _
  have seated (l : LaneIx) (slot : Nat) :
      (∃ t ∈ s.pairTurns (pairOf l), t.home = l ∧ t.slot = slot) ↔ (l, slot) ∈ s.turnPart.seats l := by
    rw [← (seats l).mem_iff, List.mem_map]
    simp [Turn.seat]
  have playing (l : LaneIx) : (∀ x ∈ recordsOf (s.lane l).roster (s.lane l).game, x.2.2.state = .inProgress →
      ∃ t ∈ s.pairTurns (pairOf l), t.home = l ∧ t.slot = x.1)
      ↔ ∀ slot, (s.turnPart.teams l).plays slot = true → (l, slot) ∈ s.turnPart.seats l := by
    simp only [seated, State.turnPart, plays_iff, record_iff, Prod.forall]
    constructor
    · rintro h slot ⟨g, ⟨b, hr⟩, playing⟩
      exact h slot b g hr playing
    · intro h slot b g hr playing
      exact h slot ⟨g, ⟨b, hr⟩, playing⟩
  constructor
  · rintro ⟨home, turns, once, seat, reached, starts, size, ball⟩
    refine ⟨home, fun l t ht => (turnSound_iff s l t).1 (turns l t ht), fun l => (seats l).nodup_iff.1 (once _), fun l _ isOpen => ?_,
      fun l h => ?_, fun l _ isOpen unmarked mode => ?_, size, fun l t ht => ?_⟩
    · exact (playing l).1 (seat l (of_decide_eq_true isOpen))
    · obtain ⟨isOpen, ended⟩ := reached l (of_decide_eq_true h)
      exact ⟨decide_eq_true isOpen, (gameEnded_iff s l).1 ended⟩
    · refine starts l (of_decide_eq_true isOpen) ?_ (of_decide_eq_true mode)
      cases e : (s.lane l).boundary
      · rfl
      · exact absurd unmarked (by simp [State.turnPart, Lane.team, e])
    · obtain ⟨b, hb, orphan, rfl⟩ := (scored_iff _ t).1 ht
      exact ball l b hb orphan
  · rintro ⟨home, turns, once, seat, reached, starts, size, ball⟩
    refine ⟨home, fun l t ht => (turnSound_iff s l t).2 (turns l t ht), fun p => ?_, fun l isOpen => ?_,
      fun l h => ?_, fun l isOpen unmarked mode => ?_, size, fun l b hb orphan => ?_⟩
    · have := (seats (laneA p)).nodup_iff.2 (once (laneA p))
      rwa [pairOf_laneA] at this
    · exact (playing l).2 (seat l (by simp) (decide_eq_true isOpen))
    · obtain ⟨isOpen, ended⟩ := reached l (decide_eq_true h)
      exact ⟨of_decide_eq_true isOpen, (gameEnded_iff s l).2 ended⟩
    · exact starts l (by simp) (decide_eq_true isOpen) (by simp [State.turnPart, Lane.team, unmarked]) (decide_eq_true mode)
    · exact ball l b.turn ((scored_iff _ _).2 ⟨b, hb, orphan, rfl⟩)

theorem turnsSound_of_turnPart {s t : State} (h : t.turnPart = s.turnPart) (hs : s.turnsSound) : t.turnsSound := by
  rw [turnsSound_iff] at hs ⊢
  rwa [h]

end Sys2Proof.Machine
end

section
/-! SUPPORT. The condition on the turns under each change of the part of the turns: a team, a queue, a mode or the ball to
be scored replaced, and the changes that a turn operation makes of them together. -/

namespace Sys2Proof.Machine

open Function (update)

/-! ### The changes -/

def TurnPart.putTeam (l : LaneIx) (T : Team) (P : TurnPart) : TurnPart := { P with teams := update P.teams l T }
def TurnPart.putQueue (l : LaneIx) (q : List Turn) (P : TurnPart) : TurnPart := { P with queues := update P.queues l q }
def TurnPart.putScored (l : LaneIx) (o : Option Turn) (P : TurnPart) : TurnPart := { P with scored := update P.scored l o }
def TurnPart.putMode (p : PairIx) (b : Bool) (P : TurnPart) : TurnPart := { P with separate := update P.separate p b }

/-! ### Seats -/

theorem mem_seats (P : TurnPart) (l : LaneIx) (x : LaneIx × Nat) :
    x ∈ P.seats l ↔ ∃ k, pairOf k = pairOf l ∧ ∃ t ∈ P.queues k, t.seat = x := by
  simp only [TurnPart.seats, List.map_append, List.mem_append, List.mem_map, pairOf_eq_iff]
  constructor
  · rintro (h | h)
    · exact ⟨l, .inl rfl, h⟩
    · exact ⟨partner l, .inr rfl, h⟩
  · rintro ⟨k, rfl | rfl, h⟩
    · exact .inl h
    · exact .inr h

theorem seats_perm_of_pair {P : TurnPart} {k l : LaneIx} (h : pairOf k = pairOf l) : (P.seats k).Perm (P.seats l) := by
  rcases (pairOf_eq_iff k l).1 h with rfl | rfl
  · exact .refl _
  · simp only [TurnPart.seats, partner_partner, List.map_append]
    exact List.perm_append_comm

/-- The seats of the other pairs stand where a queue changes. -/
theorem seats_putQueue_ne {P : TurnPart} {k l : LaneIx} (h : pairOf k ≠ pairOf l) (q : List Turn) :
    (P.putQueue l q).seats k = P.seats k := by
  have hk : k ≠ l := fun e => h (by rw [e])
  have hp : partner k ≠ l := fun e => h (by rw [← e, pairOf_partner])
  simp [TurnPart.seats, TurnPart.putQueue, hk, hp]

theorem seats_putQueue {P : TurnPart} {k l : LaneIx} (h : pairOf k = pairOf l) (q : List Turn) :
    ((P.putQueue l q).seats k).Perm (q.map Turn.seat ++ (P.queues (partner l)).map Turn.seat) := by
  refine (seats_perm_of_pair h).trans (.of_eq ?_)
  simp [TurnPart.seats, TurnPart.putQueue, partner_ne]

/-- A queue that holds the same bowlers leaves the seats. -/
theorem seats_putQueue_perm {P : TurnPart} {l : LaneIx} {q : List Turn} (h : (q.map Turn.seat).Perm ((P.queues l).map Turn.seat))
    (k : LaneIx) : ((P.putQueue l q).seats k).Perm (P.seats k) := by
  by_cases hk : pairOf k = pairOf l
  · refine (seats_putQueue hk q).trans ((h.append_right _).trans ?_)
    rw [← List.map_append]
    exact seats_perm_of_pair hk.symm
  · rw [seats_putQueue_ne hk]

/-- Turns put at the tail of a queue join the seats of its pair. -/
theorem seats_putQueue_append {P : TurnPart} {k l : LaneIx} (h : pairOf k = pairOf l) (new : List Turn) :
    ((P.putQueue l (P.queues l ++ new)).seats k).Perm (P.seats k ++ new.map Turn.seat) := by
  refine (seats_putQueue h _).trans ?_
  rw [List.map_append, List.append_assoc]
  refine (List.perm_append_comm.append_left _).trans ?_
  rw [← List.append_assoc, ← List.map_append]
  exact (seats_perm_of_pair h.symm).append_right _

/-- Whether a turn fits is read of the teams and the modes. -/
theorem TurnPart.fits.congr {P Q : TurnPart} {l : LaneIx} {t : Turn} (h : P.fits l t) (teams : Q.teams = P.teams)
    (separate : Q.separate = P.separate) : Q.fits l t := by
  obtain ⟨pair, isOpen, game, first, last, plays, atHome, start⟩ := h
  exact ⟨pair, by rwa [teams], by rwa [teams], first, last, by rwa [teams], by rwa [separate], by rwa [teams]⟩

namespace TurnPart.sound

variable {E : Set LaneIx} {P Q : TurnPart} (h : P.sound E)
include h

/-! ### What a sound part says -/

theorem mem_of_scored {l : LaneIx} {t : Turn} (ht : P.scored l = some t) : t ∈ P.queues l := List.mem_of_mem_head? (h.scored l t ht)

/-- No turn stands for a team with no bowler in play. -/
theorem gone_of_ended {l : LaneIx} (ended : ∀ slot, (P.teams l).plays slot = false) : ∀ k, ∀ t ∈ P.queues k, t.home ≠ l := by
  rintro k t ht rfl
  exact Bool.false_ne_true ((ended t.slot).symm.trans (h.turns k t ht).plays)

/-- No turn stands for a lane that is not OPEN. -/
theorem gone_of_closed {l : LaneIx} (closed : (P.teams l).isOpen = false) : ∀ k, ∀ t ∈ P.queues k, t.home ≠ l := by
  rintro k t ht rfl
  exact Bool.false_ne_true (closed.symm.trans (h.turns k t ht).isOpen)

/-- A bowler holds one turn. -/
theorem once_of_seat {k l : LaneIx} {t u : Turn} (ht : t ∈ P.queues l) (hu : u ∈ P.queues k) (seat : u.seat = t.seat) : k = l ∧ u = t := by
  have home : u.home = t.home := congrArg Prod.fst seat
  have pair : pairOf k = pairOf l := by rw [← (h.turns k u hu).pair, ← (h.turns l t ht).pair, home]
  have nodup := h.once l
  rw [TurnPart.seats, List.map_append, List.nodup_append] at nodup
  obtain ⟨here, -, apart⟩ := nodup
  rcases (pairOf_eq_iff k l).1 pair with rfl | rfl
  · exact ⟨rfl, List.inj_on_of_nodup_map here hu ht seat⟩
  · exact absurd seat.symm (apart _ (List.mem_map_of_mem ht) _ (List.mem_map_of_mem hu))

/-! ### Teams -/

/-- A team that keeps its bowlers in play, where the balls recorded in its game are not fewer. -/
theorem putTeam_keeps {l : LaneIx} {T : Team} (isOpen : T.isOpen = (P.teams l).isOpen) (game : T.game = (P.teams l).game)
    (start : T.start = (P.teams l).start) (reached : T.reached = (P.teams l).reached) (plays : T.plays = (P.teams l).plays)
    (bowled : T.bowled = false → (P.teams l).bowled = false) (size : T.size ≤ 8) : (P.putTeam l T).sound E := by
  have team (k : LaneIx) : ((P.putTeam l T).teams k).isOpen = (P.teams k).isOpen ∧ ((P.putTeam l T).teams k).game = (P.teams k).game
      ∧ ((P.putTeam l T).teams k).start = (P.teams k).start ∧ ((P.putTeam l T).teams k).reached = (P.teams k).reached
      ∧ ((P.putTeam l T).teams k).plays = (P.teams k).plays ∧ (((P.putTeam l T).teams k).bowled = false → (P.teams k).bowled = false)
      ∧ ((P.putTeam l T).teams k).size ≤ 8 := by
    by_cases hk : k = l
    · subst hk
      simpa [TurnPart.putTeam] using ⟨isOpen, game, start, reached, plays, bowled, size⟩
    · simpa [TurnPart.putTeam, hk] using h.size k
  refine ⟨fun k => ?_, fun k t ht => ?_, h.once, fun k hk => ?_, fun k => ?_, fun k hk => ?_, fun k => (team k).2.2.2.2.2.2, h.scored⟩
  · rw [(team k).2.2.1]
    exact h.home k
  · obtain ⟨isOpen, game, start, -, plays, bowled, -⟩ := team t.home
    have fits := h.turns k t ht
    exact ⟨fits.pair, isOpen.trans fits.isOpen, fits.game.trans game.symm, fits.first, fits.last, by rw [plays]; exact fits.plays, fits.atHome,
      fun unbowled => start.trans (fits.start (bowled unbowled))⟩
  · obtain ⟨isOpen, -, -, -, plays, -, -⟩ := team k
    rw [isOpen, plays]
    exact h.seated k hk
  · obtain ⟨isOpen, -, -, reached, plays, -, -⟩ := team k
    rw [reached, isOpen, plays]
    exact h.reached k
  · obtain ⟨isOpen, -, start, reached, -, -, -⟩ := team k
    rw [isOpen, reached, start]
    exact h.starts k hk

/-- A lane REACHED: OPEN, and its game over. -/
theorem putTeam_reached {l : LaneIx} (isOpen : (P.teams l).isOpen = true) (ended : ∀ slot, (P.teams l).plays slot = false) :
    (P.putTeam l { P.teams l with reached := true }).sound E := by
  have team (k : LaneIx) : (P.putTeam l { P.teams l with reached := true }).teams k = { P.teams k with
      reached := if k = l then true else (P.teams k).reached } := by
    by_cases hk : k = l
    · subst hk
      simp [TurnPart.putTeam]
    · simp [TurnPart.putTeam, hk]
  refine ⟨fun k => by rw [team]; exact h.home k, fun k t ht => ?_, h.once, fun k hk => by rw [team]; exact h.seated k hk, fun k => ?_,
    fun k hE => ?_, fun k => by rw [team]; exact h.size k, h.scored⟩
  · obtain ⟨pair, isOpen, game, first, last, plays, atHome, start⟩ := h.turns k t ht
    exact ⟨pair, by rwa [team], by rwa [team], first, last, by rwa [team], atHome, by rwa [team]⟩
  · rw [team]
    by_cases hk : k = l
    · subst hk
      exact fun _ => ⟨isOpen, ended⟩
    · simpa [hk] using h.reached k
  · rw [team]
    by_cases hk : k = l
    · simp [hk]
    · simpa [hk, TurnPart.putTeam] using h.starts k hE

/-- A team that plays no more: its lane is not OPEN, and no turn of its bowlers stands. -/
theorem leave {E' : Set LaneIx} {l : LaneIx} {T : Team} (closed : T.isOpen = false) (unmarked : T.reached = false)
    (home : pairOf T.start = pairOf l) (size : T.size ≤ 8) (gone : ∀ k, ∀ t ∈ P.queues k, t.home ≠ l) (left : E ⊆ insert l E') :
    (P.putTeam l T).sound E' := by
  have self : (P.putTeam l T).teams l = T := by simp [TurnPart.putTeam]
  have other {k : LaneIx} (hk : k ≠ l) : (P.putTeam l T).teams k = P.teams k := by simp [TurnPart.putTeam, hk]
  have out {k : LaneIx} (hk : k ≠ l) (hE : k ∉ E') : k ∉ E := fun hE' => by
    rcases left hE' with e | e
    · exact hk e
    · exact hE e
  refine ⟨fun k => ?_, fun k t ht => ?_, h.once, fun k hE => ?_, fun k => ?_, fun k hE => ?_, fun k => ?_, h.scored⟩
  · by_cases hk : k = l
    · rw [hk, self, home]
    · rw [other hk, h.home]
  · obtain ⟨pair, isOpen, game, first, last, plays, atHome, start⟩ := h.turns k t ht
    have away := other (gone k t ht)
    exact ⟨pair, by rwa [away], by rwa [away], first, last, by rwa [away], atHome, by rwa [away]⟩
  · by_cases hk : k = l
    · rw [hk, self, closed]
      nofun
    · rw [other hk]
      exact h.seated k (out hk hE)
  · by_cases hk : k = l
    · rw [hk, self, unmarked]
      nofun
    · rw [other hk]
      exact h.reached k
  · by_cases hk : k = l
    · rw [hk, self, closed]
      nofun
    · rw [other hk]
      exact h.starts k (out hk hE)
  · by_cases hk : k = l
    · rw [hk, self]
      exact size
    · rw [other hk]
      exact h.size k

/-! ### Turns that join, and turns taken out -/

/-- A team T in play on lane l, with turns put at the tail of its start lane's queue: one for each bowler in play that holds
none (R30, R37). -/
theorem join {l : LaneIx} {T : Team} {new : List Turn} (isOpen : T.isOpen = true) (unmarked : T.reached = false)
    (home : pairOf T.start = pairOf l) (atHome : P.separate (pairOf l) = true → T.start = l) (size : T.size ≤ 8)
    (old : ∀ k, ∀ t ∈ P.queues k, t.home = l → t.game = T.game ∧ T.plays t.slot = true ∧ (T.bowled = false → T.start = k))
    (news : ∀ u ∈ new, u.home = l ∧ u.game = T.game ∧ u.frame = 1 ∧ T.plays u.slot = true) (distinct : (new.map Turn.slot).Nodup)
    (fresh : ∀ u ∈ new, u.seat ∉ P.seats l)
    (all : ∀ slot, T.plays slot = true → (∃ u ∈ new, u.slot = slot) ∨ (l, slot) ∈ P.seats l) :
    ((P.putTeam l T).putQueue T.start (P.queues T.start ++ new)).sound E := by
  generalize hQ : (P.putTeam l T).putQueue T.start (P.queues T.start ++ new) = Q
  have self : Q.teams l = T := by simp [← hQ, TurnPart.putTeam, TurnPart.putQueue]
  have other {k : LaneIx} (hk : k ≠ l) : Q.teams k = P.teams k := by simp [← hQ, TurnPart.putTeam, TurnPart.putQueue, hk]
  have queue (k : LaneIx) : Q.queues k = P.queues k ++ if k = T.start then new else [] := by
    by_cases hk : k = T.start
    · simp [← hQ, TurnPart.putTeam, TurnPart.putQueue, hk]
    · simp [← hQ, TurnPart.putTeam, TurnPart.putQueue, hk]
  have here {k : LaneIx} (hk : pairOf k = pairOf l) : (Q.seats k).Perm (P.seats k ++ new.map Turn.seat) := by
    rw [← hQ]
    exact seats_putQueue_append (hk.trans home.symm) new
  have there {k : LaneIx} (hk : pairOf k ≠ pairOf l) : Q.seats k = P.seats k := by
    rw [← hQ]
    exact seats_putQueue_ne (by rwa [home]) _
  have separate : Q.separate = P.separate := by rw [← hQ]; rfl
  have scored : Q.scored = P.scored := by rw [← hQ]; rfl
  have seatNew (u : Turn) (hu : u ∈ new) : u.seat = (l, u.slot) := by rw [Turn.seat, (news u hu).1]
  refine ⟨fun k => ?_, fun k t ht => ?_, fun k => ?_, fun k hE opened slot plays => ?_, fun k => ?_, fun k hE => ?_, fun k => ?_,
    fun k t ht => ?_⟩
  · by_cases hk : k = l
    · rw [hk, self, home]
    · rw [other hk, h.home]
  · rw [queue] at ht
    rcases List.mem_append.1 ht with ht | ht
    · obtain ⟨pair, wasOpen, game, first, last, plays, inPair, start⟩ := h.turns k t ht
      rw [← separate] at inPair
      by_cases hk : t.home = l
      · obtain ⟨game', plays', start'⟩ := old k t ht hk
        rw [← self, ← hk] at game' plays' start'
        exact ⟨pair, by rwa [hk, self], game', first, last, plays', inPair, start'⟩
      · have e := other hk
        exact ⟨pair, by rwa [e], by rwa [e], first, last, by rwa [e], inPair, by rwa [e]⟩
    · split at ht
      · rename_i start
        obtain ⟨e, game, frame, plays⟩ := news t ht
        have team : Q.teams t.home = T := by rw [e, self]
        refine ⟨by rw [e, start, home], by rwa [team], by rwa [team], by omega, by omega, by rwa [team], fun mode => ?_, fun _ => ?_⟩
        · rw [e, start, atHome (by rwa [← home, ← start, ← separate])]
        · rw [team, start]
      · cases ht
  · by_cases hk : pairOf k = pairOf l
    · rw [(here hk).nodup_iff, List.nodup_append]
      refine ⟨h.once k, ?_, fun x hx y hy e => ?_⟩
      · have : new.map Turn.seat = (new.map Turn.slot).map (Prod.mk l) := by
          rw [List.map_map]
          exact List.map_congr_left seatNew
        rw [this]
        exact distinct.map (Prod.mk_right_injective l)
      · obtain ⟨u, hu, rfl⟩ := List.mem_map.1 hy
        exact fresh u hu ((seats_perm_of_pair hk).mem_iff.1 (e ▸ hx))
    · rw [there hk]
      exact h.once k
  · by_cases hk : k = l
    · subst hk
      rw [(here rfl).mem_iff, List.mem_append, List.mem_map]
      rw [self] at plays
      rcases all slot plays with ⟨u, hu, rfl⟩ | seat
      · exact .inr ⟨u, hu, seatNew u hu⟩
      · exact .inl seat
    · rw [other hk] at opened plays
      have seat := h.seated k hE opened slot plays
      by_cases hp : pairOf k = pairOf l
      · exact (here hp).mem_iff.2 (List.mem_append_left _ seat)
      · rwa [there hp]
  · by_cases hk : k = l
    · rw [hk, self, unmarked]
      nofun
    · rw [other hk]
      exact h.reached k
  · rw [separate]
    by_cases hk : k = l
    · rw [hk, self]
      exact fun _ _ => atHome
    · rw [other hk]
      exact h.starts k hE
  · by_cases hk : k = l
    · rw [hk, self]
      exact size
    · rw [other hk]
      exact h.size k
  · rw [scored] at ht
    rw [queue, List.head?_append, h.scored k t ht]
    rfl

/-- The turn of a bowler taken out, and the bowler no longer in play (R28, R39, R40). -/
theorem takeOut {home : LaneIx} {slot : Nat} (separate : Q.separate = P.separate)
    (queues : ∀ k, Q.queues k = (P.queues k).filter fun t => t.seat ≠ (home, slot))
    (teams : Q.teams = update P.teams home { P.teams home with plays := update (P.teams home).plays slot false })
    (scored : ∀ k t, Q.scored k = some t → P.scored k = some t ∧ t.seat ≠ (home, slot)) : Q.sound E := by
  have team (k : LaneIx) : Q.teams k = { P.teams k with
      plays := if k = home then update (P.teams home).plays slot false else (P.teams k).plays } := by
    by_cases hk : k = home
    · subst hk
      simp [teams]
    · simp [teams, hk]
  have seats (k : LaneIx) : Q.seats k = (P.seats k).filter (· ≠ (home, slot)) := by
    simp only [TurnPart.seats, queues, ← List.filter_append, List.filter_map]
    rfl
  have plays (k : LaneIx) (i : Nat) : (Q.teams k).plays i = true ↔ (P.teams k).plays i = true ∧ (k, i) ≠ (home, slot) := by
    rw [team]
    by_cases hk : k = home
    · subst hk
      by_cases hi : i = slot <;> simp [hi]
    · simp [hk]
  refine ⟨fun k => by rw [team]; exact h.home k, fun k t ht => ?_, fun k => ?_, fun k hE isOpen i playing => ?_, fun k => ?_, fun k hE => ?_,
    fun k => by rw [team]; exact h.size k, fun k t ht => ?_⟩
  · rw [queues, List.mem_filter, decide_eq_true_eq] at ht
    obtain ⟨pair, isOpen, game, first, last, playing, atHome, start⟩ := h.turns k t ht.1
    refine ⟨pair, by rwa [team], by rwa [team], first, last, (plays _ _).2 ⟨playing, ht.2⟩, by rwa [separate], by rwa [team]⟩
  · rw [seats]
    exact (h.once k).filter _
  · rw [team] at isOpen
    obtain ⟨playing, ne⟩ := (plays k i).1 playing
    rw [seats, List.mem_filter]
    exact ⟨h.seated k hE isOpen i playing, decide_eq_true ne⟩
  · intro reached
    rw [team] at reached
    obtain ⟨isOpen, ended⟩ := h.reached k reached
    refine ⟨by rwa [team], fun i => Bool.eq_false_iff.2 fun playing => ?_⟩
    exact Bool.false_ne_true ((ended i).symm.trans ((plays k i).1 playing).1)
  · rw [team, separate]
    exact h.starts k hE
  · obtain ⟨was, ne⟩ := scored k t ht
    obtain ⟨rest, e⟩ := List.head?_eq_some_iff.1 (h.scored k t was)
    simp [queues, e, ne]

/-- Without the turn at the head of a queue, the queues hold no turn of its bowler. -/
theorem queues_putQueue_tail {l : LaneIx} {t : Turn} {rest : List Turn} (queue : P.queues l = t :: rest) (k : LaneIx) :
    (P.putQueue l rest).queues k = (P.queues k).filter fun u => u.seat ≠ t.seat := by
  have head : t ∈ P.queues l := by rw [queue]; exact List.mem_cons_self
  by_cases hk : k = l
  · subst hk
    have nodup := h.once k
    rw [TurnPart.seats, List.map_append, List.nodup_append, queue, List.map_cons, List.nodup_cons] at nodup
    rw [queue, List.filter_cons_of_neg (by simp)]
    simp only [TurnPart.putQueue, Function.update_self]
    refine (List.filter_eq_self.2 fun u hu => ?_).symm
    have ne : u.seat ≠ t.seat := fun e => nodup.1.1 (e ▸ List.mem_map_of_mem hu)
    exact decide_eq_true ne
  · simp only [TurnPart.putQueue, Function.update_of_ne hk]
    refine (List.filter_eq_self.2 fun u hu => ?_).symm
    have ne : u.seat ≠ t.seat := fun e => hk (h.once_of_seat head hu e).1
    exact decide_eq_true ne

/-! ### Turns moved -/

/-- The same bowlers in play, each that needs a turn with one still, on start lanes of its pair. -/
theorem reseat {E' : Set LaneIx} (teams : ∀ k, Q.teams k = { P.teams k with start := (Q.teams k).start, reached := (Q.teams k).reached })
    (home : ∀ k, pairOf (Q.teams k).start = pairOf k) (reached : ∀ k, (Q.teams k).reached = true → (P.teams k).reached = true)
    (once : ∀ k, (Q.seats k).Nodup) (seated : ∀ k, k ∉ E' → k ∉ E ∧ ∀ slot, (k, slot) ∈ P.seats k → (k, slot) ∈ Q.seats k)
    (turns : ∀ k, ∀ t ∈ Q.queues k, Q.fits k t)
    (starts : ∀ k, k ∉ E' → (P.teams k).isOpen = true → (Q.teams k).reached = false → Q.separate (pairOf k) = true →
      (Q.teams k).start = k)
    (scored : ∀ k t, Q.scored k = some t → (Q.queues k).head? = some t) : Q.sound E' := by
  have isOpen (k : LaneIx) : (Q.teams k).isOpen = (P.teams k).isOpen := by rw [teams]
  have plays (k : LaneIx) : (Q.teams k).plays = (P.teams k).plays := by rw [teams]
  refine ⟨home, turns, once, fun k hE => ?_, fun k hr => ?_, fun k hE => ?_, fun k => ?_, scored⟩
  · rw [isOpen, plays]
    exact fun opened slot playing => (seated k hE).2 slot (h.seated k (seated k hE).1 opened slot playing)
  · rw [isOpen, plays]
    exact h.reached k (reached k hr)
  · rw [isOpen]
    exact starts k hE
  · rw [teams]
    exact h.size k

/-- The same teams and modes, and the same bowlers in the queues of each pair. -/
theorem rearrange (teams : Q.teams = P.teams) (separate : Q.separate = P.separate) (seats : ∀ l, (Q.seats l).Perm (P.seats l))
    (turns : ∀ l, ∀ t ∈ Q.queues l, Q.fits l t) (scored : ∀ l t, Q.scored l = some t → (Q.queues l).head? = some t) : Q.sound E := by
  refine h.reseat (fun k => by rw [teams]) (fun k => by rw [teams]; exact h.home k) (fun k => by rw [teams]; exact id)
    (fun k => (seats k).nodup_iff.2 (h.once k)) (fun k hE => ⟨hE, fun slot => (seats k).mem_iff.2⟩) turns (fun k hE => ?_) scored
  rw [teams, separate]
  exact h.starts k hE

/-- The ball of a lane: none, or its head turn's. -/
theorem putScored {l : LaneIx} {o : Option Turn} (ho : ∀ t, o = some t → (P.queues l).head? = some t) : (P.putScored l o).sound E := by
  refine h.rearrange rfl rfl (fun _ => .refl _) (fun k t ht => ?_) fun k t ht => ?_
  · exact (h.turns k t ht).congr rfl rfl
  · by_cases hk : k = l
    · subst hk
      exact ho t (by simpa [TurnPart.putScored] using ht)
    · exact h.scored k t (by simpa [TurnPart.putScored, hk] using ht)

/-- A queue with its turns in another order, with no ball of it to be scored (R41). -/
theorem reorder {l : LaneIx} {q : List Turn} (perm : q.Perm (P.queues l)) (quiet : P.scored l = none) : (P.putQueue l q).sound E := by
  refine h.rearrange rfl rfl (seats_putQueue_perm (perm.map _)) (fun k t ht => ?_) fun k t ht => ?_
  · by_cases hk : k = l
    · subst hk
      exact (h.turns k t (perm.mem_iff.1 (by simpa [TurnPart.putQueue] using ht))).congr rfl rfl
    · exact (h.turns k t (by simpa [TurnPart.putQueue, hk] using ht)).congr rfl rfl
  · by_cases hk : k = l
    · subst hk
      exact absurd (quiet.symm.trans ht) nofun
    · simpa [TurnPart.putQueue, hk] using h.scored k t ht

/-- The head turn of lane l followed by its bowler's next frame at the tail of lane k's queue: the lane itself, or in
ALTERNATE its partner (R27). -/
theorem advance {l k : LaneIx} {t : Turn} {rest : List Turn} (queue : P.queues l = t :: rest) (below : t.frame < 10)
    (pair : pairOf k = pairOf l) (mode : P.separate (pairOf l) = true → k = l) (bowled : (P.teams t.home).bowled = true)
    (quiet : P.scored l = none) :
    ((P.putQueue l rest).putQueue k ((P.putQueue l rest).queues k ++ [{ t with frame := t.frame + 1 }])).sound E := by
  generalize hnext : ({ t with frame := t.frame + 1 } : Turn) = next
  have head := h.turns l t (by rw [queue]; exact List.mem_cons_self)
  have removed (j : LaneIx) : ∀ u ∈ (P.putQueue l rest).queues j, u ∈ P.queues j := by
    intro u hu
    by_cases hj : j = l
    · subst hj
      rw [queue]
      exact List.mem_cons_of_mem t (by simpa [TurnPart.putQueue] using hu)
    · simpa [TurnPart.putQueue, hj] using hu
  have added (j : LaneIx) : ((P.putQueue l rest).putQueue k ((P.putQueue l rest).queues k ++ [next])).queues j
      = (P.putQueue l rest).queues j ++ if j = k then [next] else [] := by
    by_cases hj : j = k
    · subst hj
      simp [TurnPart.putQueue]
    · rw [TurnPart.putQueue]
      simp [hj]
  have seat : next.seat = t.seat := by rw [← hnext]; rfl
  refine h.rearrange rfl rfl (fun j => ?_) (fun j u hu => ?_) fun j u hu => ?_
  · by_cases hj : pairOf j = pairOf l
    · refine (seats_putQueue_append (hj.trans pair.symm) _).trans ?_
      refine ((seats_putQueue hj rest).append_right _).trans ?_
      refine List.perm_append_comm.trans ?_
      have : (P.seats l) = [next].map Turn.seat ++ (rest.map Turn.seat ++ (P.queues (partner l)).map Turn.seat) := by
        simp [TurnPart.seats, queue, seat]
      rw [← this]
      exact seats_perm_of_pair hj.symm
    · rw [seats_putQueue_ne (by rwa [pair]), seats_putQueue_ne hj]
  · rw [added] at hu
    rcases List.mem_append.1 hu with hu | hu
    · exact (h.turns j u (removed j u hu)).congr rfl rfl
    · split at hu
      · rename_i hj
        obtain rfl : u = next := by simpa using hu
        obtain ⟨inPair, isOpen, game, first, last, plays, atHome, start⟩ := head
        subst hnext
        refine ⟨by rw [inPair, hj, pair], isOpen, game, by dsimp only; omega, by dsimp only; omega, plays, fun separate => ?_, fun unbowled => ?_⟩
        · have separate : P.separate (pairOf l) = true := by rw [← pair, ← hj]; exact separate
          rw [hj, mode separate]
          exact atHome separate
        · exact absurd (bowled.symm.trans unbowled) nofun
      · cases hu
  · by_cases hj : j = l
    · subst hj
      exact absurd (quiet.symm.trans hu) nofun
    · have was := h.scored j u hu
      rw [added, List.head?_append, show (P.putQueue l rest).queues j = P.queues j by simp [TurnPart.putQueue, hj], was]
      rfl

/-! ### Modes -/

/-- In ALTERNATE a turn may stand on either lane of its pair. -/
theorem putMode_alternate (p : PairIx) : (P.putMode p false).sound E := by
  have mode (q : PairIx) (hq : (P.putMode p false).separate q = true) : P.separate q = true := by
    by_cases e : q = p
    · subst e
      simp [TurnPart.putMode] at hq
    · simpa [TurnPart.putMode, e] using hq
  refine ⟨h.home, fun l t ht => ?_, h.once, h.seated, h.reached, fun l hE isOpen unmarked hm => ?_, h.size, h.scored⟩
  · obtain ⟨pair, isOpen, game, first, last, plays, atHome, start⟩ := h.turns l t ht
    exact ⟨pair, isOpen, game, first, last, plays, fun hm => atHome (mode _ hm), start⟩
  · exact h.starts l hE isOpen unmarked (mode _ hm)

/-- A pair becomes SEPARATE where its turns stand at home and its lanes in play start at home. -/
theorem putMode_separate {p : PairIx} (turns : ∀ l, pairOf l = p → ∀ t ∈ P.queues l, t.home = l)
    (starts : ∀ l, pairOf l = p → l ∉ E → (P.teams l).isOpen = true → (P.teams l).reached = false → (P.teams l).start = l) :
    (P.putMode p true).sound E := by
  have mode (q : PairIx) (hq : q ≠ p) : (P.putMode p true).separate q = P.separate q := by simp [TurnPart.putMode, hq]
  refine ⟨h.home, fun l t ht => ?_, h.once, h.seated, h.reached, fun l hE isOpen unmarked hm => ?_, h.size, h.scored⟩
  · obtain ⟨pair, isOpen, game, first, last, plays, atHome, start⟩ := h.turns l t ht
    refine ⟨pair, isOpen, game, first, last, plays, fun hm => ?_, start⟩
    by_cases e : pairOf l = p
    · exact turns l e t ht
    · exact atHome (mode _ e ▸ hm)
  · by_cases e : pairOf l = p
    · exact starts l e hE isOpen unmarked
    · exact h.starts l hE isOpen unmarked (mode _ e ▸ hm)

end TurnPart.sound

/-! ### A team brought home (R34) -/

/-- Team l's turns brought from its partner's queue behind those at home, and its start lane the lane itself. -/
def TurnPart.bringHome (l : LaneIx) (P : TurnPart) : TurnPart :=
  if (P.teams l).start = l then P
  else
    ((P.putQueue (partner l) ((P.queues (partner l)).filter fun t => t.home ≠ l)).putQueue l
      (P.queues l ++ (P.queues (partner l)).filter fun t => t.home = l)).putTeam l { P.teams l with start := l }

theorem bringHome_teams (l k : LaneIx) (P : TurnPart) :
    (P.bringHome l).teams k = { P.teams k with start := if k = l then l else (P.teams k).start } := by
  unfold TurnPart.bringHome
  by_cases hk : k = l
  · subst hk
    split
    · rename_i e
      rw [if_pos rfl]
      exact congrArg (fun start => { P.teams k with start := start }) e
    · simp [TurnPart.putTeam]
  · split <;> simp [hk, TurnPart.putTeam, TurnPart.putQueue]

theorem bringHome_separate (l : LaneIx) (P : TurnPart) : (P.bringHome l).separate = P.separate := by
  unfold TurnPart.bringHome
  split <;> rfl

theorem bringHome_scored (l : LaneIx) (P : TurnPart) : (P.bringHome l).scored = P.scored := by
  unfold TurnPart.bringHome
  split <;> rfl

theorem mem_bringHome {l k : LaneIx} {P : TurnPart} {t : Turn} (ht : t ∈ (P.bringHome l).queues k) :
    t ∈ P.queues k ∧ (k = partner l → t.home = l → (P.teams l).start = l) ∨ k = l ∧ t.home = l ∧ t ∈ P.queues (partner l) := by
  unfold TurnPart.bringHome at ht
  split at ht
  · rename_i e
    exact .inl ⟨ht, fun _ _ => e⟩
  · by_cases hk : k = l
    · subst hk
      simp only [TurnPart.putTeam, TurnPart.putQueue, Function.update_self, List.mem_append, List.mem_filter, decide_eq_true_eq] at ht
      rcases ht with ht | ⟨ht, home⟩
      · exact .inl ⟨ht, fun e => absurd e.symm (partner_ne k)⟩
      · exact .inr ⟨rfl, home, ht⟩
    · by_cases hp : k = partner l
      · subst hp
        simp only [TurnPart.putTeam, TurnPart.putQueue, Function.update_of_ne hk, Function.update_self, List.mem_filter,
          decide_eq_true_eq] at ht
        exact .inl ⟨ht.1, fun _ e => absurd e ht.2⟩
      · simp only [TurnPart.putTeam, TurnPart.putQueue, Function.update_of_ne hk, Function.update_of_ne hp] at ht
        exact .inl ⟨ht, fun e => absurd e hp⟩

theorem bringHome_seats (l k : LaneIx) (P : TurnPart) : ((P.bringHome l).seats k).Perm (P.seats k) := by
  unfold TurnPart.bringHome
  split
  · exact .refl _
  · show ((TurnPart.putQueue l _ _).seats k).Perm _
    by_cases hk : pairOf k = pairOf l
    · refine (seats_putQueue hk _).trans (.trans ?_ (seats_perm_of_pair hk.symm))
      simp only [TurnPart.putQueue, Function.update_self, TurnPart.seats, ← List.map_append, List.append_assoc]
      refine ((List.Perm.append_left _ ?_).map _)
      simpa using List.filter_append_perm (fun t : Turn => decide (t.home = l)) (P.queues (partner l))
    · rw [seats_putQueue_ne hk, seats_putQueue_ne (by rwa [pairOf_partner])]

/-- An ALTERNATE team that has not bowled is brought home soundly, where no ball of its pair is to be scored. -/
theorem TurnPart.sound.bringHome {E : Set LaneIx} {P : TurnPart} (h : P.sound E) {l : LaneIx} (mode : P.separate (pairOf l) = false)
    (unbowled : (P.teams l).bowled = false) (quiet : ∀ k, pairOf k = pairOf l → P.scored k = none) : (P.bringHome l).sound E := by
  have separate (k : LaneIx) (hk : pairOf k = pairOf l) : (P.bringHome l).separate (pairOf k) ≠ true := by
    rw [bringHome_separate, hk, mode]
    nofun
  refine h.reseat (fun k => by rw [bringHome_teams]) (fun k => ?_) (fun k => by rw [bringHome_teams]; exact id)
    (fun k => (bringHome_seats l k P).nodup_iff.2 (h.once k)) (fun k hE => ⟨hE, fun slot => (bringHome_seats l k P).mem_iff.2⟩)
    (fun k t ht => ?_) (fun k hE => ?_) fun k t ht => ?_
  · rw [bringHome_teams]
    dsimp only
    split
    · rename_i e
      rw [e]
    · exact h.home k
  · obtain ⟨j, same, hj⟩ : ∃ j, pairOf j = pairOf k ∧ t ∈ P.queues j := by
      rcases mem_bringHome ht with ⟨ht, -⟩ | ⟨rfl, -, ht⟩
      · exact ⟨k, rfl, ht⟩
      · exact ⟨partner k, pairOf_partner k, ht⟩
    obtain ⟨pair, isOpen, game, first, last, plays, atHome, start⟩ := h.turns j t hj
    refine ⟨pair.trans same, ?_, ?_, first, last, ?_, fun hm => ?_, fun _ => ?_⟩
    · rwa [bringHome_teams]
    · rwa [bringHome_teams]
    · rwa [bringHome_teams]
    · rcases mem_bringHome ht with ⟨ht, -⟩ | ⟨e, -, -⟩
      · exact (h.turns k t ht).atHome (by rwa [bringHome_separate] at hm)
      · exact absurd hm (separate k (by rw [e]))
    · rw [bringHome_teams]
      dsimp only
      split
      · rename_i home
        rcases mem_bringHome ht with ⟨ht, away⟩ | ⟨e, -, -⟩
        · have fits := h.turns k t ht
          rcases (pairOf_eq_iff k l).1 (by rw [← fits.pair, home]) with e | e
          · exact e.symm
          · rw [← away e home, ← fits.start (by rw [home]; exact unbowled), home]
        · exact e.symm
      · rename_i away
        rcases mem_bringHome ht with ⟨ht, -⟩ | ⟨-, home, -⟩
        · refine (h.turns k t ht).start ?_
          rename_i unbowled'
          rwa [bringHome_teams] at unbowled'
        · exact absurd home away
  · intro _ _ hm
    by_cases hk : pairOf k = pairOf l
    · exact absurd hm (separate k hk)
    · rw [bringHome_teams] at *
      dsimp only at *
      rw [if_neg fun e => hk (by rw [e])]
      exact h.starts k hE ‹_› ‹_› (by rwa [bringHome_separate] at hm)
  · rw [bringHome_scored] at ht
    by_cases hk : pairOf k = pairOf l
    · exact absurd ((quiet k hk).symm.trans ht) nofun
    · have queue : (P.bringHome l).queues k = P.queues k := by
        have hl : k ≠ l := fun e => hk (by rw [e])
        have hp : k ≠ partner l := fun e => hk (by rw [e, pairOf_partner])
        unfold TurnPart.bringHome
        split
        · rfl
        · simp [TurnPart.putTeam, TurnPart.putQueue, hl, hp]
      rw [queue]
      exact h.scored k t ht

/-! ### A closing team's turns taken out (R42) -/

/-- The queues of a SEPARATE pair without the turns of lane c, its mark gone. -/
def TurnPart.clearSeparate (c : LaneIx) (P : TurnPart) : TurnPart :=
  ((P.putTeam c { P.teams c with reached := false }).putQueue c ((P.queues c).filter fun t => t.home ≠ c)).putQueue (partner c)
    ((P.queues (partner c)).filter fun t => t.home ≠ c)

/-- The partner's turns of an ALTERNATE pair on its own lane, those that stood there first, as the pair becomes SEPARATE. -/
def TurnPart.clearAlternate (c : LaneIx) (P : TurnPart) : TurnPart :=
  (((P.putTeam c { P.teams c with reached := false }).putTeam (partner c) { P.teams (partner c) with start := partner c }).putQueue (partner c)
    ((P.queues (partner c)).filter (fun t => t.home ≠ c) ++ (P.queues c).filter fun t => t.home ≠ c)).putQueue c []
    |>.putMode (pairOf c) true

theorem filter_of_away {c k : LaneIx} {P : TurnPart} {E : Set LaneIx} (h : P.sound E) (hk : pairOf k ≠ pairOf c) :
    (P.queues k).filter (fun t => t.home ≠ c) = P.queues k := by
  refine List.filter_eq_self.2 fun t ht => ?_
  have ne : t.home ≠ c := fun e => hk (by rw [← (h.turns k t ht).pair, e])
  exact decide_eq_true ne

theorem clearSeparate_queues {c : LaneIx} {P : TurnPart} {E : Set LaneIx} (h : P.sound E) (k : LaneIx) :
    (P.clearSeparate c).queues k = (P.queues k).filter fun t => t.home ≠ c := by
  unfold TurnPart.clearSeparate
  by_cases hp : k = partner c
  · simp [hp, TurnPart.putQueue]
  · by_cases hc : k = c
    · simp [hc, TurnPart.putQueue, (partner_ne c).symm]
    · have away : pairOf k ≠ pairOf c := fun e => ((pairOf_eq_iff k c).1 e).elim hc hp
      rw [filter_of_away h away]
      simp [hp, hc, TurnPart.putQueue, TurnPart.putTeam]

theorem clearSeparate_seats {c : LaneIx} {P : TurnPart} {E : Set LaneIx} (h : P.sound E) (k : LaneIx) :
    (P.clearSeparate c).seats k = (P.seats k).filter fun x => x.1 ≠ c := by
  simp only [TurnPart.seats, clearSeparate_queues h, ← List.filter_append, List.filter_map]
  rfl

theorem TurnPart.sound.clearSeparate {P : TurnPart} (h : P.sound ∅) {c : LaneIx} (own : P.scored c = none)
    (other : ∀ t, P.scored (partner c) = some t → t.home ≠ c) : (P.clearSeparate c).sound {c} := by
  have team (k : LaneIx) : (P.clearSeparate c).teams k = { P.teams k with reached := if k = c then false else (P.teams k).reached } := by
    by_cases hk : k = c
    · simp [TurnPart.clearSeparate, TurnPart.putTeam, TurnPart.putQueue, hk]
    · simp [TurnPart.clearSeparate, TurnPart.putTeam, TurnPart.putQueue, hk]
  refine h.reseat (fun k => by rw [team]) (fun k => by rw [team]; exact h.home k) (fun k => ?_)
    (fun k => by rw [clearSeparate_seats h]; exact (h.once k).filter _) (fun k hE => ⟨nofun, fun slot seat => ?_⟩) (fun k t ht => ?_)
    (fun k hE => ?_) fun k t ht => ?_
  · rw [team]
    dsimp only
    split
    · nofun
    · exact id
  · rw [clearSeparate_seats h, List.mem_filter]
    exact ⟨seat, by simpa using hE⟩
  · rw [clearSeparate_queues h, List.mem_filter] at ht
    obtain ⟨pair, isOpen, game, first, last, plays, atHome, start⟩ := h.turns k t ht.1
    exact ⟨pair, by rwa [team], by rwa [team], first, last, by rwa [team], atHome, by rwa [team]⟩
  · have hk : k ≠ c := hE
    have starts := h.starts k nofun
    rw [team]
    dsimp only
    rw [if_neg hk]
    exact starts
  · have was : P.scored k = some t := ht
    have home : t.home ≠ c := by
      by_cases hp : k = partner c
      · exact other t (hp ▸ was)
      · by_cases hc : k = c
        · exact absurd (own.symm.trans ((congrArg P.scored hc).symm.trans was)) nofun
        · rintro rfl
          have := (h.turns k t (h.mem_of_scored was)).pair
          rcases (pairOf_eq_iff k t.home).1 this.symm with e | e
          · exact hc e
          · exact hp e
    obtain ⟨rest, e⟩ := List.head?_eq_some_iff.1 (h.scored k t was)
    simp [clearSeparate_queues h, e, home]

theorem clearAlternate_team (c k : LaneIx) (P : TurnPart) : (P.clearAlternate c).teams k = { P.teams k with
    reached := if k = c then false else (P.teams k).reached, start := if k = partner c then partner c else (P.teams k).start } := by
  have hne := partner_ne c
  by_cases hp : k = partner c
  · subst hp
    simp [TurnPart.clearAlternate, TurnPart.putTeam, TurnPart.putQueue, TurnPart.putMode, hne]
  · by_cases hc : k = c
    · subst hc
      simp [TurnPart.clearAlternate, TurnPart.putTeam, TurnPart.putQueue, TurnPart.putMode, hp]
    · simp [TurnPart.clearAlternate, TurnPart.putTeam, TurnPart.putQueue, TurnPart.putMode, hc, hp]

theorem clearAlternate_queues (c k : LaneIx) (P : TurnPart) : (P.clearAlternate c).queues k =
    if k = c then []
    else if k = partner c then (P.queues (partner c)).filter (fun t => t.home ≠ c) ++ (P.queues c).filter fun t => t.home ≠ c
    else P.queues k := by
  by_cases hc : k = c
  · simp [TurnPart.clearAlternate, TurnPart.putTeam, TurnPart.putQueue, TurnPart.putMode, hc]
  · by_cases hp : k = partner c
    · subst hp
      simp [TurnPart.clearAlternate, TurnPart.putTeam, TurnPart.putQueue, TurnPart.putMode, hc]
    · simp [TurnPart.clearAlternate, TurnPart.putTeam, TurnPart.putQueue, TurnPart.putMode, hc, hp]

theorem clearAlternate_seats {c : LaneIx} {P : TurnPart} {E : Set LaneIx} (h : P.sound E) (k : LaneIx) :
    ((P.clearAlternate c).seats k).Perm ((P.seats k).filter fun x => x.1 ≠ c) := by
  by_cases hk : pairOf k = pairOf c
  · have whole : (P.seats c).filter (fun x => x.1 ≠ c)
        = (((P.queues c).filter fun t => t.home ≠ c) ++ (P.queues (partner c)).filter fun t => t.home ≠ c).map Turn.seat := by
      simp only [TurnPart.seats, ← List.filter_append, List.filter_map]
      rfl
    refine (seats_perm_of_pair hk).trans (.trans ?_ ((seats_perm_of_pair hk).symm.filter _))
    rw [whole, TurnPart.seats, clearAlternate_queues, clearAlternate_queues, if_pos rfl, if_neg (partner_ne c), if_pos rfl]
    rw [List.nil_append]
    exact List.perm_append_comm.map _
  · have hc : k ≠ c := fun e => hk (by rw [e])
    have hp : k ≠ partner c := fun e => hk (by rw [e, pairOf_partner])
    have hkp : pairOf (partner k) ≠ pairOf c := by rwa [pairOf_partner]
    have hpc : partner k ≠ c := fun e => hkp (by rw [e])
    have hpp : partner k ≠ partner c := fun e => hkp (by rw [e, pairOf_partner])
    have same : (P.clearAlternate c).seats k = P.seats k := by
      simp [TurnPart.seats, clearAlternate_queues, hc, hp, hpc, hpp]
    have kept : (P.seats k).filter (fun x => x.1 ≠ c) = P.seats k := by
      conv_rhs => rw [TurnPart.seats, ← filter_of_away h hk, ← filter_of_away h hkp]
      simp only [TurnPart.seats, ← List.filter_append, List.filter_map]
      rfl
    rw [same, kept]

theorem TurnPart.sound.clearAlternate {P : TurnPart} (h : P.sound ∅) {c : LaneIx} (own : P.scored c = none)
    (other : ∀ t, P.scored (partner c) = some t → t.home ≠ c) : (P.clearAlternate c).sound {c} := by
  have team := fun k => clearAlternate_team c k P
  have seats := clearAlternate_seats h (c := c)
  have separate (k : LaneIx) (hk : pairOf k ≠ pairOf c) : (P.clearAlternate c).separate (pairOf k) = P.separate (pairOf k) := by
    simp [TurnPart.clearAlternate, TurnPart.putMode, hk, TurnPart.putQueue, TurnPart.putTeam]
  have elsewhere {k : LaneIx} (hc : k ≠ c) (hp : k ≠ partner c) : pairOf k ≠ pairOf c :=
    fun e => ((pairOf_eq_iff k c).1 e).elim hc hp
  refine h.reseat (fun k => by rw [team]) (fun k => ?_) (fun k => ?_)
    (fun k => (seats k).nodup_iff.2 ((h.once k).filter _)) (fun k hE => ⟨nofun, fun slot seat => ?_⟩) (fun k t ht => ?_)
    (fun k hE => ?_) fun k t ht => ?_
  · rw [team]
    dsimp only
    split
    · rename_i e
      rw [e]
    · exact h.home k
  · rw [team]
    dsimp only
    split
    · nofun
    · exact id
  · rw [(seats k).mem_iff, List.mem_filter]
    exact ⟨seat, by simpa using hE⟩
  · rw [clearAlternate_queues] at ht
    split at ht
    · cases ht
    · rename_i hc
      split at ht
      · rename_i hp
        obtain ⟨j, hj, away, same⟩ : ∃ j, t ∈ P.queues j ∧ t.home ≠ c ∧ pairOf j = pairOf c := by
          rcases List.mem_append.1 ht with ht | ht <;> rw [List.mem_filter, decide_eq_true_eq] at ht
          · exact ⟨_, ht.1, ht.2, pairOf_partner c⟩
          · exact ⟨_, ht.1, ht.2, rfl⟩
        obtain ⟨pair, isOpen, game, first, last, plays, -, -⟩ := h.turns j t hj
        have home : t.home = partner c := ((pairOf_eq_iff _ _).1 (pair.trans same)).resolve_left away
        exact ⟨by rw [home, hp], by rwa [team], by rwa [team], first, last, by rwa [team], fun _ => by rw [home, hp], fun _ => by
          rw [team, home, hp, if_pos rfl]⟩
      · rename_i hp
        obtain ⟨pair, isOpen, game, first, last, plays, atHome, start⟩ := h.turns k t ht
        have away : t.home ≠ partner c := fun e => elsewhere hc hp (by rw [← pair, e, pairOf_partner])
        exact ⟨pair, by rwa [team], by rwa [team], first, last, by rwa [team], by rwa [separate k (elsewhere hc hp)], by
          rwa [team, if_neg away]⟩
  · have hc : k ≠ c := hE
    rw [team]
    dsimp only
    rw [if_neg hc]
    intro isOpen unmarked
    split
    · rename_i e
      exact fun _ => e.symm
    · rename_i hp
      rw [separate k (elsewhere hc hp)]
      exact h.starts k nofun isOpen unmarked
  · have was : P.scored k = some t := ht
    rw [clearAlternate_queues]
    split
    · rename_i hc
      exact absurd (own.symm.trans ((congrArg P.scored hc).symm.trans was)) nofun
    · split
      · rename_i hp
        subst hp
        obtain ⟨rest, e⟩ := List.head?_eq_some_iff.1 (h.scored _ t was)
        simp [e, other t was]
      · exact h.scored k t was

end Sys2Proof.Machine
end

section
/-! SUPPORT. The ball-pending record under the Pinsetter Supervisor: each operation on a lane that keeps its lane's. -/

namespace Sys2Proof.Machine

@[simp] theorem MachineRec.enter_ball (st : MachineState) (m : MachineRec) : (m.enter st).ball = m.ball := by
  unfold MachineRec.enter
  split <;> rfl

@[simp] theorem machine_setPower (s : State) (l k : LaneIx) (o : Power) : (s.setPower l o).machine k = s.machine k := rfl

theorem machine_modLane (s : State) (l : LaneIx) (f : Lane → Lane) (h : (f (s.lane l)).machine = (s.lane l).machine) :
    (s.modLane l f).machine l = s.machine l := by
  rw [State.machine, State.lane_modLane_self, h, State.machine]

section Ball

variable (s : State) (l : LaneIx)

@[simp] theorem ball_when (c : Bool) (f : State → State) (h : ((f s).machine l).ball = (s.machine l).ball) :
    ((s.when c f).machine l).ball = (s.machine l).ball :=
  State.when_keeps (fun s => (s.machine l).ball) c f s h

@[simp] theorem ball_enterSilent (st : MachineState) : ((s.enterSilent l st).machine l).ball = (s.machine l).ball := by
  simp [State.enterSilent]
@[simp] theorem ball_startTimer (k : TimerKind) (n : Nat) : ((s.startTimer l k n).machine l).ball = (s.machine l).ball := by
  simp [State.startTimer]
@[simp] theorem ball_issueRead (again : Bool) : ((s.issueRead l again).machine l).ball = (s.machine l).ball := by
  simp [State.issueRead]
@[simp] theorem ball_issueCycle (c : Cycle) (turn : Option Turn) (need : Option Need) :
    ((s.issueCycle l c turn need).machine l).ball = (s.machine l).ball := by
  simp [State.issueCycle]
@[simp] theorem ball_holdCycle (c : Cycle) (served : Bool) : ((s.holdCycle l c served).machine l).ball = (s.machine l).ball := by
  simp [State.holdCycle]
@[simp] theorem ball_makeReady : ((s.makeReady l).machine l).ball = (s.machine l).ball := by simp [State.makeReady]
@[simp] theorem ball_makeEmpty : ((s.makeEmpty l).machine l).ball = (s.machine l).ball := by simp [State.makeEmpty]

@[simp] theorem ball_startCycle (c : Cycle) : ((s.startCycle l c).machine l).ball = (s.machine l).ball := by
  unfold State.startCycle
  split <;> simp

@[simp] theorem ball_serve (c : Cycle) : ((s.serve l c).machine l).ball = (s.machine l).ball := by
  unfold State.serve
  split <;> simp

@[simp] theorem ball_cutPower : ((s.cutPower l).machine l).ball = (s.machine l).ball := by simp [State.cutPower]
@[simp] theorem ball_forgetDeck : ((s.forgetDeck l).machine l).ball = (s.machine l).ball := by simp [State.forgetDeck]
@[simp] theorem ball_powerDown : ((s.powerDown l).machine l).ball = (s.machine l).ball := by simp [State.powerDown]

@[simp] theorem ball_idlePowerOff : ((s.idlePowerOff l).machine l).ball = (s.machine l).ball := by
  unfold State.idlePowerOff
  split <;> simp

@[simp] theorem ball_serviceOut : ((s.serviceOut l).machine l).ball = (s.machine l).ball := by simp [State.serviceOut]
@[simp] theorem ball_sendPowerOn : ((s.sendPowerOn l).machine l).ball = (s.machine l).ball := by simp [State.sendPowerOn]
@[simp] theorem ball_wake : ((s.wake l).machine l).ball = (s.machine l).ball := by simp [State.wake]
@[simp] theorem ball_wakeForHead : ((s.wakeForHead l).machine l).ball = (s.machine l).ball := by simp [State.wakeForHead]

@[simp] theorem ball_rest : ((s.rest l).machine l).ball = (s.machine l).ball := by
  simp only [State.rest]
  repeat' split
  all_goals simp

@[simp] theorem ball_follow (d : Derived) : ((s.follow l d).machine l).ball = (s.machine l).ball := by
  unfold State.follow
  cases d <;> simp

@[simp] theorem ball_derive : ((s.derive l).machine l).ball = (s.machine l).ball := by simp [State.derive]

@[simp] theorem ball_afterBall (need : Need) (orphan onReturn : Bool) :
    ((s.afterBall l need orphan onReturn).machine l).ball = (s.machine l).ball := by
  simp only [State.afterBall]
  repeat' split
  all_goals simp

@[simp] theorem ball_headTold : ((s.headTold l).machine l).ball = (s.machine l).ball := by
  unfold State.headTold
  split <;> simp

@[simp] theorem ball_raiseReason (r : Reason) (t : DateTime) : ((s.raiseReason r t l).machine l).ball = (s.machine l).ball := by
  unfold State.raiseReason
  split
  · rfl
  · rw [machine_modLane _ _ _ rfl]

@[simp] theorem ball_release : ((s.release l).machine l).ball = (s.machine l).ball := by
  unfold State.release
  repeat' split
  all_goals simp

@[simp] theorem ball_clearReason (r : Reason) : ((s.clearReason r l).machine l).ball = (s.machine l).ball := by
  unfold State.clearReason
  split
  · rw [ball_release, machine_modLane _ _ _ rfl]
  · rfl

@[simp] theorem ball_removalOrder : ((s.removalOrder l).machine l).ball = (s.machine l).ball := by
  simp only [State.removalOrder]
  repeat' split
  all_goals simp

@[simp] theorem ball_outcome (o : CycleOutcome) : ((s.outcome l o).machine l).ball = (s.machine l).ball := by
  simp only [State.outcome, State.testLane]
  rw [State.each_keeps (fun s : State => (s.machine l).ball) _ State.report (fun _ _ _ => rfl), machine_modLane _ _ _ rfl]

@[simp] theorem ball_moveOn (c : Cycle) (turn : Option Turn) (need : Option Need) :
    ((s.moveOn l c turn need).machine l).ball = (s.machine l).ball := by
  unfold State.moveOn
  repeat' split
  all_goals simp

@[simp] theorem MachineRec.complete_ball (c : Cycle) (m : MachineRec) : (m.complete c).ball = m.ball := by
  unfold MachineRec.complete
  split <;> rfl

@[simp] theorem ball_cycleDone (set : PinSet) : ((s.cycleDone l set).machine l).ball = (s.machine l).ball := by
  simp only [State.cycleDone]
  repeat' split
  all_goals simp

@[simp] theorem ball_loseLane (silent : Bool) : ((s.loseLane silent l).machine l).ball = (s.machine l).ball := by
  simp only [State.loseLane]
  split <;> simp <;> split <;> rfl

@[simp] theorem ball_dropInHand : ((s.dropInHand l).machine l).ball = (s.machine l).ball := by simp [State.dropInHand]

@[simp] theorem ball_evaluateBilling : ((s.evaluateBilling l).machine l).ball = (s.machine l).ball := by
  unfold State.evaluateBilling
  repeat' split
  all_goals simp

/-- The ball to be scored is the same where the ball pending changes its reads, its foul or its mark of a return. -/
theorem scored_map {m : MachineRec} {f : PendingBall → PendingBall} (orphan : ∀ b, (f b).orphan = b.orphan) (turn : ∀ b, (f b).turn = b.turn)
    (h : m.ball = (s.machine l).ball.map f) : m.scored = (s.machine l).scored := by
  rw [MachineRec.scored, MachineRec.scored, h]
  cases (s.machine l).ball with
  | none => rfl
  | some b => by_cases e : b.orphan <;> simp [Option.filter, orphan, turn, e]

theorem scored_of_ball {m : MachineRec} (h : m.ball = (s.machine l).ball) : m.scored = (s.machine l).scored := by
  rw [MachineRec.scored, h, MachineRec.scored]

theorem scored_foul : ((s.foul l).machine l).scored = (s.machine l).scored := by
  unfold State.foul
  split
  · exact scored_of_ball s l (by simp)
  · exact scored_map s l (f := fun b => { b with foul := true }) (fun _ => rfl) (fun _ => rfl) (by simp)
  · rfl

theorem scored_nextRead : ((s.nextRead l).machine l).scored = (s.machine l).scored :=
  scored_map s l (f := fun b => { b with reads := b.reads + 1 }) (fun _ => rfl) (fun _ => rfl) (by simp [State.nextRead])

theorem scored_returnLane (power : Power) : ((s.returnLane l power).machine l).scored = (s.machine l).scored := by
  have dropped := ball_dropInHand s l
  simp only [State.returnLane]
  generalize s.dropInHand l = t at dropped
  split
  · exact scored_map s l (f := fun b => { b with reads := max 1 b.reads, onReturn := true }) (fun _ => rfl) (fun _ => rfl)
      (by simp [dropped])
  · refine scored_of_ball s l (Eq.trans ?_ dropped)
    split
    · simp
    · split
      · simp
      · split <;> simp

end Ball

end Sys2Proof.Machine
end

section
/-! SUPPORT. The operations that keep the part of the turns: of the state, of the Pinsetter Supervisor, of the gate, of the
meters, of the hand-offs, of health, of the return and of the bus; and the parts of a second. -/

namespace Sys2Proof.Machine

/-! ### The updates -/

@[simp] theorem TurnPart.putScored_self (P : TurnPart) (l : LaneIx) : P.putScored l (P.scored l) = P := by
  simp [TurnPart.putScored]

theorem turnPart_modLane (s : State) (l : LaneIx) (f : Lane → Lane) (team : (f (s.lane l)).team = (s.lane l).team)
    (queue : (f (s.lane l)).queue = (s.lane l).queue) (scored : (f (s.lane l)).machine.scored = (s.machine l).scored) :
    (s.modLane l f).turnPart = s.turnPart := by
  ext k : 2
  case separate => rfl
  all_goals
    by_cases e : k = l
    · subst e
      simp only [State.turnPart, State.machine, State.lane_modLane_self]
      assumption
    · simp [State.turnPart, State.machine, State.lane_modLane_ne _ _ _ _ e]

@[simp] theorem turnPart_modAccount (s : State) (l : LaneIx) (f : Account → Account) : (s.modAccount l f).turnPart = s.turnPart :=
  turnPart_modLane s l _ rfl rfl rfl

theorem turnPart_modMachine (s : State) (l : LaneIx) (f : MachineRec → MachineRec) (h : (f (s.machine l)).scored = (s.machine l).scored) :
    (s.modMachine l f).turnPart = s.turnPart := turnPart_modLane s l _ rfl rfl h

theorem turnPart_modPair (s : State) (p : PairIx) (f : Pair → Pair) (h : (f (s.pair p)).mode = (s.pair p).mode) :
    (s.modPair p f).turnPart = s.turnPart := by
  ext q : 2
  case separate =>
    by_cases e : q = p
    · subst e
      simp [State.turnPart, h]
    · simp [State.turnPart, State.pair_modPair_ne _ _ _ _ e]
  all_goals rfl

@[simp] theorem turnPart_modStation (s : State) (p : PairIx) (f : Station → Station) : (s.modStation p f).turnPart = s.turnPart :=
  turnPart_modPair s p _ rfl
@[simp] theorem turnPart_modReturn (s : State) (p : PairIx) (f : ReturnRec → ReturnRec) : (s.modReturn p f).turnPart = s.turnPart :=
  turnPart_modPair s p _ rfl
@[simp] theorem turnPart_dropPending (s : State) (p : PairIx) : (s.dropPending p).turnPart = s.turnPart := turnPart_modPair s p _ rfl
@[simp] theorem turnPart_setStation (s : State) (p : PairIx) (st : StationState) : (s.setStation p st).turnPart = s.turnPart :=
  turnPart_modPair s p _ rfl
@[simp] theorem turnPart_modLink (s : State) (f : Link → Link) : (s.modLink f).turnPart = s.turnPart := rfl
@[simp] theorem turnPart_report (s : State) (r : Report) : (s.report r).turnPart = s.turnPart := rfl
@[simp] theorem turnPart_modBus (s : State) (f : Bus → Bus) : (s.modBus f).turnPart = s.turnPart := rfl

@[simp] theorem turnPart_when (s : State) (c : Bool) (f : State → State) (h : (f s).turnPart = s.turnPart) :
    (s.when c f).turnPart = s.turnPart := by
  obtain e | e := State.when_cases c f s <;> rw [e]
  exact h

theorem turnPart_each {α : Type} (xs : List α) (f : α → State → State) (h : ∀ x s, (f x s).turnPart = s.turnPart) (s : State) :
    (s.each xs f).turnPart = s.turnPart :=
  State.each_keeps State.turnPart xs f (fun x _ => h x) s

@[simp] theorem turnPart_darkTest (s : State) (p : PairIx) : (s.darkTest p).turnPart = s.turnPart := by
  unfold State.darkTest
  repeat' split
  all_goals simp

@[simp] theorem turnPart_advance (s : State) (n : Nat) : (s.advance n).turnPart = s.turnPart := by
  ext q : 2
  case separate =>
    obtain ⟨left, e⟩ := s.advance_pair n q
    simp [State.turnPart, e]
  all_goals rfl

/-! ### The Pinsetter Supervisor and the gate -/

/-- Of the part of the turns, PSV's operations on a lane change at the most its ball to be scored. -/
theorem turnPart_putScored_of_outside {l : LaneIx} {s t : State} (h : t.outside l = s.outside l) :
    t.turnPart = s.turnPart.putScored l (t.machine l).scored := by
  have self := lane_self_of_outside h
  ext k : 2
  case separate =>
    by_cases e : k = pairOf l
    · subst e
      exact (congrArg (fun x : Pair => decide (x.mode = .separate)) (pair_self_of_outside h)).trans rfl
    · simp [State.turnPart, TurnPart.putScored, pair_of_outside h e]
  all_goals
    by_cases e : k = l
    · subst e
      simp only [State.turnPart, TurnPart.putScored, Function.update_self]
      try rw [self]
      try rfl
    · simp [State.turnPart, TurnPart.putScored, State.machine, e, lane_of_outside h e]

theorem turnPart_of_outside {l : LaneIx} {s t : State} (h : t.outside l = s.outside l) (scored : (t.machine l).scored = (s.machine l).scored) :
    t.turnPart = s.turnPart := by
  rw [turnPart_putScored_of_outside h, scored]
  exact s.turnPart.putScored_self l

theorem turnPart_of_ball {l : LaneIx} {s t : State} (h : t.outside l = s.outside l) (ball : (t.machine l).ball = (s.machine l).ball) :
    t.turnPart = s.turnPart := turnPart_of_outside h (scored_of_ball s l ball)

section Supervisor

variable (s : State) (l : LaneIx)

@[simp] theorem turnPart_enterSilent (st : MachineState) : (s.enterSilent l st).turnPart = s.turnPart :=
  turnPart_of_ball (l := l) (by simp) (by simp)
@[simp] theorem turnPart_enter (st : MachineState) : (s.enter l st).turnPart = s.turnPart := turnPart_of_ball (l := l) (by simp) (by simp)
@[simp] theorem turnPart_startTimer (k : TimerKind) (n : Nat) : (s.startTimer l k n).turnPart = s.turnPart :=
  turnPart_of_ball (l := l) (by simp) (by simp)
@[simp] theorem turnPart_issueRead (again : Bool) : (s.issueRead l again).turnPart = s.turnPart :=
  turnPart_of_ball (l := l) (by simp) (by simp)
@[simp] theorem turnPart_startCycle (c : Cycle) : (s.startCycle l c).turnPart = s.turnPart :=
  turnPart_of_ball (l := l) (by simp) (by simp)
@[simp] theorem turnPart_forgetDeck : (s.forgetDeck l).turnPart = s.turnPart := turnPart_of_ball (l := l) (by simp) (by simp)
@[simp] theorem turnPart_powerDown : (s.powerDown l).turnPart = s.turnPart := turnPart_of_ball (l := l) (by simp) (by simp)
@[simp] theorem turnPart_idlePowerOff : (s.idlePowerOff l).turnPart = s.turnPart := turnPart_of_ball (l := l) (by simp) (by simp)
@[simp] theorem turnPart_serviceOut : (s.serviceOut l).turnPart = s.turnPart := turnPart_of_ball (l := l) (by simp) (by simp)
@[simp] theorem turnPart_wake : (s.wake l).turnPart = s.turnPart := turnPart_of_ball (l := l) (by simp) (by simp)
@[simp] theorem turnPart_wakeForHead : (s.wakeForHead l).turnPart = s.turnPart := turnPart_of_ball (l := l) (by simp) (by simp)
@[simp] theorem turnPart_derive : (s.derive l).turnPart = s.turnPart := turnPart_of_ball (l := l) (by simp) (by simp)
@[simp] theorem turnPart_afterBall (n : Need) (o r : Bool) : (s.afterBall l n o r).turnPart = s.turnPart :=
  turnPart_of_ball (l := l) (by simp) (by simp)
@[simp] theorem turnPart_headTold : (s.headTold l).turnPart = s.turnPart := turnPart_of_ball (l := l) (by simp) (by simp)
@[simp] theorem turnPart_removalOrder : (s.removalOrder l).turnPart = s.turnPart := turnPart_of_ball (l := l) (by simp) (by simp)
@[simp] theorem turnPart_cycleDone (set : PinSet) : (s.cycleDone l set).turnPart = s.turnPart :=
  turnPart_of_ball (l := l) (by simp) (by simp)
@[simp] theorem turnPart_loseLane (silent : Bool) : (s.loseLane silent l).turnPart = s.turnPart :=
  turnPart_of_ball (l := l) (by simp) (by simp)
@[simp] theorem turnPart_raiseReason (r : Reason) (t : DateTime) : (s.raiseReason r t l).turnPart = s.turnPart :=
  turnPart_of_ball (l := l) (by simp) (by simp)
@[simp] theorem turnPart_clearReason (r : Reason) : (s.clearReason r l).turnPart = s.turnPart :=
  turnPart_of_ball (l := l) (by simp) (by simp)
@[simp] theorem turnPart_evaluateBilling : (s.evaluateBilling l).turnPart = s.turnPart := turnPart_of_ball (l := l) (by simp) (by simp)

@[simp] theorem turnPart_foul : (s.foul l).turnPart = s.turnPart := turnPart_of_outside (l := l) (by simp) (scored_foul s l)
@[simp] theorem turnPart_returnLane (power : Power) : (s.returnLane l power).turnPart = s.turnPart :=
  turnPart_of_outside (l := l) (by simp) (scored_returnLane s l power)
@[simp] theorem turnPart_nextRead : (s.nextRead l).turnPart = s.turnPart :=
  turnPart_of_outside (l := l) (by simp [State.nextRead]) (scored_nextRead s l)

@[simp] theorem turnPart_raiseBoth (r : Reason) (p : PairIx) : (s.raiseBoth r p).turnPart = s.turnPart := by simp [State.raiseBoth]
@[simp] theorem turnPart_clearBoth (r : Reason) (p : PairIx) : (s.clearBoth r p).turnPart = s.turnPart := by simp [State.clearBoth]

/-! ### The Billing Meter -/

@[simp] theorem turnPart_charge (n : Nat) : (s.charge l n).turnPart = s.turnPart := by
  unfold State.charge
  repeat' split
  all_goals simp

@[simp] theorem turnPart_chargeMinute (n : Nat) : (s.chargeMinute l n).turnPart = s.turnPart := by
  unfold State.chargeMinute
  split <;> simp

@[simp] theorem turnPart_evaluateAccount : (s.evaluateAccount l).turnPart = s.turnPart := turnPart_each _ _ (fun _ _ => by simp) s

@[simp] theorem turnPart_allowanceOut (a : Account) : (s.allowanceOut l a).turnPart = s.turnPart := by simp [State.allowanceOut]

@[simp] theorem turnPart_minutePart : s.minutePart.turnPart = s.turnPart := by
  simp only [State.minutePart]
  repeat' split
  all_goals rfl

@[simp] theorem turnPart_perTimeMinute : (s.perTimeMinute l).turnPart = s.turnPart := by simp [State.perTimeMinute]

@[simp] theorem turnPart_prepaidTimeMinute : (s.prepaidTimeMinute l).turnPart = s.turnPart := by
  simp only [State.prepaidTimeMinute]
  split <;> simp

@[simp] theorem turnPart_firstBall (slot game : Nat) : (s.firstBall l slot game).turnPart = s.turnPart := by
  simp only [State.firstBall]
  repeat' split
  all_goals simp

@[simp] theorem turnPart_finalise : (s.finalise l).turnPart = s.turnPart := by
  simp only [State.finalise]
  split <;> simp [turnPart_each]

/-! ### The hand-offs of the Turn Scheduler -/

@[simp] theorem turnPart_reportHead : (s.reportHead l).turnPart = s.turnPart := by
  unfold State.reportHead
  split <;> simp

@[simp] theorem turnPart_tellMeter : (s.tellMeter l).turnPart = s.turnPart := by
  rw [State.tellMeter, turnPart_evaluateBilling]
  exact turnPart_modLane s l _ rfl rfl rfl

@[simp] theorem turnPart_handHead : (s.handHead l).turnPart = s.turnPart := by simp [State.handHead]
@[simp] theorem turnPart_headChanged : (s.headChanged l).turnPart = s.turnPart := by simp [State.headChanged]
@[simp] theorem turnPart_handOffs (before : State) (ls : List LaneIx) : (s.handOffs before ls).turnPart = s.turnPart :=
  turnPart_each _ _ (fun _ _ => by simp) s

/-! ### Health, the return and the station bus -/

@[simp] theorem turnPart_testLane (h : LaneHealth) (attrs : List Attribute) : (s.testLane l h attrs).turnPart = s.turnPart := by
  rw [State.testLane, turnPart_each _ _ fun _ _ => turnPart_report _ _]
  exact turnPart_modLane s l _ rfl rfl rfl

@[simp] theorem turnPart_testPair (p : PairIx) (h : PairHealth) : (s.testPair p h).turnPart = s.turnPart := by
  rw [State.testPair, turnPart_when _ _ _ (turnPart_report _ _)]
  exact turnPart_modPair s p _ rfl

@[simp] theorem turnPart_travel (p : PairIx) (n : Nat) : (s.travel p n).turnPart = s.turnPart := by simp [State.travel]
@[simp] theorem turnPart_setLift (p : PairIx) (o : LiftOrder) : (s.setLift p o).turnPart = s.turnPart := turnPart_modStation s p _

@[simp] theorem turnPart_pauseTest (p : PairIx) : (s.pauseTest p).turnPart = s.turnPart := by
  simp only [State.pauseTest]
  repeat' split
  all_goals simp

@[simp] theorem turnPart_trackAppend (kind : BallKind) : (s.trackAppend l kind).turnPart = s.turnPart := by
  simp only [State.trackAppend]
  split
  · simp
  · rw [turnPart_when _ _ _ (turnPart_darkTest _ _), turnPart_when _ _ _ (turnPart_raiseBoth _ _ _), turnPart_modReturn]

@[simp] theorem turnPart_rackUp (p : PairIx) : (s.rackUp p).turnPart = s.turnPart := by
  simp only [State.rackUp]
  split <;> simp

@[simp] theorem turnPart_ballAtRack (p : PairIx) : (s.ballAtRack p).turnPart = s.turnPart := by
  have cleared (t : State) (c : Bool) : (t.when c (State.clearBoth .returnBacklog p)).turnPart = t.turnPart :=
    turnPart_when _ _ _ (turnPart_clearBoth _ _ _)
  unfold State.ballAtRack
  split
  · simp
  · dsimp only
    split <;> simp [cleared]

@[simp] theorem turnPart_ballTaken (p : PairIx) : (s.ballTaken p).turnPart = s.turnPart := by
  unfold State.ballTaken
  split <;> simp

@[simp] theorem turnPart_declareReturnJam (p : PairIx) : (s.declareReturnJam p).turnPart = s.turnPart := by
  simp [State.declareReturnJam]

@[simp] theorem turnPart_writeOff (p : PairIx) : (s.writeOff p).turnPart = s.turnPart := by simp [State.writeOff]
@[simp] theorem turnPart_losePair (p : PairIx) : (s.losePair p).turnPart = s.turnPart := turnPart_modReturn s p _

@[simp] theorem turnPart_seedReturn (p : PairIx) (rack : Nat) : (s.seedReturn p rack).turnPart = s.turnPart := by
  simp only [State.seedReturn]
  rw [turnPart_when _ _ _ (turnPart_darkTest _ _), turnPart_pauseTest, turnPart_modReturn, turnPart_when _ _ _ (turnPart_clearBoth _ _ _),
    turnPart_writeOff, turnPart_when _ _ _ (turnPart_report _ _)]

@[simp] theorem turnPart_clearJamOfReturn (p : PairIx) (rack : Nat) : (s.clearJamOfReturn p rack).turnPart = s.turnPart := by
  simp only [State.clearJamOfReturn]
  rw [turnPart_when _ _ _ (turnPart_darkTest _ _)]
  simp

@[simp] theorem turnPart_handLoss (silent : Bool) (p : PairIx) : (s.handLoss silent p).turnPart = s.turnPart := by
  rw [State.handLoss, turnPart_losePair]
  exact turnPart_each _ _ (fun _ _ => by simp) s

@[simp] theorem turnPart_loseStation (p : PairIx) : (s.loseStation p).turnPart = s.turnPart := by simp [State.loseStation]

@[simp] theorem turnPart_missAnswer (p : PairIx) : (s.missAnswer p).turnPart = s.turnPart := by
  unfold State.missAnswer
  split <;> simp

@[simp] theorem turnPart_schedule (ds : List DueExchange) : (s.schedule ds).turnPart = s.turnPart := rfl
@[simp] theorem turnPart_probeAgain (p : PairIx) : (s.probeAgain p).turnPart = s.turnPart := turnPart_when _ _ _ rfl

@[simp] theorem turnPart_resetOrders (ls : List LaneIx) : (s.resetOrders ls).turnPart = s.turnPart :=
  turnPart_each _ _ (fun _ _ => by simp) s

@[simp] theorem turnPart_lateOrders (p : PairIx) : (s.lateOrders p).turnPart = s.turnPart := by simp [State.lateOrders]
@[simp] theorem turnPart_endPass : s.endPass.turnPart = s.turnPart := turnPart_each _ _ (fun _ _ => by simp) _
@[simp] theorem turnPart_passOver (e : Exchange) : (s.passOver e).turnPart = s.turnPart := by simp [State.passOver]
@[simp] theorem turnPart_closeExchange : s.closeExchange.turnPart = s.turnPart := rfl

@[simp] theorem turnPart_missed (e : Exchange) : (s.missed e).turnPart = s.turnPart := by
  simp only [State.missed]
  repeat' split
  all_goals simp

@[simp] theorem turnPart_windowOut : s.windowOut.turnPart = s.turnPart := by
  unfold State.windowOut
  split <;> simp

@[simp] theorem turnPart_eventsLost (p : PairIx) : (s.eventsLost p).turnPart = s.turnPart := by
  simp only [State.eventsLost]
  split <;> simp

@[simp] theorem turnPart_resetStation (p : PairIx) (hold : Nat) : (s.resetStation p hold).turnPart = s.turnPart := by
  simp [State.resetStation]

@[simp] theorem turnPart_paceOut : s.paceOut.turnPart = s.turnPart := by
  simp only [State.paceOut]
  split <;> simp

@[simp] theorem turnPart_holdOut (p : PairIx) : (s.holdOut p).turnPart = s.turnPart := by
  simp only [State.holdOut]
  split <;> simp

@[simp] theorem turnPart_sendPoll : s.sendPoll.turnPart = s.turnPart := by
  simp only [State.sendPoll]
  repeat' split
  all_goals rfl

@[simp] theorem turnPart_sendProbe : s.sendProbe.turnPart = s.turnPart := by
  simp only [State.sendProbe]
  repeat' split
  all_goals rfl

@[simp] theorem turnPart_sendReset : s.sendReset.turnPart = s.turnPart := by
  simp only [State.sendReset]
  repeat' split
  all_goals rfl

@[simp] theorem turnPart_attach (p : PairIx) (a : HelloAnswer) (withLoss : Bool) (cause : BackCause) :
    (s.attach p a withLoss cause).turnPart = s.turnPart := by
  simp only [State.attach]
  generalize hw : State.when withLoss (State.handLoss true p) _ = lost
  have e : lost.turnPart = s.turnPart := by
    rw [← hw, turnPart_when _ _ _ (turnPart_handLoss _ _ _)]
    simp
  rw [turnPart_report, turnPart_lateOrders]
  exact (turnPart_each _ _ (fun _ _ => turnPart_returnLane _ _ _) _).trans ((turnPart_seedReturn _ _ _).trans e)

@[simp] theorem turnPart_hello (e : Exchange) (a : HelloAnswer) : (s.hello e a).turnPart = s.turnPart := by
  simp only [State.hello]
  repeat' split
  all_goals simp [State.attachInPass]

@[simp] theorem turnPart_helloIn (a : HelloAnswer) : (s.helloIn a).turnPart = s.turnPart := by
  unfold State.helloIn
  repeat' split
  all_goals simp

/-! ### The timers of a machine -/

@[simp] theorem turnPart_runOut (start : Reading) (n : Nat) : (s.runOut start n).turnPart = s.turnPart := by simp [State.runOut]

@[simp] theorem turnPart_settleOut : (s.settleOut l).turnPart = s.turnPart := by
  unfold State.settleOut
  split <;> simp

@[simp] theorem turnPart_rereadOut : (s.rereadOut l).turnPart = s.turnPart := by
  unfold State.rereadOut
  split <;> simp

@[simp] theorem turnPart_warmUpOut : (s.warmUpOut l).turnPart = s.turnPart := by
  unfold State.warmUpOut
  split
  · rw [turnPart_derive, turnPart_modMachine _ _ _ rfl, turnPart_runOut]
  · rfl

@[simp] theorem turnPart_testOnTime : (s.testOnTime l).turnPart = s.turnPart := by
  unfold State.testOnTime
  repeat' split
  all_goals simp

@[simp] theorem turnPart_testIdle : (s.testIdle l).turnPart = s.turnPart := by
  unfold State.testIdle
  split <;> simp

/-! ### The parts of a second, and those still due -/

@[simp] theorem turnPart_dueMinute : s.dueMinute.turnPart = s.turnPart := by
  unfold State.dueMinute
  split
  · exact turnPart_minutePart _
  · rfl

@[simp] theorem turnPart_duePlay : (s.duePlay l).turnPart = s.turnPart := by
  unfold State.duePlay
  split
  · exact turnPart_perTimeMinute _ l
  · rfl

@[simp] theorem turnPart_duePrepaid : (s.duePrepaid l).turnPart = s.turnPart := by
  unfold State.duePrepaid
  split
  · exact turnPart_prepaidTimeMinute _ l
  · rfl

@[simp] theorem turnPart_dueSilence : s.dueSilence.turnPart = s.turnPart := by
  unfold State.dueSilence
  split <;> rfl

@[simp] theorem turnPart_dueOnTime : (s.dueOnTime l).turnPart = s.turnPart := by
  unfold State.dueOnTime
  split
  · exact turnPart_testOnTime _ l
  · rfl

@[simp] theorem turnPart_dueIdle : (s.dueIdle l).turnPart = s.turnPart := by
  unfold State.dueIdle
  split
  · exact turnPart_testIdle _ l
  · rfl

@[simp] theorem turnPart_dueOldest (p : PairIx) : (s.dueOldest p).turnPart = s.turnPart := by
  unfold State.dueOldest
  split
  · exact turnPart_declareReturnJam _ p
  · rfl

@[simp] theorem turnPart_drain : s.drain.turnPart = s.turnPart := by
  simp only [State.drain]
  split
  · rfl
  · rw [turnPart_each _ _ fun _ _ => turnPart_dueOldest _ _, turnPart_each _ _ fun _ _ => turnPart_dueIdle _ _,
      turnPart_each _ _ fun _ _ => turnPart_dueOnTime _ _, turnPart_dueSilence, turnPart_each _ _ fun _ _ => turnPart_duePrepaid _ _,
      turnPart_each _ _ fun _ _ => turnPart_duePlay _ _, turnPart_dueMinute]

/-- The counts of a second leave the part of the turns alone. -/
@[simp] theorem turnPart_countSecond : s.countSecond.turnPart = s.turnPart := by
  ext k : 2
  case separate =>
    simp only [State.turnPart, State.countSecond, State.pair, Fin.getElem_fin, mapPairs_get, State.countOldest]
    split <;> rfl
  all_goals
    simp only [State.turnPart, State.countSecond, State.machine, State.lane, Fin.getElem_fin, mapLanes_get, Lane.countMachine,
      Lane.countSecond]
    split <;> rfl

@[simp] theorem turnPart_toSecond : s.toSecond.turnPart = s.turnPart := turnPart_advance s _
@[simp] theorem turnPart_second : s.second.turnPart = s.turnPart := (turnPart_countSecond s.toSecond).trans (turnPart_toSecond s)

end Supervisor

end Sys2Proof.Machine
end

section
/-! SUPPORT. The part of the turns under each turn operation, and the boundaries: game starts, series ends and the pair's
modes at its boundary keep the condition on the turns. -/

namespace Sys2Proof.Machine

/-! ### The updates of the part -/

theorem turnPart_putTeam (s : State) (l : LaneIx) (f : Lane → Lane) (queue : (f (s.lane l)).queue = (s.lane l).queue)
    (scored : (f (s.lane l)).machine.scored = (s.machine l).scored) :
    (s.modLane l f).turnPart = s.turnPart.putTeam l (f (s.lane l)).team := by
  ext k : 2
  case separate => rfl
  all_goals
    by_cases e : k = l
    · subst e
      simp [State.turnPart, State.machine, TurnPart.putTeam, queue, scored]
    · simp [State.turnPart, State.machine, TurnPart.putTeam, e, State.lane_modLane_ne _ _ _ _ e]

theorem turnPart_setQueue (s : State) (l : LaneIx) (q : List Turn) : (s.setQueue l q).turnPart = s.turnPart.putQueue l q := by
  have core (k : LaneIx) : ((s.setQueue l q).lane k).team = (s.lane k).team := by
    by_cases e : k = l
    · subst e
      obtain ⟨m, lane⟩ := lane_setQueue_self s k q
      rw [lane]
      rfl
    · rw [State.lane_setQueue_ne _ _ _ _ e]
  have ball (k : LaneIx) : ((s.setQueue l q).machine k).scored = (s.machine k).scored := by
    by_cases e : k = l
    · subst e
      simp only [State.setQueue, State.machine, State.lane_modLane_self]
      split <;> rfl
    · rw [State.machine, State.lane_setQueue_ne _ _ _ _ e, State.machine]
  ext k : 2
  case teams => exact core k
  case scored => exact ball k
  case separate => rfl
  case queues =>
    by_cases e : k = l
    · subst e
      simp [State.turnPart, TurnPart.putQueue, State.lane_setQueue_queue]
    · simp [State.turnPart, TurnPart.putQueue, e, State.lane_setQueue_ne _ _ _ _ e]

theorem turnPart_putMode (s : State) (p : PairIx) (f : Pair → Pair) :
    (s.modPair p f).turnPart = s.turnPart.putMode p (decide ((f (s.pair p)).mode = .separate)) := by
  ext q : 2
  case separate =>
    by_cases e : q = p
    · subst e
      simp [State.turnPart, TurnPart.putMode]
    · simp [State.turnPart, TurnPart.putMode, e, State.pair_modPair_ne _ _ _ _ e]
  all_goals rfl

theorem turnPart_changeMode (s : State) (p : PairIx) (m : PairMode) (c : ModeCause) :
    (s.changeMode p m c).turnPart = s.turnPart.putMode p (decide (m = .separate)) :=
  turnPart_putMode s p fun x => { x with mode := m, pendingMode := none }

theorem turnPart_setSession (s : State) (l : LaneIx) (st : SessionState) :
    (s.setSession l st).turnPart = s.turnPart.putTeam l { (s.lane l).team with isOpen := decide (st = .open_) } := by
  rw [State.setSession, turnPart_darkTest, turnPart_putTeam _ _ _ rfl rfl]
  rfl

theorem putTeam_putTeam (P : TurnPart) (l : LaneIx) (T U : Team) : (P.putTeam l T).putTeam l U = P.putTeam l U := by
  simp [TurnPart.putTeam]

theorem turnPart_endSeries (s : State) (l : LaneIx) :
    (s.endSeries l).turnPart = s.turnPart.putTeam l { (s.lane l).team with isOpen := false, reached := false } := by
  rw [State.endSeries, turnPart_setSession, turnPart_putTeam _ _ _ rfl rfl, putTeam_putTeam, State.lane_modLane_self]
  rfl

/-- The lane of a team that starts its next game on a start lane (R30). -/
def Lane.begun (start : LaneIx) (x : Lane) : Lane :=
  { x with game := x.game + 1, startLane := start, boundary := .unmarked
           roster := x.roster.map (Bowler.joinGame x.settings (x.game + 1) start) }

theorem beginGame_eq (s : State) (l start : LaneIx) : s.beginGame l start = (s.modLane l (Lane.begun start)).setQueue start
    ((s.lane start).queue ++ frameOneTurns l ((s.lane l).begun start).roster ((s.lane l).game + 1)) := by
  have queue : ((s.modLane l (Lane.begun start)).lane start).queue = (s.lane start).queue := by
    by_cases e : start = l
    · subst e
      rw [State.lane_modLane_self]
      rfl
    · rw [State.lane_modLane_ne _ _ _ _ e]
  rw [← queue]
  rfl

theorem turnPart_beginGame (s : State) (l start : LaneIx) :
    (s.beginGame l start).turnPart = (s.turnPart.putTeam l ((s.lane l).begun start).team).putQueue start
      (s.turnPart.queues start ++ frameOneTurns l ((s.lane l).begun start).roster ((s.lane l).game + 1)) := by
  rw [beginGame_eq, turnPart_setQueue, turnPart_putTeam _ _ _ rfl rfl]
  rfl

/-! ### Game starts and series ends -/

variable {E : Set LaneIx} {s : State}

/-- The turns that start a game: one for each bowler in play, on frame 1. -/
theorem mem_frameOne_team (x : Lane) (home : LaneIx) (u : Turn) :
    u ∈ frameOneTurns home x.roster x.game ↔ u = ⟨home, u.slot, x.game, 1⟩ ∧ x.team.plays u.slot = true :=
  (mem_frameOneTurns home x.roster x.game u).trans (and_congr_right fun _ => (decide_eq_true_iff).symm)

/-- A team seated: in play, with no turn standing, its frame-1 turns put at the tail of its start lane's queue. -/
theorem sound_seated {P : TurnPart} (h : P.sound E) {l start : LaneIx} {x : Lane} {n : Nat} (isOpen : x.session = .open_)
    (unmarked : x.boundary = .unmarked) (started : x.startLane = start) (game : x.game = n) (home : pairOf start = pairOf l)
    (atHome : P.separate (pairOf l) = true → start = l) (size : x.roster.length ≤ 8) (gone : ∀ k, ∀ t ∈ P.queues k, t.home ≠ l) :
    ((P.putTeam l x.team).putQueue start (P.queues start ++ frameOneTurns l x.roster n)).sound E := by
  subst started game
  refine h.join (T := x.team) (decide_eq_true isOpen) (by simp [Lane.team, unmarked]) home atHome size
    (fun k t ht e => absurd e (gone k t ht)) (fun u hu => ?_) (nodup_frameOneTurns _ _ _) (fun u hu seat => ?_) fun slot plays => .inl ?_
  · obtain ⟨e, plays⟩ := (mem_frameOne_team x l u).1 hu
    exact ⟨by rw [e], by rw [e]; rfl, by rw [e], plays⟩
  · obtain ⟨k, -, t, ht, e⟩ := (mem_seats P l _).1 seat
    obtain ⟨eu, -⟩ := (mem_frameOne_team x l u).1 hu
    refine gone k t ht ((congrArg Prod.fst e).trans ?_)
    rw [eu]
    rfl
  · exact ⟨⟨l, slot, x.game, 1⟩, (mem_frameOne_team x l _).2 ⟨rfl, plays⟩, rfl⟩

theorem reached_iff (s : State) (l : LaneIx) : (s.turnPart.teams l).reached = true ↔ (s.lane l).boundary = .reached := decide_eq_true_iff

theorem isOpen_iff (s : State) (l : LaneIx) : (s.turnPart.teams l).isOpen = true ↔ (s.lane l).session = .open_ := decide_eq_true_iff

theorem sound_beginGame (h : s.turnPart.sound E) {l start : LaneIx} (reached : (s.lane l).boundary = .reached)
    (home : pairOf start = pairOf l) (atHome : (s.pair (pairOf l)).mode = .separate → start = l) : (s.beginGame l start).turnPart.sound E := by
  obtain ⟨isOpen, ended⟩ := h.reached l ((reached_iff s l).2 reached)
  rw [turnPart_beginGame]
  refine sound_seated h (x := (s.lane l).begun start) ((isOpen_iff s l).1 isOpen) rfl rfl rfl home (fun e => atHome (of_decide_eq_true e)) ?_
    (h.gone_of_ended ended)
  rw [Lane.begun, List.length_map]
  exact h.size l

theorem sound_endSeries (h : s.turnPart.sound E) {l : LaneIx} (reached : (s.lane l).boundary = .reached) :
    (s.endSeries l).turnPart.sound E := by
  obtain ⟨-, ended⟩ := h.reached l ((reached_iff s l).2 reached)
  rw [turnPart_endSeries]
  exact h.leave rfl rfl (h.home l) (h.size l) (h.gone_of_ended ended) (Set.subset_insert l E)

theorem sound_startAlone (h : s.turnPart.sound E) (l : LaneIx) : (s.startAlone l).turnPart.sound E := by
  unfold State.startAlone
  split
  · exact h
  · rename_i marked
    have reached : (s.lane l).boundary = .reached := not_not.1 marked
    split
    · exact sound_endSeries h reached
    · split
      · exact h
      · rw [turnPart_handOffs]
        exact sound_beginGame h reached rfl fun _ => rfl

theorem sound_startEach (h : s.turnPart.sound E) (p : PairIx) : (s.startEach p).turnPart.sound E :=
  sound_startAlone (sound_startAlone h _) _

/-- In ALTERNATE each team starts on the lane opposite its last start, which is of its pair. -/
theorem sound_startBoth (h : s.turnPart.sound E) {p : PairIx} (mode : (s.pair p).mode = .alternate) (both : s.bothReached p = true) :
    (s.startBoth p).turnPart.sound E := by
  obtain ⟨reachedA, reachedB⟩ : (s.lane (laneA p)).boundary = .reached ∧ (s.lane (laneB p)).boundary = .reached := by
    simpa [State.bothReached] using both
  have alternate {l start : LaneIx} (e : pairOf l = p) (t : State) (kept : t.turnPart.separate = s.turnPart.separate) :
      (t.pair (pairOf l)).mode = .separate → start = l := fun hm => by
    have := (congrFun kept p).symm.trans (decide_eq_true (e ▸ hm))
    simp [State.turnPart, mode] at this
  have homeA : pairOf (partner (s.lane (laneA p)).startLane) = pairOf (laneA p) := (pairOf_partner _).trans (h.home _)
  have homeB : pairOf (partner (s.lane (laneB p)).startLane) = pairOf (laneB p) := (pairOf_partner _).trans (h.home _)
  have first := sound_beginGame h reachedA homeA (alternate (pairOf_laneA p) s rfl)
  rw [State.startBoth, turnPart_handOffs]
  refine sound_beginGame first ?_ homeB (alternate (pairOf_laneB p) _ ?_)
  · rw [← reached_iff, turnPart_beginGame]
    simpa [TurnPart.putTeam, TurnPart.putQueue, (laneA_ne_laneB p).symm] using (reached_iff s _).2 reachedB
  · rw [turnPart_beginGame]
    rfl

/-! ### Boundaries -/

/-- A pair with both lanes REACHED has no turns, so any mode suits it. -/
theorem sound_changeMode_reached (h : s.turnPart.sound E) {p : PairIx} (both : s.bothReached p = true) (m : PairMode) (c : ModeCause) :
    (s.changeMode p m c).turnPart.sound E := by
  rw [turnPart_changeMode]
  cases m with
  | alternate => exact h.putMode_alternate p
  | separate =>
    obtain ⟨reachedA, reachedB⟩ : (s.lane (laneA p)).boundary = .reached ∧ (s.lane (laneB p)).boundary = .reached := by
      simpa [State.bothReached] using both
    have reached (l : LaneIx) (e : pairOf l = p) : (s.turnPart.teams l).reached = true := by
      rw [reached_iff]
      rcases (pairOf_eq_lanes l p).1 e with rfl | rfl
      · exact reachedA
      · exact reachedB
    refine h.putMode_separate (fun l e t ht => ?_) fun l e _ _ unmarked => absurd (unmarked.symm.trans (reached l e)) nofun
    obtain ⟨-, ended⟩ := h.reached t.home (reached _ ((h.turns l t ht).pair.trans e))
    exact absurd rfl (h.gone_of_ended ended l t ht)

theorem mode_changeMode (s : State) (p : PairIx) (m : PairMode) (c : ModeCause) : ((s.changeMode p m c).pair p).mode = m := by
  simp [State.changeMode]

theorem sound_pairBoundary (h : s.turnPart.sound E) {p : PairIx} (both : s.bothReached p = true) : (s.pairBoundary p).turnPart.sound E := by
  have changed (m : PairMode) (c : ModeCause) := sound_changeMode_reached h both m c
  unfold State.pairBoundary
  split
  · split
    · exact sound_startEach (by rwa [turnPart_dropPending]) p
    · split
      · exact h
      · exact sound_startBoth (changed _ _) (mode_changeMode s p _ _) both
  · exact sound_startEach h p
  · split
    · exact sound_startEach (changed _ _) p
    · split
      · exact sound_startEach (changed _ _) p
      · exact h
  · rename_i mode _
    split
    · exact sound_startEach (changed _ _) p
    · split
      · exact h
      · exact sound_startBoth h mode both

theorem sound_takeBoundary (h : s.turnPart.sound E) (l : LaneIx) : (s.takeBoundary l).turnPart.sound E := by
  unfold State.takeBoundary
  split
  · exact h
  · split
    · split
      · exact sound_pairBoundary h ‹_›
      · exact h
    · exact sound_startAlone h l

theorem sound_retakePair (h : s.turnPart.sound E) (p : PairIx) : (s.retakePair p).turnPart.sound E :=
  sound_takeBoundary (sound_takeBoundary h _) _

/-- A lane whose bowlers' games are over is REACHED, and taken on (R29). -/
theorem sound_testBoundary (h : s.turnPart.sound E) (l : LaneIx) : (s.testBoundary l).turnPart.sound E := by
  unfold State.testBoundary
  split
  · rename_i c
    simp only [Bool.and_eq_true, decide_eq_true_eq] at c
    obtain ⟨⟨isOpen, -⟩, ended⟩ := c
    refine sound_takeBoundary ?_ l
    rw [turnPart_report, turnPart_putTeam _ _ _ rfl rfl]
    exact h.putTeam_reached ((isOpen_iff s l).2 isOpen) ((gameEnded_iff s l).1 ended)
  · exact h

end Sys2Proof.Machine
end

section
/-! SUPPORT. A roster changed, a ball recorded and a frame over: what they make of a lane's team, and the condition on the
turns. -/

namespace Sys2Proof.Machine

open Function (update)

/-! ### The balls of a record -/

theorem mapFrames_get (f : Nat → Frame → Frame) (v : Vector Frame 10) {i : Nat} (h : i < 10) : (mapFrames f v)[i] = f i v[i] := by
  interval_cases i <;> rfl

theorem balls_resolveFrom (e : Nat) (v : Vector Frame 10) {i : Nat} (h : i < 10) : (resolveFrom e v)[i].balls = v[i].balls := by
  simp only [resolveFrom, mapFrames_get _ _ h]
  split <;> rfl

theorem balls_ne_nil_iff (g : Game) : g.balls ≠ [] ↔ ∃ i, ∃ h : i < 10, g.frames[i].balls ≠ [] := by
  simp only [Game.balls, ne_eq, List.flatMap_eq_nil_iff, not_forall, List.mem_iff_getElem, Vector.length_toList, Vector.getElem_toList]
  constructor
  · rintro ⟨_, ⟨i, h, rfl⟩, balls⟩
    exact ⟨i, h, balls⟩
  · rintro ⟨i, h, balls⟩
    exact ⟨_, ⟨i, h, rfl⟩, balls⟩

theorem frame_modFrame (g : Game) (n : Nat) (f : Frame → Frame) {i : Nat} (h : i < 10) :
    (g.modFrame n f).frames[i] = if i + 1 = n then f g.frames[i] else g.frames[i] := mapFrames_get _ _ h

theorem frame_eq (g : Game) {i : Nat} (h : i < 10) : g.frame (i + 1) = g.frames[i] := by
  simp [Game.frame, h]

/-- A record that stays in play or over, with balls where it had some. -/
def Game.carries (g g' : Game) : Prop := (g'.state = .inProgress ↔ g.state = .inProgress) ∧ (g.balls ≠ [] → g'.balls ≠ [])

/-- A frame rewritten with balls where it had some, and the frames re-resolved. -/
theorem balls_modFrame {g g' : Game} {n : Nat} {f : Frame → Frame} (balls : ∀ i, (h : i < 10) → g'.frames[i].balls = (g.modFrame n f).frames[i].balls)
    (filled : (g.frame n).balls ≠ [] → (f (g.frame n)).balls ≠ []) : g.balls ≠ [] → g'.balls ≠ [] := by
  simp only [balls_ne_nil_iff]
  rintro ⟨i, h, had⟩
  refine ⟨i, h, ?_⟩
  rw [balls i h, frame_modFrame g n f h]
  split
  · rename_i e
    subst e
    rw [frame_eq g h] at filled
    exact filled had
  · exact had

theorem balls_addBall (b : BallIn) (g : Game) {i : Nat} (h : i < 10) :
    (g.addBall b).frames[i].balls = (g.modFrame b.turn.frame (Frame.addBall b.turn.frame b.lane
      (ballRecord b (setBefore b.turn.frame (g.frame b.turn.frame))))).frames[i].balls := balls_resolveFrom _ _ h

theorem carries_addBall (b : BallIn) (g : Game) : g.carries (g.addBall b) :=
  ⟨Iff.rfl, balls_modFrame (fun _ h => balls_addBall b g h) fun _ => by simp [Frame.addBall]⟩

/-- A record has a ball once one is recorded in a frame of it. -/
theorem addBall_bowled {b : BallIn} (first : 1 ≤ b.turn.frame) (last : b.turn.frame ≤ 10) (g : Game) : (g.addBall b).balls ≠ [] := by
  rw [balls_ne_nil_iff]
  refine ⟨b.turn.frame - 1, by omega, ?_⟩
  rw [balls_addBall, frame_modFrame, if_pos (by omega)]
  simp [Frame.addBall]

/-! ### Rosters -/

theorem record_modGame (x : Lane) {f : Game → Game} (hf : ∀ g, (f g).number = g.number) (slot n i : Nat) :
    ({ x with roster := modBowler slot (Bowler.modGame n f) x.roster } : Lane).record i
      = if i = slot ∧ x.game = n then (x.record i).map f else x.record i := by
  simp only [Lane.record, bowlerAt_modBowler]
  by_cases hi : i = slot
  · cases bowlerAt x.roster i with
    | none => simp [hi]
    | some b => simp [hi, game_modGame hf]
  · simp [hi]

theorem playing_of_rel {o o' : Option Game} (h : Option.Rel Game.carries o o') :
    (∃ g, o' = some g ∧ g.state = .inProgress) ↔ ∃ g, o = some g ∧ g.state = .inProgress := by
  cases h with
  | none => rfl
  | some carries => simpa using carries.1

/-- A team whose bowlers' records carry on. -/
theorem sound_records {E : Set LaneIx} {P : TurnPart} (h : P.sound E) {l : LaneIx} {x : Lane} (team : P.teams l = x.team)
    {roster : List Bowler} (size : roster.length ≤ 8)
    (records : ∀ slot, Option.Rel Game.carries (x.record slot) (({ x with roster := roster } : Lane).record slot)) :
    (P.putTeam l ({ x with roster := roster } : Lane).team).sound E := by
  have plays : ({ x with roster := roster } : Lane).team.plays = x.team.plays := by
    funext slot
    rw [Bool.eq_iff_iff, plays_iff, plays_iff]
    exact playing_of_rel (records slot)
  refine h.putTeam_keeps (by rw [team]; rfl) (by rw [team]; rfl) (by rw [team]; rfl) (by rw [team]; rfl) (by rw [team, plays]) (fun none => ?_) size
  rw [Bool.eq_false_iff] at none ⊢
  refine fun bowled => none ?_
  rw [team] at bowled
  obtain ⟨slot, g, record, balls⟩ := (bowled_iff x).1 bowled
  rw [bowled_iff]
  have rel := records slot
  rw [record] at rel
  generalize he : ({ x with roster := roster } : Lane).record slot = e at rel
  cases rel with
  | some carries => exact ⟨slot, _, he, carries.2 balls⟩

theorem rel_carries_self (o : Option Game) : Option.Rel Game.carries o o := by
  cases o with
  | none => exact .none
  | some g => exact .some ⟨Iff.rfl, id⟩

theorem rel_carries_map {f : Game → Game} {o : Option Game} (h : ∀ g ∈ o, g.carries (f g)) : Option.Rel Game.carries o (o.map f) := by
  cases o with
  | none => exact .none
  | some g => exact .some (h g rfl)

variable {E : Set LaneIx} {s : State}

theorem sound_modRoster (h : s.turnPart.sound E) {l : LaneIx} {f : Lane → Lane} {roster : List Bowler}
    (hf : f (s.lane l) = { s.lane l with roster := roster }) (size : roster.length = (s.lane l).roster.length)
    (records : ∀ slot, Option.Rel Game.carries ((s.lane l).record slot) (({ s.lane l with roster := roster } : Lane).record slot)) :
    (s.modLane l f).turnPart.sound E := by
  rw [turnPart_putTeam _ _ _ (by rw [hf]) (by rw [hf]; rfl), hf]
  exact sound_records h rfl (size ▸ h.size l) records

theorem sound_modGame (h : s.turnPart.sound E) {l : LaneIx} {slot n : Nat} {f : Game → Game} (number : ∀ g, (f g).number = g.number)
    (carries : n = (s.lane l).game → ∀ g, (s.lane l).record slot = some g → g.carries (f g)) : (s.modGame l slot n f).turnPart.sound E := by
  refine sound_modRoster h (roster := modBowler slot (Bowler.modGame n f) (s.lane l).roster) rfl (length_modBowler _ _ _) fun i => ?_
  rw [record_modGame _ number]
  split
  · rename_i e
    obtain ⟨rfl, e⟩ := e
    exact rel_carries_map fun g hg => carries e.symm g hg
  · exact rel_carries_self _

/-- A bowler whose records stand. -/
theorem sound_modBowlerOf (h : s.turnPart.sound E) (l : LaneIx) (slot : Nat) {f : Bowler → Bowler} (hf : ∀ b, (f b).games = b.games) :
    (s.modBowlerOf l slot f).turnPart.sound E := by
  refine sound_modRoster h (roster := modBowler slot f (s.lane l).roster) rfl (length_modBowler _ _ _) fun i => ?_
  have same : ({ s.lane l with roster := modBowler slot f (s.lane l).roster } : Lane).record i = (s.lane l).record i := by
    simp only [Lane.record, bowlerAt_modBowler]
    split
    · cases bowlerAt (s.lane l).roster i with
      | none => rfl
      | some b => simp [Bowler.game, hf]
    · rfl
  rw [same]
  exact rel_carries_self _

/-- A record that ends: its bowler is in play no more, and its balls stand. -/
theorem team_endRecord (x : Lane) (slot : Nat) {f : Game → Game} (number : ∀ g, (f g).number = g.number) (balls : ∀ g, (f g).balls = g.balls)
    (ended : ∀ g, (f g).state ≠ .inProgress) : ({ x with roster := modBowler slot (Bowler.modGame x.game f) x.roster } : Lane).team
      = { x.team with plays := update x.team.plays slot false } := by
  have record (i : Nat) := record_modGame x number slot x.game i
  simp only [and_true] at record
  ext : 1
  case plays =>
    funext i
    show _ = update x.team.plays slot false i
    by_cases hi : i = slot
    · subst hi
      rw [Function.update_self, Bool.eq_false_iff, ne_eq, plays_iff, record, if_pos rfl]
      rintro ⟨g, hg, playing⟩
      obtain ⟨g', -, rfl⟩ := Option.map_eq_some_iff.1 hg
      exact ended g' playing
    · rw [Function.update_of_ne hi, Bool.eq_iff_iff, plays_iff, plays_iff, record, if_neg hi]
  case bowled =>
    rw [Bool.eq_iff_iff, bowled_iff]
    refine Iff.trans ?_ (bowled_iff x).symm
    refine exists_congr fun i => ?_
    rw [record]
    split
    · simp only [Option.map_eq_some_iff, exists_exists_and_eq_and, balls]
    · rfl
  case size => exact length_modBowler _ _ _
  all_goals rfl

theorem turnPart_endRecord (s : State) (l : LaneIx) (slot : Nat) {f : Game → Game} (number : ∀ g, (f g).number = g.number)
    (balls : ∀ g, (f g).balls = g.balls) (ended : ∀ g, (f g).state ≠ .inProgress) : (s.modGame l slot (s.lane l).game f).turnPart
      = s.turnPart.putTeam l { s.turnPart.teams l with plays := update (s.turnPart.teams l).plays slot false } := by
  rw [State.modGame, turnPart_putTeam _ _ _ rfl rfl, team_endRecord _ _ number balls ended]
  rfl

/-! ### The end of a frame -/

theorem queue_cons {l : LaneIx} {t : Turn} (head : (s.lane l).queue.head? = some t) : ∃ rest, (s.lane l).queue = t :: rest :=
  List.head?_eq_some_iff.1 head

/-- A frame below the tenth: the bowler's next turn at the tail of its lane's queue, or in ALTERNATE of the partner's (R27). -/
theorem sound_frameOver_below (h : s.turnPart.sound E) {l : LaneIx} {t : Turn} (head : (s.lane l).queue.head? = some t)
    (below : t.frame < 10) (bowled : (s.turnPart.teams t.home).bowled = true) (quiet : s.turnPart.scored l = none) :
    (s.frameOver l).turnPart.sound E := by
  obtain ⟨rest, queue⟩ := queue_cons head
  simp only [State.frameOver, queue, below, if_true, turnPart_handOffs, turnPart_setQueue]
  have removed (k : LaneIx) : ((s.setQueue l rest).lane k).queue = (s.turnPart.putQueue l rest).queues k :=
    congrArg (fun P : TurnPart => P.queues k) (turnPart_setQueue s l rest)
  rw [removed]
  refine h.advance queue below ?_ (fun separate => ?_) bowled quiet
  · split
    · rfl
    · exact pairOf_partner l
  · have mode : (s.pair (pairOf l)).mode = .separate := of_decide_eq_true separate
    rw [mode]

/-- A tenth frame: the turn away, where its bowler's record has ended (R28). -/
theorem sound_frameOver_tenth {P : TurnPart} (h : P.sound E) {l : LaneIx} {t : Turn} (head : (P.queues l).head? = some t)
    (tenth : t.frame = 10) (quiet : P.scored l = none)
    (ended : s.turnPart = P.putTeam t.home { P.teams t.home with plays := update (P.teams t.home).plays t.slot false }) :
    (s.frameOver l).turnPart.sound E := by
  obtain ⟨rest, queueP⟩ := List.head?_eq_some_iff.1 head
  have queue : (s.lane l).queue = t :: rest := (congrArg (fun P : TurnPart => P.queues l) ended).trans queueP
  simp only [State.frameOver, queue, tenth, lt_irrefl, if_false]
  refine sound_testBoundary ?_ t.home
  rw [turnPart_handOffs, turnPart_setQueue, ended]
  refine h.takeOut (home := t.home) (slot := t.slot) rfl (h.queues_putQueue_tail queueP) rfl fun k u hu => ⟨hu, fun seat => ?_⟩
  have ht : t ∈ P.queues l := by rw [queueP]; exact List.mem_cons_self
  obtain ⟨rfl, -⟩ := h.once_of_seat ht (h.mem_of_scored hu) seat
  exact absurd (quiet.symm.trans hu) nofun

/-! ### A ball recorded -/

@[simp] theorem turnPart_reportCheck (s : State) (b : BallIn) (r : BallResult) (causes : CheckCauses) :
    (s.reportCheck b r causes).turnPart = s.turnPart := turnPart_when _ _ _ rfl

/-- A ball of the head turn of its lane, in the record of the turn. -/
theorem sound_recordBall (h : s.turnPart.sound E) {b : BallIn} {g : Game} (head : (s.lane b.lane).queue.head? = some b.turn)
    (game : s.gameOf b.turn = some g) (quiet : s.turnPart.scored b.lane = none) : (s.recordBall b g).turnPart.sound E := by
  have fits := h.turns b.lane b.turn (List.mem_of_mem_head? head)
  have current : b.turn.game = (s.lane b.turn.home).game := fits.game
  rw [gameOf_of_current current] at game
  have recorded : (s.modGame b.turn.home b.turn.slot b.turn.game (Game.addBall b)).turnPart.sound E :=
    sound_modGame h (fun _ => rfl) fun _ g _ => carries_addBall b g
  have bowled : ((s.modGame b.turn.home b.turn.slot b.turn.game (Game.addBall b)).turnPart.teams b.turn.home).bowled = true := by
    rw [State.modGame, turnPart_putTeam _ _ _ rfl rfl]
    simp only [TurnPart.putTeam, Function.update_self]
    rw [bowled_iff]
    refine ⟨b.turn.slot, g.addBall b, ?_, addBall_bowled fits.first fits.last g⟩
    rw [record_modGame (f := Game.addBall b) _ fun _ => rfl, if_pos ⟨rfl, current.symm⟩, game]
    rfl
  have kept : (s.modGame b.turn.home b.turn.slot b.turn.game (Game.addBall b)).turnPart
      = s.turnPart.putTeam b.turn.home ((s.modGame b.turn.home b.turn.slot b.turn.game (Game.addBall b)).lane b.turn.home).team := by
    rw [State.modGame, turnPart_putTeam _ _ _ rfl rfl, State.lane_modLane_self]
  simp only [State.recordBall]
  generalize hn : State.when _ (State.firstBall b.turn.home b.turn.slot b.turn.game) _ = noticed
  generalize hr : State.reportCheck b _ _ _ = reported
  have part : reported.turnPart = (s.modGame b.turn.home b.turn.slot b.turn.game (Game.addBall b)).turnPart := by
    rw [← hr, turnPart_reportCheck, turnPart_report, ← hn, turnPart_when _ _ _ (turnPart_firstBall _ _ _ _)]
  rw [← part] at recorded bowled kept
  have head' : (reported.turnPart.queues b.lane).head? = some b.turn := by rw [kept]; exact head
  have quiet' : reported.turnPart.scored b.lane = none := by rw [kept]; exact quiet
  have current' : b.turn.game = (reported.lane b.turn.home).game := (recorded.turns b.lane b.turn (List.mem_of_mem_head? head')).game
  cases (ballResult b g (g.addBall b)).frameOver with
  | false => exact recorded
  | true =>
    by_cases tenth : b.turn.frame = 10
    · simp only [Bool.true_and, State.when, decide_eq_true tenth, if_true]
      refine sound_frameOver_tenth recorded head' tenth quiet' ?_
      rw [State.finishGame, turnPart_report, current']
      exact turnPart_endRecord reported _ _ (fun _ => rfl) (fun _ => rfl) nofun
    · simp only [Bool.true_and, State.when, decide_eq_false tenth, Bool.false_eq_true, if_false, if_true]
      exact sound_frameOver_below recorded head' (Nat.lt_of_le_of_ne fits.last tenth) bowled quiet'

/-! ### A ball finished, lost or detected -/

theorem turnPart_putScored (s : State) (l : LaneIx) (f : MachineRec → MachineRec) :
    (s.modMachine l f).turnPart = s.turnPart.putScored l (f (s.machine l)).scored :=
  (turnPart_putScored_of_outside (outside_modMachine l f s)).trans (by rw [State.machine_modMachine_self])

/-- With no ball of a lane to be scored. -/
theorem sound_noBall (h : s.turnPart.sound E) (l : LaneIx) : (s.turnPart.putScored l none).sound E := h.putScored nofun

end Sys2Proof.Machine
end

section
/-! SUPPORT. Balls finished, lost and detected, and the mode changes, with the condition on the turns. -/

namespace Sys2Proof.Machine

variable {E : Set LaneIx} {s : State}

/-! ### A ball finished, lost or detected -/

theorem gameOf_modMachine (s : State) (l : LaneIx) (f : MachineRec → MachineRec) (t : Turn) : (s.modMachine l f).gameOf t = s.gameOf t := by
  obtain ⟨-, -, -, -, -, -, -, -, roster, -⟩ := fields_of_core (core_modMachine s l t.home f)
  rw [State.gameOf, State.bowler, roster]
  rfl

theorem sound_finishBall (h : s.turnPart.sound E) (l : LaneIx) (image : PinSet) : (s.finishBall l image).turnPart.sound E := by
  have part : (s.closeBall l).turnPart = s.turnPart.putScored l none := turnPart_putScored s l _
  have closed : (s.closeBall l).turnPart.sound E := by
    rw [part]
    exact sound_noBall h l
  simp only [State.finishBall]
  split
  · exact h
  · rename_i b ball
    split
    · rwa [turnPart_afterBall, turnPart_report]
    · rename_i orphan
      split
      · rwa [turnPart_afterBall]
      · rename_i g game
        have scored : (s.machine l).scored = some b.turn := (scored_iff _ _).2 ⟨b, ball, by simpa using orphan, rfl⟩
        rw [turnPart_afterBall]
        refine sound_recordBall closed ?_ ((gameOf_modMachine s l _ b.turn).trans game) ?_
        · exact (congrArg (fun P : TurnPart => (P.queues l).head?) part).trans (h.scored l _ scored)
        · rw [part]
          exact Function.update_self _ _ _

theorem sound_deckImage (h : s.turnPart.sound E) (l : LaneIx) (image : Vector PinState 10) : (s.deckImage l image).turnPart.sound E := by
  have answered : (s.modMachine l fun m => { m with inFlight := none }).turnPart.sound E := by rwa [turnPart_modMachine _ _ _ rfl]
  simp only [State.deckImage]
  split
  · split
    · exact h
    · split
      · rwa [turnPart_startTimer]
      · refine sound_finishBall ?_ l _
        rwa [turnPart_modMachine _ _ _ rfl]
  · exact h

/-- A ball detected is the head turn's (R102). -/
theorem sound_ballAtDeck (h : s.turnPart.sound E) (l : LaneIx) : (s.ballAtDeck l).turnPart.sound E := by
  simp only [State.ballAtDeck]
  split
  · rename_i t _ head
    rw [turnPart_trackAppend, turnPart_enter, turnPart_startTimer, turnPart_putScored]
    refine h.putScored fun u hu => ?_
    obtain rfl : t = u := Option.some.inj hu
    exact head
  · rwa [turnPart_report, turnPart_trackAppend]
  · rwa [turnPart_report, turnPart_trackAppend]

theorem turnPart_jam (s : State) (l : LaneIx) (cause : JamCause) : (s.jam l cause).turnPart = s.turnPart.putScored l none := by
  have ball : ((s.jam l cause).machine l).ball = none := by simp [State.jam, MachineRec.jam]
  rw [turnPart_putScored_of_outside (outside_jam l cause s), MachineRec.scored, ball]
  rfl

theorem sound_jam (h : s.turnPart.sound E) (l : LaneIx) (cause : JamCause) : (s.jam l cause).turnPart.sound E := by
  rw [turnPart_jam]
  exact sound_noBall h l

theorem sound_machineJam (h : s.turnPart.sound E) (l : LaneIx) (source : JamSource) : (s.machineJam l source).turnPart.sound E := by
  unfold State.machineJam
  split
  · exact sound_jam h l _
  · exact h

theorem sound_readOut (h : s.turnPart.sound E) (l : LaneIx) : (s.readOut l).turnPart.sound E := by
  unfold State.readOut
  split
  · split
    · exact sound_jam (by rwa [turnPart_runOut]) l _
    · rwa [turnPart_issueRead, turnPart_runOut]
  · exact h

theorem sound_cycleOut (h : s.turnPart.sound E) (l : LaneIx) : (s.cycleOut l).turnPart.sound E := by
  unfold State.cycleOut
  split
  · exact sound_jam (by rwa [turnPart_runOut]) l _
  · exact h

theorem sound_handEvent (h : s.turnPart.sound E) (p : PairIx) (e : BusEvent) : (s.handEvent p e).turnPart.sound E := by
  cases e <;> simp only [State.handEvent]
  case ballAtDeck side => exact sound_ballAtDeck h _
  case foul side => rwa [turnPart_foul]
  case deckImage side seq pins =>
    split
    · exact h
    · exact sound_deckImage h _ _
  case cycleDone side seq pins =>
    split
    · exact h
    · rwa [turnPart_cycleDone]
  case machineJam side cause => exact sound_machineJam h _ _
  case ballAtRack => rwa [turnPart_ballAtRack]
  case ballTaken => rwa [turnPart_ballTaken]

theorem sound_takeEvent (h : s.turnPart.sound E) (p : PairIx) (e : StationEvent) : (s.takeEvent p e).turnPart.sound E := by
  have taken : (s.modStation p fun t => { t with lastEvent := some e.seq }).turnPart.sound E := by rwa [turnPart_modStation]
  obtain e' | e' | e' := takeEvent_cases s p e <;> rw [e']
  · exact h
  · exact sound_handEvent taken p e.event
  · exact taken

theorem sound_statusIn (h : s.turnPart.sound E) (a : StatusAnswer) : (s.statusIn a).turnPart.sound E := by
  have closed : s.closeExchange.turnPart.sound E := h
  have marked (p : PairIx) : (s.closeExchange.modStation p (Station.answered a)).turnPart.sound E := by rwa [turnPart_modStation]
  unfold State.statusIn
  split
  · exact h
  · split
    · split
      · simp only [State.statusTaken]
        split
        · rw [turnPart_eventsLost]
          exact marked _
        · split
          · exact marked _
          · exact sound_takeEvent (marked _) _ _
      · exact closed
    · exact h

/-! ### Mode changes -/

theorem record_mapGames (x : Lane) {f : Game → Game} (hf : ∀ g, (f g).number = g.number) (n slot : Nat) :
    ({ x with roster := x.roster.map (Bowler.modGame n f) } : Lane).record slot
      = if x.game = n then (x.record slot).map f else x.record slot := by
  simp only [Lane.record, bowlerAt_map]
  cases bowlerAt x.roster slot with
  | none => simp
  | some b => simp [game_modGame hf]

/-- A change of every bowler's record of one game that keeps its number, its state and its balls. -/
theorem rel_mapGames (x : Lane) {f : Game → Game} (number : ∀ g, (f g).number = g.number) (n : Nat)
    (carries : n = x.game → ∀ slot g, x.record slot = some g → g.carries (f g)) (slot : Nat) :
    Option.Rel Game.carries (x.record slot) (({ x with roster := x.roster.map (Bowler.modGame n f) } : Lane).record slot) := by
  rw [record_mapGames x number]
  split
  · rename_i e
    exact rel_carries_map fun g hg => carries e.symm slot g hg
  · exact rel_carries_self _

theorem team_homeRecords (x : Lane) (home : LaneIx) :
    ({ x with startLane := home, roster := homeRecords home x.game x.roster } : Lane).team = { x.team with start := home } := by
  have rehomed (g : Game) : (if g.state = .certified then g else { g with startLane := home }).number = g.number
      ∧ (if g.state = .certified then g else { g with startLane := home }).state = g.state
      ∧ (if g.state = .certified then g else { g with startLane := home }).balls = g.balls := by
    split
    · exact ⟨rfl, rfl, rfl⟩
    · exact ⟨rfl, rfl, rfl⟩
  have record (slot : Nat) := record_mapGames x (fun g => (rehomed g).1) x.game slot
  simp only [if_true] at record
  ext : 1
  case plays =>
    funext slot
    show _ = x.team.plays slot
    rw [Bool.eq_iff_iff, plays_iff, plays_iff]
    show (∃ g, Lane.record { x with roster := x.roster.map _ } slot = some g ∧ _) ↔ _
    rw [record]
    simp only [Option.map_eq_some_iff, exists_exists_and_eq_and, (rehomed _).2.1]
  case bowled =>
    show _ = x.team.bowled
    rw [Bool.eq_iff_iff, bowled_iff, bowled_iff]
    refine exists_congr fun slot => ?_
    show (∃ g, Lane.record { x with roster := x.roster.map _ } slot = some g ∧ _) ↔ _
    rw [record]
    simp only [Option.map_eq_some_iff, exists_exists_and_eq_and, (rehomed _).2.2]
  case size => exact List.length_map _
  all_goals rfl

theorem turnPart_bringHome (s : State) (l : LaneIx) : (s.bringHome l).turnPart = s.turnPart.bringHome l := by
  simp only [State.bringHome, TurnPart.bringHome]
  split
  · rename_i e
    exact (if_pos e).symm
  · rename_i e
    refine Eq.trans ?_ (if_neg e).symm
    generalize hm : State.setQueue l _ _ = moved
    have part : moved.turnPart = (s.turnPart.putQueue (partner l) ((s.lane (partner l)).queue.filter fun t => t.home ≠ l)).putQueue l
        ((s.lane l).queue ++ (s.lane (partner l)).queue.filter fun t => t.home = l) := by
      rw [← hm, turnPart_setQueue, turnPart_setQueue]
    have team : (moved.lane l).team = (s.lane l).team := congrArg (fun P : TurnPart => P.teams l) part
    rw [turnPart_putTeam _ _ _ rfl rfl, team_homeRecords, part, team]
    rfl

theorem bringHome_putMode (l : LaneIx) (p : PairIx) (b : Bool) (P : TurnPart) :
    (P.putMode p b).bringHome l = (P.bringHome l).putMode p b := by
  by_cases e : (P.teams l).start = l
  · exact (if_pos e).trans (congrArg (TurnPart.putMode p b) (if_pos e).symm)
  · refine (if_neg e).trans (.trans ?_ (congrArg (TurnPart.putMode p b) (if_neg e).symm))
    rfl

theorem mem_allLanes (l : LaneIx) : l ∈ allLanes := by revert l; decide

/-- A lane that has not bowled: no ball of its game is recorded, and none is to be scored. -/
theorem unbowled_of_hasBowled (h : s.turnPart.sound E) {p : PairIx} (freshA : s.hasBowled (laneA p) = false) (freshB : s.hasBowled (laneB p) = false)
    {l : LaneIx} (hl : pairOf l = p) : (s.turnPart.teams l).bowled = false ∧ s.turnPart.scored l = none := by
  have fresh (k : LaneIx) (hk : pairOf k = p) : s.hasBowled k = false := by
    rcases (pairOf_eq_lanes k p).1 hk with rfl | rfl
    · exact freshA
    · exact freshB
  refine ⟨(Bool.or_eq_false_iff.1 (fresh l hl)).1, ?_⟩
  cases scored : s.turnPart.scored l with
  | none => rfl
  | some t =>
    obtain ⟨b, ball, -, rfl⟩ := (scored_iff _ t).1 scored
    have fits := h.turns l b.turn (h.mem_of_scored scored)
    have none := List.any_eq_false.1 (Bool.or_eq_false_iff.1 (fresh b.turn.home (fits.pair.trans hl))).2 l (mem_allLanes l)
    have game : b.turn.game = (s.lane b.turn.home).game := fits.game
    simp only [Option.mem_def.1 ball, game] at none
    simp at none

theorem sound_changeModeNow (h : s.turnPart.sound E) {p : PairIx} {m : PairMode} (other : m ≠ (s.pair p).mode)
    (freshA : s.hasBowled (laneA p) = false) (freshB : s.hasBowled (laneB p) = false) : (s.changeModeNow p m).turnPart.sound E := by
  simp only [State.changeModeNow]
  refine sound_retakePair ?_ p
  rw [turnPart_handOffs]
  cases m with
  | alternate =>
    dsimp only
    rw [turnPart_changeMode]
    exact h.putMode_alternate p
  | separate =>
    have mode : s.turnPart.separate p = false := decide_eq_false fun e => other e.symm
    have unbowled (l : LaneIx) (hl : pairOf l = p) := unbowled_of_hasBowled h freshA freshB hl
    have home := h.bringHome (l := laneA p) (by rwa [pairOf_laneA]) (unbowled _ (pairOf_laneA p)).1
      fun k hk => (unbowled k (hk.trans (pairOf_laneA p))).2
    have both := home.bringHome (l := laneB p) (by rwa [pairOf_laneB, bringHome_separate])
      (by rw [bringHome_teams]; exact (unbowled _ (pairOf_laneB p)).1)
      fun k hk => by rw [bringHome_scored]; exact (unbowled k (hk.trans (pairOf_laneB p))).2
    dsimp only
    rw [turnPart_bringHome, turnPart_bringHome, turnPart_changeMode, bringHome_putMode, bringHome_putMode]
    generalize hQ : (s.turnPart.bringHome (laneA p)).bringHome (laneB p) = Q at both
    have starts (l : LaneIx) (hl : pairOf l = p) : (Q.teams l).start = l := by
      rw [← hQ, bringHome_teams, bringHome_teams]
      rcases (pairOf_eq_lanes l p).1 hl with rfl | rfl
      · simp [laneA_ne_laneB]
      · simp
    refine both.putMode_separate (fun l hl t ht => ?_) fun l hl _ _ _ => starts l hl
    have fits := both.turns l t ht
    rw [← starts t.home (fits.pair.trans hl)]
    refine fits.start ?_
    rw [← hQ, bringHome_teams, bringHome_teams]
    exact (unbowled _ (fits.pair.trans hl)).1

theorem sound_cancelPending (h : s.turnPart.sound E) (p : PairIx) : (s.cancelPending p).turnPart.sound E := by
  unfold State.cancelPending
  split
  · exact sound_retakePair (by rwa [turnPart_dropPending]) p
  · exact h

theorem sound_pairMode (h : s.turnPart.sound E) (mode : Option PairMode) (p : PairIx) : (pairMode mode p s).state.turnPart.sound E := by
  unfold pairMode
  split
  · exact h
  · rename_i m
    split
    · exact sound_cancelPending h p
    · rename_i other
      split
      · exact h
      · split
        · rename_i fresh
          simp only [Bool.and_eq_true, Bool.not_eq_true'] at fresh
          exact sound_changeModeNow h other fresh.1 fresh.2
        · rwa [turnPart_modPair _ _ _ rfl]

/-! ### Records changed at the desk -/

theorem carries_correct {frame : Nat} {balls : List BallField} (valid : validFrame frame balls = true) (g : Game) :
    g.carries (g.correct frame balls) := by
  refine ⟨Iff.rfl, balls_modFrame (n := frame) (f := Frame.correct balls) (fun i h => balls_resolveFrom _ _ h) fun _ => ?_⟩
  cases balls with
  | nil =>
    simp only [validFrame, validPinfalls] at valid
    split at valid <;> simp at valid
  | cons b bs => simp [Frame.correct]

theorem sound_correctFrame (h : s.turnPart.sound E) (slot frame : Nat) (balls : List BallField) (g : Game) (l : LaneIx) :
    (correctFrame slot frame balls g l s).state.turnPart.sound E := by
  simp only [correctFrame]
  split
  · exact h
  · split
    · exact h
    · split
      · exact h
      · split
        · exact h
        · rename_i valid
          rw [turnPart_when _ _ _ rfl]
          exact sound_modGame h (fun _ => rfl) fun _ g _ => carries_correct (by simpa using valid) g

theorem sound_ackCheck (h : s.turnPart.sound E) {slot frame : Nat} (ball : Option Nat) {b : Bowler} {g : Game} {l : LaneIx}
    (bowler : s.bowler l slot = some b) {n : Nat} (game : b.game n = some g) : (ackCheck slot frame ball g l s).state.turnPart.sound E := by
  simp only [ackCheck]
  split
  · exact h
  · split
    · exact h
    · refine sound_modGame h (fun _ => rfl) fun current g' hg' => ⟨Iff.rfl, ?_⟩
      have number : g.number = n := by simpa using List.find?_some game
      have same : g' = g := by
        have record : (s.lane l).record slot = b.game (s.lane l).game := by
          rw [Lane.record, show bowlerAt (s.lane l).roster slot = some b from bowler]
          rfl
        rw [record, ← current, number, game] at hg'
        exact (Option.some.inj hg').symm
      subst same
      refine balls_modFrame (n := frame) (f := fun f => { f with balls := acknowledgeBalls ball (g'.frame frame).balls })
        (fun i h => rfl) fun had => ?_
      simpa [acknowledgeBalls] using had

theorem certify_fields (g : Game) : g.certify.number = g.number ∧ g.certify.balls = g.balls
    ∧ (g.state ≠ .inProgress → g.certify.state ≠ .inProgress) := by
  unfold Game.certify
  split
  · exact ⟨rfl, rfl, id⟩
  · exact ⟨rfl, rfl, nofun⟩

/-- Only records whose games are over are certified (R79). -/
theorem sound_certifyGame (h : s.turnPart.sound E) (game : Nat) (l : LaneIx) : (certifyGame game l s).state.turnPart.sound E := by
  simp only [certifyGame]
  split
  · exact h
  · split
    · exact h
    · rename_i finished
      split
      · exact h
      · split
        · exact h
        · refine sound_modRoster h (roster := (s.lane l).roster.map (Bowler.modGame game Game.certify)) rfl (List.length_map _)
            (rel_mapGames _ (fun g => (certify_fields g).1) game fun current slot g hg => ?_)
          obtain ⟨b, record⟩ := (record_iff _ _ _).1 hg
          rw [← current] at record
          have over' : g.state ≠ .inProgress := fun playing =>
            finished (List.any_eq_true.2 ⟨g, List.mem_map.2 ⟨_, record, rfl⟩, decide_eq_true playing⟩)
          obtain ⟨-, balls, ended⟩ := certify_fields g
          exact ⟨iff_of_false (ended over') over', fun had => by rwa [balls]⟩

end Sys2Proof.Machine
end

section
/-! SUPPORT. The requests on a roster and a queue, the sessions opened and closed, and the resets, with the condition on the
turns. -/

namespace Sys2Proof.Machine

open Function (update)

variable {s : State}

/-! ### Turns skipped, and turns taken out -/

theorem ballPendingFor_of_scored {l : LaneIx} {t : Turn} (scored : s.turnPart.scored l = some t) : s.ballPendingFor t = true := by
  obtain ⟨b, ball, -, rfl⟩ := (scored_iff _ t).1 scored
  exact List.any_eq_true.2 ⟨l, mem_allLanes l, decide_eq_true (congrArg (Option.map PendingBall.turn) ball)⟩

/-- A head turn that is not mid-frame has no ball to be scored. -/
theorem quiet_of_headIdle (h : s.turnPart.sound ∅) {l : LaneIx} (idle : s.headIdle l = true) : s.turnPart.scored l = none := by
  cases scored : s.turnPart.scored l with
  | none => rfl
  | some t =>
    have head : s.headTurn l = some t := h.scored l t scored
    simp [State.headIdle, head, State.midFrame, ballPendingFor_of_scored scored] at idle

theorem sound_skipTurn (h : s.turnPart.sound ∅) (l : LaneIx) : (skipTurn l s).state.turnPart.sound ∅ := by
  unfold skipTurn
  split
  · exact h
  · rename_i idle
    have idle : s.headIdle l = true := by simpa using idle
    split
    · rename_i t u rest queue
      rw [turnPart_handOffs, turnPart_setQueue]
      refine h.reorder ?_ (quiet_of_headIdle h idle)
      rw [show s.turnPart.queues l = t :: u :: rest from queue]
      exact List.perm_append_singleton t (u :: rest)
    · exact h

/-- The turn of a bowler is gone from the queues of its pair, and no other turn is. -/
theorem turnPart_removeTurn (h : s.turnPart.sound ∅) (l : LaneIx) (slot : Nat) (k : LaneIx) :
    (s.removeTurn l slot).turnPart.queues k = (s.turnPart.queues k).filter fun t => t.seat ≠ (l, slot) := by
  have keep (q : List Turn) : q.filter (fun t => !(decide (t.home = l) && decide (t.slot = slot))) = q.filter fun t => t.seat ≠ (l, slot) := by
    refine List.filter_congr fun t _ => ?_
    simp [Turn.seat]
  simp only [State.removeTurn, turnPart_handOffs, turnPart_setQueue, keep]
  by_cases hp : k = partner l
  · subst hp
    simp [TurnPart.putQueue]
    rfl
  · by_cases hl : k = l
    · subst hl
      simp [TurnPart.putQueue, (partner_ne k).symm]
      rfl
    · simp only [TurnPart.putQueue, Function.update_of_ne hp, Function.update_of_ne hl]
      refine (List.filter_eq_self.2 fun t ht => ?_).symm
      have away : t.seat ≠ (l, slot) := fun seat => by
        have pair := (h.turns k t ht).pair
        rw [show t.home = l from congrArg Prod.fst seat] at pair
        exact ((pairOf_eq_iff k l).1 pair.symm).elim hl hp
      exact decide_eq_true away

theorem turnPart_removeTurn_rest (l : LaneIx) (slot : Nat) : (s.removeTurn l slot).turnPart.teams = s.turnPart.teams
    ∧ (s.removeTurn l slot).turnPart.separate = s.turnPart.separate ∧ (s.removeTurn l slot).turnPart.scored = s.turnPart.scored := by
  simp only [State.removeTurn, turnPart_handOffs, turnPart_setQueue]
  exact ⟨rfl, rfl, rfl⟩

/-- A bowler's turn taken out and its record ended, where no ball of its turn is to be scored (R39, R40). -/
theorem sound_endTurn (h : s.turnPart.sound ∅) {l : LaneIx} {slot : Nat} {f : Game → Game} {g : Bowler → Bowler}
    (number : ∀ g, (f g).number = g.number) (balls : ∀ g, (f g).balls = g.balls) (ended : ∀ g, (f g).state ≠ .inProgress)
    (games : ∀ b, (g b).games = b.games) (idle : ∀ k t, s.turnPart.scored k = some t → t.seat ≠ (l, slot)) :
    ((((s.removeTurn l slot).modGame l slot (s.lane l).game f).modBowlerOf l slot g).testBoundary l).turnPart.sound ∅ := by
  refine sound_testBoundary (sound_modBowlerOf ?_ l slot games) l
  have queues := turnPart_removeTurn h l slot
  obtain ⟨teams, separate, scored⟩ := turnPart_removeTurn_rest (s := s) l slot
  generalize s.removeTurn l slot = u at queues teams separate scored
  have game : (s.lane l).game = (u.lane l).game := (congrArg (fun T => (T l).game) teams).symm
  rw [game, turnPart_endRecord u l slot number balls ended, teams]
  refine h.takeOut (home := l) (slot := slot) separate queues ?_ fun k t ht => ?_
  · rw [TurnPart.putTeam, teams]
  · have ht : s.turnPart.scored k = some t := by rw [← scored]; exact ht
    exact ⟨ht, idle k t ht⟩

/-- The turn that a bowler holds is the one turn of its seat. -/
theorem turnOf_of_mem (h : s.turnPart.sound ∅) {k : LaneIx} {t : Turn} (ht : t ∈ s.turnPart.queues k) : s.turnOf t.home t.slot = some t := by
  have pair := (h.turns k t ht).pair
  have mem : t ∈ (s.lane (laneA (pairOf t.home))).queue ++ (s.lane (laneB (pairOf t.home))).queue := by
    rw [List.mem_append, pair]
    rcases (pairOf_eq_lanes k (pairOf k)).1 rfl with e | e
    · exact .inl (e ▸ ht)
    · exact .inr (e ▸ ht)
  cases found : s.turnOf t.home t.slot with
  | none => exact absurd (List.find?_eq_none.1 found t mem) (by simp)
  | some u =>
    have seat : u.seat = t.seat := by
      have := List.find?_some found
      simp only [decide_eq_true_eq] at this
      exact Prod.ext this.1 this.2
    rcases List.mem_append.1 (List.mem_of_find?_eq_some found) with hu | hu
    · rw [(h.once_of_seat ht (k := laneA (pairOf t.home)) hu seat).2]
    · rw [(h.once_of_seat ht (k := laneB (pairOf t.home)) hu seat).2]

theorem sound_withdrawBowler (h : s.turnPart.sound ∅) (slot : Nat) (b : Bowler) (l : LaneIx) :
    (withdrawBowler slot b l s).state.turnPart.sound ∅ := by
  simp only [withdrawBowler]
  split
  · exact h
  · split
    · exact h
    · rename_i idle
      simp only [State.withdrawBowler]
      split
      · refine sound_endTurn h (fun _ => rfl) (fun _ => rfl) nofun (fun _ => rfl) fun k t scored seat => idle ?_
        obtain ⟨rfl, rfl⟩ := Prod.mk.inj seat
        rw [State.bowlerMidFrame, turnOf_of_mem h (h.mem_of_scored scored)]
        simp [State.midFrame, ballPendingFor_of_scored scored]
      · exact sound_modBowlerOf h l slot fun _ => rfl

theorem sound_markBlind (h : s.turnPart.sound ∅) (slot : Nat) (b : Bowler) (l : LaneIx) :
    (markBlind slot b l s).state.turnPart.sound ∅ := by
  simp only [markBlind]
  split
  · exact h
  · split
    · exact h
    · split
      · exact h
      · rename_i fresh
        split
        · refine sound_endTurn h (fun _ => rfl) (fun _ => rfl) nofun (fun _ => rfl) fun k t scored seat => fresh ?_
          obtain ⟨rfl, rfl⟩ := Prod.mk.inj seat
          have game : t.game = (s.lane t.home).game := (h.turns k t (h.mem_of_scored scored)).game
          obtain ⟨ball, hball, -, rfl⟩ := (scored_iff _ t).1 scored
          refine Bool.or_eq_true_iff.2 (.inr (List.any_eq_true.2 ⟨k, mem_allLanes k, ?_⟩))
          simp [Option.mem_def.1 hball, game]
        · exact sound_modBowlerOf h l slot fun _ => rfl

end Sys2Proof.Machine
end

section
/-! SUPPORT. Rosters grown, sessions opened and closed, and the resets, with the condition on the turns. -/

namespace Sys2Proof.Machine

open Function (update)

variable {s : State}

/-! ### A bowler added -/

theorem bowlerAt_append_last (roster : List Bowler) (b : Bowler) : bowlerAt (roster ++ [b]) (roster.length + 1) = some b := by
  simp [bowlerAt]

/-- The bowlers of a roster grown by one: those that were in it, and the new one. -/
theorem bowlerAt_append_one (roster : List Bowler) (b : Bowler) (slot : Nat) :
    bowlerAt (roster ++ [b]) slot = if slot = roster.length + 1 then some b else bowlerAt roster slot := by
  split
  · rename_i e
    rw [e, bowlerAt_append_last]
  · by_cases h : slot ≤ roster.length
    · exact bowlerAt_append_left h
    · rw [bowlerAt_none _ (by simp only [List.length_append, List.length_singleton]; omega), bowlerAt_none _ (by omega)]

theorem record_append (x : Lane) (b : Bowler) (slot : Nat) : ({ x with roster := x.roster ++ [b] } : Lane).record slot
    = if slot = x.roster.length + 1 then b.game x.game else x.record slot := by
  simp only [Lane.record, bowlerAt_append_one]
  split <;> rfl

theorem record_none (x : Lane) {slot : Nat} (h : x.roster.length < slot) : x.record slot = none := by
  rw [Lane.record, bowlerAt_none _ h]
  rfl

theorem game_startGame_new (c : ScoreSettings) (number : Nat) (start : LaneIx) (v : SlotView) :
    ((bowlerOf v).startGame c number start).game number = some (Game.start c number start v.average v.fixed false) := by
  simp [Bowler.startGame, Bowler.addGame, bowlerOf, Bowler.game, Game.start, Config.gameSlots]

/-- A new bowler in play, its turn at the tail of its team's start lane's queue (R37). -/
theorem sound_joined {P : TurnPart} (h : P.sound ∅) {l : LaneIx} {x : Lane} (team : P.teams l = x.team) (isOpen : x.session = .open_)
    (unmarked : x.boundary = .unmarked) (unbowled : x.team.bowled = false) (room : x.roster.length < 8) {b : Bowler} {g : Game}
    (game : b.game x.game = some g) (playing : g.state = .inProgress) :
    ((P.putTeam l ({ x with roster := x.roster ++ [b] } : Lane).team).putQueue x.startLane
      (P.queues x.startLane ++ [⟨l, x.roster.length + 1, x.game, 1⟩])).sound ∅ := by
  have plays (slot : Nat) : ({ x with roster := x.roster ++ [b] } : Lane).team.plays slot = true
      ↔ slot = x.roster.length + 1 ∨ x.team.plays slot = true := by
    rw [plays_iff, plays_iff, record_append]
    by_cases e : slot = x.roster.length + 1
    · simp [e, game, playing]
    · simp [e]
  have marked : (P.teams l).reached = false := by rw [team]; exact decide_eq_false (by rw [unmarked]; nofun)
  have opened : (P.teams l).isOpen = true := by rw [team]; exact decide_eq_true isOpen
  have start : (P.teams l).start = x.startLane := by rw [team]; rfl
  refine h.join (T := ({ x with roster := x.roster ++ [b] } : Lane).team) (decide_eq_true isOpen) (by rw [← marked, team]; rfl)
    (by rw [← h.home l, start]; rfl) (fun mode => ?_) ?_ (fun k t ht home => ?_) (fun u hu => ?_) (List.nodup_singleton _)
    (fun u hu seat => ?_) fun slot playing => ?_
  · exact start.symm.trans (h.starts l nofun opened marked mode)
  · simp only [Lane.team, List.length_append, List.length_singleton]
    omega
  · have fits := h.turns k t ht
    obtain ⟨-, -, fitsGame, -, -, fitsPlays, -, fitsStart⟩ := fits
    rw [home, team] at fitsGame fitsPlays fitsStart
    exact ⟨fitsGame, (plays _).2 (.inr fitsPlays), fun _ => fitsStart unbowled⟩
  · obtain rfl := List.mem_singleton.1 hu
    exact ⟨rfl, rfl, rfl, (plays _).2 (.inl rfl)⟩
  · obtain rfl := List.mem_singleton.1 hu
    obtain ⟨k, -, t, ht, e⟩ := (mem_seats P l _).1 seat
    have played := (h.turns k t ht).plays
    obtain ⟨home, slot⟩ := Prod.mk.inj e
    rw [home, slot, team] at played
    obtain ⟨g, record, -⟩ := (plays_iff x _).1 played
    rw [record_none x (Nat.lt_succ_self _)] at record
    cases record
  · rcases (plays slot).1 playing with rfl | was
    · exact .inl ⟨_, List.mem_singleton.2 rfl, rfl⟩
    · exact .inr (h.seated l nofun opened slot (by rwa [team]))

theorem sound_addBowler (h : s.turnPart.sound ∅) {l : LaneIx} (v : SlotView) (isOpen : (s.lane l).session = .open_)
    (room : (s.lane l).roster.length < 8) : (s.addBowler l v).turnPart.sound ∅ := by
  simp only [State.addBowler]
  cases join : s.joinsNow l with
  | false =>
    simp only [State.when, Bool.false_eq_true, if_false, turnPart_modAccount]
    rw [turnPart_putTeam _ _ _ rfl rfl]
    refine sound_records h rfl (by simpa using room) fun slot => ?_
    rw [record_append]
    split
    · rename_i e
      rw [e, record_none _ (Nat.lt_succ_self _)]
      exact .none
    · exact rel_carries_self _
  | true =>
    simp only [State.joinsNow, Bool.and_eq_true, Bool.not_eq_true', decide_eq_true_eq] at join
    obtain ⟨fresh, unmarked⟩ := join
    simp only [State.when, if_true, turnPart_handOffs, turnPart_setQueue]
    generalize ha : State.modAccount l _ _ = a
    have part : a.turnPart = s.turnPart.putTeam l ({ s.lane l with roster := (s.lane l).roster
        ++ [(bowlerOf v).startGame (s.lane l).settings (s.lane l).game (s.lane l).startLane] } : Lane).team := by
      rw [← ha, turnPart_modAccount, turnPart_putTeam _ _ _ rfl rfl]
    have queue : (a.lane (s.lane l).startLane).queue = s.turnPart.queues (s.lane l).startLane :=
      congrArg (fun P : TurnPart => P.queues (s.lane l).startLane) part
    rw [queue, part]
    exact sound_joined h rfl isOpen unmarked (Bool.or_eq_false_iff.1 fresh).1 room (game_startGame_new _ _ _ v) rfl

theorem sound_addBowlerRequest (h : s.turnPart.sound ∅) (f : AddBowlerFields) {l : LaneIx} (running : (s.lane l).session.running = true) :
    (addBowler f l s).state.turnPart.sound ∅ := by
  simp only [addBowler]
  split
  · exact h
  · rename_i playing
    split
    · exact h
    · rename_i room
      refine sound_addBowler h _ ?_ (Nat.lt_of_not_le room)
      cases e : (s.lane l).session
      · simp [e, SessionState.running] at running
      · rfl
      · exact absurd e playing

/-! ### Sessions opened -/

theorem turnPart_of_putTeam {t : State} {P : TurnPart} {l : LaneIx} {T : Team} (e : t.turnPart = P.putTeam l T) :
    t.turnPart = P.putTeam l (t.lane l).team := by
  have team : (t.lane l).team = T := (congrArg (fun P : TurnPart => P.teams l) e).trans (Function.update_self _ _ _)
  rw [team, e]

theorem sound_openLane (h : s.turnPart.sound ∅) {l : LaneIx} (closed : (s.lane l).session ≠ .open_) (c : SessionSettings) (mode : BillingMode)
    {roster : List SlotView} (size : roster.length ≤ 8) : (s.openLane l c mode roster).turnPart.sound ∅ := by
  have core := core_admitted s l c
  have session : ((s.admitted l c).lane l).session = .open_ := (congrArg Lane.session core :)
  have game : ((s.admitted l c).lane l).game = 1 := (congrArg Lane.game core :)
  have start : ((s.admitted l c).lane l).startLane = l := (congrArg Lane.startLane core :)
  have boundary : ((s.admitted l c).lane l).boundary = .unmarked := (congrArg Lane.boundary core :)
  clear core
  have part : (s.admitted l c).turnPart = s.turnPart.putTeam l ((s.admitted l c).lane l).team := by
    exact turnPart_of_putTeam (by
      rw [State.admitted, turnPart_clearReason, turnPart_setSession, turnPart_putTeam _ _ _ rfl rfl, putTeam_putTeam])
  rw [openLane_eq, turnPart_handHead, turnPart_modLane _ _ _ rfl rfl rfl, turnPart_reportHead, State.seated, turnPart_setQueue,
    turnPart_putTeam _ _ _ rfl rfl, ← frameOneTurns_openRoster c]
  generalize s.admitted l c = u at *
  have queue : (u.lane l).queue = s.turnPart.queues l := congrArg (fun P : TurnPart => P.queues l) part
  rw [part, putTeam_putTeam]
  rw [queue]
  exact sound_seated h (l := l) (x := { u.lane l with roster := openRoster c l roster }) session boundary start game rfl (fun _ => rfl)
    (by simpa [openRoster] using size) (h.gone_of_closed (decide_eq_false closed))

end Sys2Proof.Machine
end

section
/-! SUPPORT. Sessions closed and the resets, with the condition on the turns. -/

namespace Sys2Proof.Machine

open Function (update)

variable {s : State}

/-! ### The turns of a closing lane -/

theorem turnPart_orphan (s : State) (l : LaneIx) : (s.orphan l).turnPart = s.turnPart.putScored l none := by
  rw [State.orphan, turnPart_putScored]
  congr 1
  cases (s.machine l).ball <;> simp [MachineRec.scored, Option.filter]

/-- After the balls of a closing lane are orphaned, no ball to be scored is of its bowlers (R9). -/
theorem sound_orphanBalls (h : s.turnPart.sound ∅) (c : LaneIx) : (s.orphanBalls c).turnPart.sound ∅
    ∧ (s.orphanBalls c).turnPart.scored c = none
    ∧ ∀ t, (s.orphanBalls c).turnPart.scored (partner c) = some t → t.home ≠ c := by
  have first := sound_noBall h c
  simp only [State.orphanBalls]
  by_cases away : ((s.pair (pairOf c)).mode = .alternate && ((s.machine (partner c)).ball.map (·.turn.home)) = some c) = true
  · simp only [State.when, away, if_true, turnPart_orphan]
    exact ⟨first.putScored nofun, by simp [TurnPart.putScored, (partner_ne c).symm], by simp [TurnPart.putScored]⟩
  · simp only [State.when, away, Bool.false_eq_true, if_false, turnPart_orphan]
    refine ⟨first, by simp [TurnPart.putScored], fun t ht home => away ?_⟩
    have scored : s.turnPart.scored (partner c) = some t := by simpa [TurnPart.putScored, partner_ne] using ht
    obtain ⟨b, ball, -, rfl⟩ := (scored_iff _ t).1 scored
    have alternate : (s.pair (pairOf c)).mode = .alternate := by
      cases mode : (s.pair (pairOf c)).mode with
      | alternate => rfl
      | separate =>
        have atHome := (h.turns _ _ (h.mem_of_scored scored)).atHome (by rw [pairOf_partner]; exact decide_eq_true mode)
        exact absurd (atHome.symm.trans home) (partner_ne c)
    simp [alternate, Option.mem_def.1 ball, home]

theorem turnPart_revertTurns (s : State) (c : LaneIx) :
    (s.revertTurns c).turnPart = s.turnPart.clearSeparate c ∨ (s.revertTurns c).turnPart = s.turnPart.clearAlternate c := by
  simp only [State.revertTurns]
  split
  · left
    rw [turnPart_dropPending, turnPart_setQueue, turnPart_setQueue, turnPart_putTeam _ _ _ rfl rfl]
    rfl
  · right
    rw [turnPart_changeMode, turnPart_putTeam _ _ _ rfl rfl]
    generalize hu : State.setQueue c _ _ = u
    have part : u.turnPart = ((s.turnPart.putTeam c { s.turnPart.teams c with reached := false }).putQueue (partner c)
        ((s.lane (partner c)).queue.filter (fun t => t.home ≠ c) ++ (s.lane c).queue.filter fun t => t.home ≠ c)).putQueue c [] := by
      rw [← hu, turnPart_setQueue, turnPart_setQueue, turnPart_putTeam _ _ _ rfl rfl]
      rfl
    have team : (u.lane (partner c)).team = s.turnPart.teams (partner c) := by
      refine (congrArg (fun P : TurnPart => P.teams (partner c)) part).trans ?_
      exact Function.update_of_ne (partner_ne c) _ _
    have start : ({ u.lane (partner c) with startLane := partner c } : Lane).team = { s.turnPart.teams (partner c) with start := partner c } := by
      rw [← team]
      rfl
    rw [start, part]
    rfl

theorem sound_vacated (h : s.turnPart.sound ∅) (c : LaneIx) : (s.vacated c).turnPart.sound {c} := by
  obtain ⟨orphaned, own, other⟩ := sound_orphanBalls h c
  rw [State.vacated, closeTurns_alone]
  refine sound_startAlone ?_ (partner c)
  rw [turnPart_handOffs]
  rcases turnPart_revertTurns (s.orphanBalls c) c with e | e <;> rw [e]
  · exact orphaned.clearSeparate own other
  · exact orphaned.clearAlternate own other

theorem queues_turnPart (s : State) (l : LaneIx) : s.turnPart.queues l = (s.lane l).queue := rfl

/-- No turn of the closing lane's bowlers stands. -/
theorem gone_vacated (h : s.turnPart.sound ∅) (c : LaneIx) : ∀ k, ∀ t ∈ (s.vacated c).turnPart.queues k, t.home ≠ c := by
  intro k t ht home
  have pair := ((sound_vacated h c).turns k t ht).pair
  rw [home] at pair
  rcases (pairOf_eq_iff k c).1 pair.symm with rfl | rfl
  · obtain ⟨queue, away, core⟩ := core_vacated s k
    obtain ⟨-, -, -, -, -, -, e, -⟩ := fields_of_core core
    rw [queues_turnPart, e] at ht
    exact away t ht home
  · rw [queues_turnPart, State.vacated] at ht
    exact home_closeTurns_partner (s.orphanBalls c) c t ht home

/-! ### Lanes closed -/

theorem turnPart_setLastRoster (s : State) (l : LaneIx) : (s.modLane l fun x => { x with lastRoster := true }).turnPart = s.turnPart :=
  turnPart_modLane s l _ rfl rfl rfl

theorem turnPart_settled (s : State) (l : LaneIx) :
    (s.settled l).turnPart = s.turnPart.putTeam l ({ s.lane l with roster := withdrawRecords (s.lane l).roster } : Lane).team := by
  rw [State.settled, turnPart_finalise, turnPart_putTeam _ _ _ rfl rfl]

theorem turnPart_closeLane (s : State) (l : LaneIx) :
    (s.closeLane l).turnPart = (s.vacated l).turnPart.putTeam l ((s.closeLane l).lane l).team :=
  turnPart_of_putTeam (by
    rw [closeLane_eq, State.shut, turnPart_setSession, turnPart_setLastRoster, turnPart_raiseReason, turnPart_clearReason,
      turnPart_settled, putTeam_putTeam])

theorem team_of_turnPart {s t : State} (h : t.turnPart = s.turnPart) (l : LaneIx) : (t.lane l).team = (s.lane l).team :=
  congrArg (fun P : TurnPart => P.teams l) h

@[simp] theorem turnPart_closeStandby (s : State) (l : LaneIx) : (s.closeStandby l).turnPart = s.turnPart := by
  simp [State.closeStandby]

theorem team_closeLane (s : State) (l : LaneIx) : ((s.closeLane l).lane l).team.isOpen = false
    ∧ ((s.closeLane l).lane l).team.reached = false ∧ ((s.closeLane l).lane l).team.start = (s.lane l).startLane
    ∧ ((s.closeLane l).lane l).team.size = (s.lane l).roster.length := by
  obtain ⟨queue, account, -, -, core⟩ := core_closeSession s l
  obtain ⟨session, -, -, -, start, boundary, -, -, roster, -⟩ := fields_of_core core
  have team : ((s.closeSession l).lane l).team = ((s.closeLane l).lane l).team := team_of_turnPart (turnPart_closeStandby _ l) l
  rw [← team]
  simp only [Lane.team, session, start, boundary, roster]
  exact ⟨rfl, rfl, rfl, List.length_map _⟩

theorem sound_closeLane (h : s.turnPart.sound ∅) (l : LaneIx) : (s.closeLane l).turnPart.sound ∅ := by
  obtain ⟨closed, unmarked, start, size⟩ := team_closeLane s l
  rw [turnPart_closeLane]
  exact (sound_vacated h l).leave closed unmarked (by rw [start]; exact h.home l) (by rw [size]; exact h.size l) (gone_vacated h l) (by simp)

theorem sound_closeSession (h : s.turnPart.sound ∅) (l : LaneIx) : (s.closeSession l).turnPart.sound ∅ := by
  rw [State.closeSession, turnPart_closeStandby]
  exact sound_closeLane h l

theorem turnPart_endSession (s : State) (l : LaneIx) : (s.endSession l).turnPart = (s.closeLane l).turnPart := turnPart_report _ _

theorem sound_endSession (h : s.turnPart.sound ∅) (l : LaneIx) : (s.endSession l).turnPart.sound ∅ := by
  rw [turnPart_endSession]
  exact sound_closeLane h l

/-! ### Resets -/

/-- With every lane closed at home and the queues empty, no turn is wanted. -/
theorem sound_reset_turns {P : TurnPart} (teams : ∀ l, (P.teams l).isOpen = false ∧ (P.teams l).start = l ∧ (P.teams l).reached = false
    ∧ (P.teams l).size ≤ 8) (queues : ∀ l, P.queues l = []) (scored : ∀ l, P.scored l = none) : P.sound ∅ := by
  refine ⟨fun l => by rw [(teams l).2.1], fun l t ht => ?_, fun l => ?_, fun l _ isOpen => ?_, fun l reached => ?_, fun l _ isOpen => ?_,
    fun l => (teams l).2.2.2, fun l t ht => ?_⟩
  · rw [queues] at ht
    cases ht
  · simp [TurnPart.seats, queues]
  · exact absurd ((teams l).1.symm.trans isOpen) nofun
  · exact absurd ((teams l).2.2.1.symm.trans reached) nofun
  · exact absurd ((teams l).1.symm.trans isOpen) nofun
  · exact absurd ((scored l).symm.trans ht) nofun

theorem sound_initial {t : State} (lanes : ∀ l, ∃ raised health, t.lane l = Lane.initial l raised health) : t.turnPart.sound ∅ := by
  refine sound_reset_turns (fun l => ?_) (fun l => ?_) fun l => ?_
  all_goals obtain ⟨raised, health, e⟩ := lanes l
  · simp only [State.turnPart, e]
    exact ⟨rfl, rfl, rfl, Nat.zero_le _⟩
  · simp only [State.turnPart, e]
    rfl
  · simp only [State.turnPart, State.machine, e]
    rfl

theorem sound_powerOn (rate1 rate0 : Bool) : (s.poweredOn rate1 rate0).turnPart.sound ∅ :=
  sound_initial fun l => ⟨_, _, lane_powerOn rate1 rate0 l⟩

theorem sound_lineReset (rate1 rate0 : Bool) : (s.lineReset rate1 rate0).turnPart.sound ∅ :=
  sound_initial fun l => ⟨_, _, lane_lineReset rate1 rate0 s l⟩

/-- A lane that goes on alone opens no session. -/
theorem isOpen_startAlone {l k : LaneIx} (h : ((s.startAlone l).turnPart.teams k).isOpen = true) : (s.turnPart.teams k).isOpen = true := by
  by_cases e : k = l
  · subst e
    unfold State.startAlone at h
    split at h
    · exact h
    · split at h
      · rw [turnPart_endSeries] at h
        simp [TurnPart.putTeam] at h
      · split at h
        · exact h
        · rw [turnPart_handOffs, turnPart_beginGame] at h
          simp only [TurnPart.putTeam, TurnPart.putQueue, Function.update_self] at h
          exact h
  · have lane := lane_startAlone_ne e s
    exact (congrArg (fun x : Lane => x.team.isOpen) lane).symm.trans h

theorem isOpen_revertTurns (s : State) (c k : LaneIx) : ((s.revertTurns c).turnPart.teams k).isOpen = (s.turnPart.teams k).isOpen := by
  rcases turnPart_revertTurns s c with e | e <;> rw [e]
  · by_cases h : k = c <;> simp [TurnPart.clearSeparate, TurnPart.putQueue, TurnPart.putTeam, h]
  · rw [clearAlternate_team]

/-- A session ended is closed, and no other is opened. -/
theorem isOpen_endSession {l k : LaneIx} (h : ((s.endSession l).turnPart.teams k).isOpen = true) :
    k ≠ l ∧ (s.turnPart.teams k).isOpen = true := by
  obtain ⟨closed, -⟩ := team_closeLane s l
  rw [turnPart_endSession, turnPart_closeLane] at h
  have away : k ≠ l := by
    rintro rfl
    simp [TurnPart.putTeam, closed] at h
  refine ⟨away, ?_⟩
  simp only [TurnPart.putTeam, Function.update_of_ne away] at h
  rw [State.vacated, closeTurns_alone] at h
  have opened := isOpen_startAlone h
  rw [turnPart_handOffs, isOpen_revertTurns] at opened
  rwa [orphanBalls_keeps (fun s => (s.turnPart.teams k).isOpen) l fun s j f _ => by rw [turnPart_putScored]; rfl] at opened

theorem each_cons {α : Type} (s : State) (x : α) (xs : List α) (f : α → State → State) : s.each (x :: xs) f = (f x s).each xs f := rfl

/-- After the sessions of some lanes are ended, those lanes are closed, and no lane is opened. -/
theorem isOpen_endSessions (ls : List LaneIx) {k : LaneIx} (h : ((s.each ls State.endSession).turnPart.teams k).isOpen = true) :
    k ∉ ls ∧ (s.turnPart.teams k).isOpen = true := by
  induction ls generalizing s with
  | nil => exact ⟨List.not_mem_nil, h⟩
  | cons l ls ih =>
    rw [each_cons] at h
    obtain ⟨rest, was⟩ := ih h
    obtain ⟨away, first⟩ := isOpen_endSession was
    exact ⟨List.not_mem_cons_of_ne_of_not_mem away rest, first⟩

theorem sound_resetCentre (h : s.turnPart.sound ∅) : s.resetCentre.turnPart.sound ∅ := by
  have ended : (s.each s.runningLanes State.endSession).turnPart.sound ∅ :=
    State.each_preserves (fun t : State => t.turnPart.sound ∅) _ _ (fun l _ t ht => sound_endSession (s := t) ht l) s h
  have closed (k : LaneIx) : ((s.each s.runningLanes State.endSession).turnPart.teams k).isOpen = false := by
    refine Bool.eq_false_iff.2 fun isOpen => ?_
    obtain ⟨out, was⟩ := isOpen_endSessions _ isOpen
    refine out (List.mem_filter.2 ⟨mem_allLanes k, ?_⟩)
    rw [(isOpen_iff s k).1 was]
    rfl
  have lane := lane_resetCentre s
  generalize s.each s.runningLanes State.endSession = u at ended closed lane
  generalize s.resetCentre = t at lane ⊢
  refine sound_reset_turns (fun l => ?_) (fun l => ?_) fun l => ?_
  · have team : t.turnPart.teams l = (Lane.centreReset l (u.lane l)).team := congrArg Lane.team (lane l)
    rw [team]
    exact ⟨closed l, rfl, rfl, ended.size l⟩
  · exact congrArg Lane.queue (lane l)
  · exact congrArg (fun x : Lane => x.machine.scored) (lane l)

end Sys2Proof.Machine
end

section
/-! SUPPORT. The requests, the commands and each step, with the condition on the turns. -/

namespace Sys2Proof.Machine

variable {s : State}

/-! ### The requests -/

theorem checkRunning_preserves_of_running {P : State → Prop} {s : State} (agrees : Bool) (l : LaneIx) {k : LaneIx → State → Answer}
    (hs : P s) (hk : (s.lane l).session.running = true → P (k l s).state) : P (checkRunning agrees k l s).state := by
  unfold checkRunning
  split
  · rename_i running
    exact checkLength_preserves agrees hs (hk running)
  · exact hs

theorem checkOpenRecord_preserves_of_record {P : State → Prop} {s : State} (slot game : Nat) (l : LaneIx)
    {k : Bowler → Game → LaneIx → State → Answer} (hs : P s)
    (hk : ∀ b g, s.bowler l slot = some b → b.game game = some g → P (k b g l s).state) : P (checkOpenRecord slot game k l s).state := by
  simp only [checkOpenRecord, checkRecord, checkSlot]
  split
  · exact hs
  · split
    · exact hs
    · split
      · exact hs
      · exact hk _ _ ‹_› ‹_›

theorem sound_openSession (h : s.turnPart.sound ∅) (agrees : Bool) (f : OpenFields) (l : LaneIx) :
    (openSession agrees f l s).state.turnPart.sound ∅ := by
  unfold openSession
  split
  · exact h
  · rename_i closed
    split
    · exact h
    · rename_i size
      split
      · exact h
      · split
        · exact h
        · simp only [Config.rosterMax, Bool.or_eq_true, decide_eq_true_eq, not_or] at size
          dsimp only
          refine sound_openLane h (fun e => closed ?_) _ _ ?_
          · rw [e]
            rfl
          · rw [List.length_map]
            omega

theorem turnPart_addCredit (amount : Nat) (l : LaneIx) (s : State) : (addCredit amount l s).state.turnPart = s.turnPart := by
  unfold addCredit
  repeat' split
  · rfl
  · rfl
  · rfl
  · simp

@[simp] theorem turnPart_pendPowerOff (pend : Bool) (l : LaneIx) (s : State) : (s.pendPowerOff pend l).turnPart = s.turnPart :=
  turnPart_modMachine s l _ rfl

theorem turnPart_powerOn (l : LaneIx) (s : State) : (powerOn l s).state.turnPart = s.turnPart := by
  unfold powerOn powerAnswer
  repeat' split
  all_goals simp [refuse]

theorem turnPart_powerOff (l : LaneIx) (s : State) : (powerOff l s).state.turnPart = s.turnPart := by
  unfold powerOff powerAnswer
  repeat' split
  all_goals simp [refuse]

theorem turnPart_clearJam (l : LaneIx) (s : State) : (clearJam l s).state.turnPart = s.turnPart := by
  unfold clearJam
  split <;> simp [refuse]

theorem turnPart_modMachine_of_ball (s : State) (l : LaneIx) (f : MachineRec → MachineRec)
    (h : (f (s.machine l)).ball = (s.machine l).ball) : (s.modMachine l f).turnPart = s.turnPart :=
  turnPart_modMachine s l f (scored_of_ball s l h)

theorem turnPart_takeOut (l : LaneIx) (s : State) : (takeOut l s).state.turnPart = s.turnPart := by
  unfold takeOut serviceAnswer
  repeat' split
  all_goals simp [turnPart_modMachine_of_ball]

theorem turnPart_bringIn (l : LaneIx) (s : State) : (bringIn l s).state.turnPart = s.turnPart := by
  unfold bringIn serviceAnswer
  repeat' split
  all_goals simp [turnPart_modMachine_of_ball]

theorem turnPart_setHealth (f : HealthFields) (l : LaneIx) (s : State) : (setHealth f l s).state.turnPart = s.turnPart := by
  simp [setHealth]

theorem turnPart_holdLane (l : LaneIx) (s : State) : (holdLane l s).state.turnPart = s.turnPart := by
  unfold holdLane
  repeat' split
  all_goals simp [refuse]

theorem turnPart_releaseLane (l : LaneIx) (s : State) : (releaseLane l s).state.turnPart = s.turnPart := by
  unfold releaseLane
  split <;> simp

theorem turnPart_returnStatus (threshold timeout : Option Nat) (p : PairIx) (s : State) :
    (returnStatus threshold timeout p s).state.turnPart = s.turnPart := by
  simp only [returnStatus]
  split
  · rfl
  · rw [turnPart_when _ _ _ (turnPart_pauseTest _ _), turnPart_modReturn]

theorem turnPart_clearReturnJam (balls : Nat) (p : PairIx) (s : State) : (clearReturnJam balls p s).state.turnPart = s.turnPart := by
  simp only [clearReturnJam]
  repeat' split
  all_goals simp [refuse]

theorem sound_clearHold (h : s.turnPart.sound ∅) : s.clearHold.turnPart.sound ∅ :=
  State.each_preserves (fun t : State => t.turnPart.sound ∅) allPairs State.retakePair (fun p _ t ht => sound_retakePair (s := t) ht p) _ h

theorem sound_endSilence (h : s.turnPart.sound ∅) : s.endSilence.turnPart.sound ∅ := by
  simp only [State.endSilence]
  split
  · exact h
  · exact sound_clearHold h

theorem sound_receive (h : s.turnPart.sound ∅) (kind tag : Byte) (body : List Byte) (check : Byte) :
    (s.receive kind tag body check).turnPart.sound ∅ := by
  unfold State.receive
  split
  · exact h
  · exact h
  · rw [turnPart_modLink]
    split
    · exact h
    · split
      · exact h
      · exact sound_endSilence h

@[simp] theorem turnPart_badByte (s : State) (place : FaultPlace) : (s.badByte place).turnPart = s.turnPart := by
  unfold State.badByte
  split <;> rfl

@[simp] theorem turnPart_badLength (s : State) : s.badLength.turnPart = s.turnPart := by
  unfold State.badLength
  split <;> rfl

@[simp] theorem turnPart_gap (s : State) (tag : Option Byte) : (s.gap tag).turnPart = s.turnPart := by
  unfold State.gap
  split <;> rfl

@[simp] theorem turnPart_huntByte (s : State) (b : Byte) : (s.huntByte b).turnPart = s.turnPart := by
  unfold State.huntByte
  repeat' split
  all_goals rfl

@[simp] theorem turnPart_refuseUnknown (s : State) : s.refuseUnknown.turnPart = s.turnPart := by
  unfold State.refuseUnknown
  repeat' split
  all_goals rfl

/-! ### The commands -/

theorem turnsSound_of {s t : State} (h : s.turnPart.sound ∅ → t.turnPart.sound ∅) (hs : s.turnsSound) : t.turnsSound :=
  (turnsSound_iff t).2 (h ((turnsSound_iff s).1 hs))

/-- Every command keeps the turns sound: a request through its checks, any other by what its meaning does. -/
theorem turnsSound_exec (c : Instr) (h : s.turnsSound) : ∃ t, exec c s = .next t ∧ t.turnsSound := by
  have drained : s.drain.turnsSound := turnsSound_of_turnPart (turnPart_drain s) h
  have live {f : State → State} (hf : ∀ t : State, t.turnsSound → (f t).turnsSound) : (State.live f s).turnsSound :=
    live_preserves h drained hf
  have still {f : State → State} (hf : ∀ t : State, (f t).turnPart = t.turnPart) : (State.live f s).turnsSound :=
    live fun t => turnsSound_of_turnPart (hf t)
  have request (kind : RequestKind) {f : List Byte → State → Answer}
      (hf : ∀ (body : List Byte) (t : State), t.turnsSound → (f body t).state.turnsSound) :
      (State.live (State.carryOut kind f) s).turnsSound :=
    live fun t ht => carryOut_preserves kind ht (fun _ _ hu => turnsSound_of_turnPart (turnPart_modLink _ _) hu) fun body => hf body t ht
  have part {t : State} (ht : t.turnsSound) : (if s.held then s else t).turnsSound := by
    split
    · exact h
    · exact ht
  have tell {t : State} {f : Link → Link} (ht : t.turnsSound) : (t.modLink f).turnsSound := turnsSound_of_turnPart (turnPart_modLink t f) ht
  cases c with
  | powerOn rate1 rate0 => exact ⟨_, rfl, (turnsSound_iff _).2 (sound_powerOn rate1 rate0)⟩
  | resetLine rate1 rate0 => exact ⟨_, rfl, (turnsSound_iff _).2 (sound_lineReset rate1 rate0)⟩
  | resetLineAsserted => exact ⟨_, rfl, live fun _ ht => ht⟩
  | frameReceived kind tag body check => exact ⟨_, rfl, live fun _ ht => turnsSound_of (fun h => sound_receive h kind tag body check) ht⟩
  | byteFault place => exact ⟨_, rfl, still fun t => turnPart_badByte t place⟩
  | lengthFault len =>
    refine ⟨_, rfl, still fun t => ?_⟩
    split
    · rfl
    · exact turnPart_badLength t
  | gapFault tag => exact ⟨_, rfl, still fun t => turnPart_gap t tag⟩
  | huntStartByte byte => exact ⟨_, rfl, still fun t => turnPart_huntByte t byte⟩
  | transmitFrameStart => exact ⟨_, rfl, live fun _ => tell⟩
  | transmitFrameEnd => exact ⟨_, rfl, live fun _ => tell⟩
  | unknownKind => exact ⟨_, rfl, still turnPart_refuseUnknown⟩
  | ping => exact ⟨_, rfl, request _ fun _ _ ht => checkLength_preserves _ ht ht⟩
  | status => exact ⟨_, rfl, request _ fun _ _ ht => checkLength_preserves _ ht (tell ht)⟩
  | peek => exact ⟨_, rfl, request _ fun _ _ ht => checkLength_preserves _ ht ht⟩
  | resetCentre =>
    refine ⟨_, rfl, live fun t ht => resetRequest_preserves _ _ ht (fun _ _ => tell) fun force => ?_⟩
    split
    · exact ht
    · exact turnsSound_of sound_resetCentre ht
  | resetLink =>
    exact ⟨_, rfl, live fun t ht => resetRequest_preserves _ _ ht (fun _ _ => tell) fun force => tell ht⟩
  | setLink =>
    refine ⟨_, rfl, request _ fun _ _ ht => ?_⟩
    split
    · exact tell ht
    · exact ht
  | getLink => exact ⟨_, rfl, request _ fun _ _ ht => checkLength_preserves _ ht ht⟩
  | setClock agrees fields =>
    refine ⟨_, rfl, request _ fun _ _ ht => checkLength_preserves _ ht ?_⟩
    split
    · exact turnsSound_of_turnPart (rfl) ht
    · exact ht
  | getClock => exact ⟨_, rfl, request _ fun _ _ ht => checkLength_preserves _ ht ht⟩
  | setTariff agrees weekday weekend =>
    refine ⟨_, rfl, request _ fun _ _ ht => checkLength_preserves _ ht ?_⟩
    unfold installTariff
    dsimp only
    split
    · exact turnsSound_of_turnPart rfl ht
    · exact turnsSound_of_turnPart rfl ht
  | getTariff => exact ⟨_, rfl, request _ fun _ _ ht => checkLength_preserves _ ht ht⟩
  | setBilling agrees fields =>
    exact ⟨_, rfl, request _ fun _ _ ht => checkLength_preserves _ ht (turnsSound_of_turnPart rfl ht)⟩
  | openSession agrees f =>
    exact ⟨_, rfl, request _ fun _ _ ht => checkLane_preserves _ ht fun l _ => turnsSound_of (fun h => sound_openSession h agrees f l) ht⟩
  | closeSession agrees lane =>
    refine ⟨_, rfl, request _ fun _ _ ht => checkLength_preserves _ ht (checkLaneExempt_preserves _ ht fun l _ => ?_)⟩
    split
    · dsimp only
      exact turnsSound_of (fun h => sound_closeSession h l) ht
    · exact ht
  | addBowler agrees f =>
    exact ⟨_, rfl, request _ fun _ _ ht => checkLane_preserves _ ht fun l _ => checkRunning_preserves_of_running _ l ht
      fun running => turnsSound_of (fun h => sound_addBowlerRequest h f running) ht⟩
  | setBowler agrees f =>
    exact ⟨_, rfl, request _ fun _ _ ht => checkLane_preserves _ ht fun l _ => checkRunning_preserves _ l ht
      (checkSlot_preserves _ l ht fun _ => turnsSound_of (fun h => sound_modBowlerOf h l _ fun _ => rfl) ht)⟩
  | withdrawBowler agrees lane slot =>
    exact ⟨_, rfl, request _ fun _ _ ht => checkLane_preserves _ ht fun l _ => checkRunning_preserves _ l ht
      (checkSlot_preserves _ l ht fun b => turnsSound_of (fun h => sound_withdrawBowler h slot b l) ht)⟩
  | markBlind agrees lane slot =>
    exact ⟨_, rfl, request _ fun _ _ ht => checkLane_preserves _ ht fun l _ => checkRunning_preserves _ l ht
      (checkSlot_preserves _ l ht fun b => turnsSound_of (fun h => sound_markBlind h slot b l) ht)⟩
  | skipTurn agrees lane =>
    exact ⟨_, rfl, request _ fun _ _ ht => checkLane_preserves _ ht fun l _ => checkRunning_preserves _ l ht
      (turnsSound_of (fun h => sound_skipTurn h l) ht)⟩
  | pairMode agrees pair mode =>
    exact ⟨_, rfl, request _ fun _ _ ht => checkLength_preserves _ ht (checkPair_preserves _ ht fun p _ =>
      turnsSound_of (fun h => sound_pairMode h mode p) ht)⟩
  | holdLane agrees lane =>
    exact ⟨_, rfl, request _ fun _ _ ht => checkLength_preserves _ ht (checkLaneExempt_preserves _ ht fun l _ =>
      turnsSound_of_turnPart (turnPart_holdLane l _) ht)⟩
  | releaseLane agrees lane =>
    exact ⟨_, rfl, request _ fun _ _ ht => checkLength_preserves _ ht (checkLaneExempt_preserves _ ht fun l _ =>
      turnsSound_of_turnPart (turnPart_releaseLane l _) ht)⟩
  | laneStatus agrees lane =>
    exact ⟨_, rfl, request _ fun _ _ ht => checkLength_preserves _ ht (checkLaneExempt_preserves _ ht fun _ _ => ht)⟩
  | getGame agrees n =>
    refine ⟨_, rfl, request _ fun _ _ ht => checkLane_preserves _ ht fun l _ => checkHeld_preserves _ l ht
      (checkSlot_preserves _ l ht fun b => ?_)⟩
    split
    · exact ht
    · exact ht
  | correctFrame agrees n frame balls =>
    exact ⟨_, rfl, request _ fun _ _ ht => checkLane_preserves _ ht fun l _ => checkHeld_preserves _ l ht
      (checkOpenRecord_preserves _ _ l ht fun _ g => turnsSound_of (fun h => sound_correctFrame h _ _ _ g l) ht)⟩
  | certifyGame agrees lane game =>
    exact ⟨_, rfl, request _ fun _ _ ht => checkLane_preserves _ ht fun l _ => checkHeld_preserves _ l ht
      (turnsSound_of (fun h => sound_certifyGame h game l) ht)⟩
  | ackCheck agrees n frame ball =>
    exact ⟨_, rfl, request _ fun _ _ ht => checkLane_preserves _ ht fun l _ => checkHeld_preserves _ l ht
      (checkOpenRecord_preserves_of_record _ _ l ht fun _ _ bowler game => turnsSound_of (fun h => sound_ackCheck h _ bowler game) ht)⟩
  | getTeam agrees lane game =>
    refine ⟨_, rfl, request _ fun _ _ ht => checkLane_preserves _ ht fun l _ => checkHeld_preserves _ l ht ?_⟩
    unfold getTeam
    dsimp only
    split
    · exact ht
    · exact ht
  | getAccount agrees lane =>
    refine ⟨_, rfl, request _ fun _ _ ht => checkLength_preserves _ ht (checkLane_preserves _ ht fun l _ => ?_)⟩
    split
    · exact ht
    · exact ht
  | addCredit agrees lane amount =>
    refine ⟨_, rfl, request _ fun _ _ ht => checkLane_preserves _ ht fun l _ => checkLength_preserves _ ht ?_⟩
    split
    · exact turnsSound_of_turnPart (turnPart_addCredit amount l _) ht
    · exact ht
  | machinePowerOn agrees lane valid =>
    exact ⟨_, rfl, request _ fun _ _ ht => checkLength_preserves _ ht (checkLane_preserves _ ht fun l _ =>
      checkValid_preserves _ l ht (checkStation_preserves l ht (turnsSound_of_turnPart (turnPart_powerOn l _) ht)))⟩
  | machinePowerOff agrees lane valid =>
    exact ⟨_, rfl, request _ fun _ _ ht => checkLength_preserves _ ht (checkLane_preserves _ ht fun l _ =>
      checkValid_preserves _ l ht (checkStation_preserves l ht (turnsSound_of_turnPart (turnPart_powerOff l _) ht)))⟩
  | clearJam agrees lane =>
    exact ⟨_, rfl, request _ fun _ _ ht => checkLength_preserves _ ht (checkLane_preserves _ ht fun l _ =>
      checkStation_preserves l ht (turnsSound_of_turnPart (turnPart_clearJam l _) ht))⟩
  | serviceOut agrees lane valid =>
    exact ⟨_, rfl, request _ fun _ _ ht => checkLength_preserves _ ht (checkLane_preserves _ ht fun l _ =>
      checkValid_preserves _ l ht (checkStation_preserves l ht (turnsSound_of_turnPart (turnPart_takeOut l _) ht)))⟩
  | serviceIn agrees lane valid =>
    exact ⟨_, rfl, request _ fun _ _ ht => checkLength_preserves _ ht (checkLane_preserves _ ht fun l _ =>
      checkValid_preserves _ l ht (checkStation_preserves l ht (turnsSound_of_turnPart (turnPart_bringIn l _) ht)))⟩
  | setMachine agrees f =>
    exact ⟨_, rfl, request _ fun _ t ht => checkLength_preserves _ ht (checkPair_preserves _ ht fun p _ =>
      turnsSound_of_turnPart (turnPart_modPair t p _ rfl) ht)⟩
  | getHealth agrees lane =>
    exact ⟨_, rfl, request _ fun _ _ ht => checkLength_preserves _ ht (checkLane_preserves _ ht fun _ _ => ht)⟩
  | setHealth agrees f =>
    exact ⟨_, rfl, request _ fun _ _ ht => checkLane_preserves _ ht fun l _ => checkLength_preserves _ ht
      (turnsSound_of_turnPart (turnPart_setHealth f l _) ht)⟩
  | stationReset agrees pair hold =>
    exact ⟨_, rfl, request _ fun _ _ ht => checkLength_preserves _ ht (checkPair_preserves _ ht fun p _ =>
      turnsSound_of_turnPart (turnPart_resetStation _ p _) ht)⟩
  | returnStatus agrees pair threshold timeout =>
    exact ⟨_, rfl, request _ fun _ _ ht => checkPair_preserves _ ht fun p _ => checkLength_preserves _ ht
      (turnsSound_of_turnPart (turnPart_returnStatus threshold timeout p _) ht)⟩
  | clearReturnJam agrees pair balls =>
    exact ⟨_, rfl, request _ fun _ _ ht => checkPair_preserves _ ht fun p _ => checkLength_preserves _ ht
      (turnsSound_of_turnPart (turnPart_clearReturnJam balls p _) ht)⟩
  | secondEvent =>
    refine ⟨_, rfl, ?_⟩
    split
    · exact turnsSound_of_turnPart (turnPart_toSecond s) h
    · exact turnsSound_of_turnPart (turnPart_second _) drained
  | minuteEvent => exact ⟨_, rfl, part (turnsSound_of_turnPart (turnPart_dueMinute s) h)⟩
  | playMinute lane =>
    exact ⟨_, rfl, part (turnsSound_of_turnPart ((turnPart_duePlay _ lane).trans (turnPart_dueMinute s)) h)⟩
  | prepaidMinute lane =>
    exact ⟨_, rfl, part (turnsSound_of_turnPart ((turnPart_duePrepaid _ lane).trans (turnPart_dueMinute s)) h)⟩
  | deskSilenceExpiry => exact ⟨_, rfl, part (turnsSound_of_turnPart (turnPart_dueSilence s) h)⟩
  | idleTimerExpiry lane => exact ⟨_, rfl, part (turnsSound_of_turnPart (turnPart_dueIdle s lane) h)⟩
  | onTimeElapsed lane => exact ⟨_, rfl, part (turnsSound_of_turnPart (turnPart_dueOnTime s lane) h)⟩
  | oldestEntryExpiry pair => exact ⟨_, rfl, part (turnsSound_of_turnPart (turnPart_dueOldest s pair) h)⟩
  | settleExpiry lane => exact ⟨_, rfl, still fun t => turnPart_settleOut t lane⟩
  | rereadSettleExpiry lane => exact ⟨_, rfl, still fun t => turnPart_rereadOut t lane⟩
  | readTimeout lane => exact ⟨_, rfl, live fun _ ht => turnsSound_of (fun h => sound_readOut h lane) ht⟩
  | cycleTimeout lane => exact ⟨_, rfl, live fun _ ht => turnsSound_of (fun h => sound_cycleOut h lane) ht⟩
  | warmUpExpiry lane => exact ⟨_, rfl, still fun t => turnPart_warmUpOut t lane⟩
  | paceTimerExpiry => exact ⟨_, rfl, still turnPart_paceOut⟩
  | resetHoldExpiry pair => exact ⟨_, rfl, still fun t => turnPart_holdOut t pair⟩
  | sendPoll => exact ⟨_, rfl, still turnPart_sendPoll⟩
  | sendProbe => exact ⟨_, rfl, still turnPart_sendProbe⟩
  | sendResetPoll => exact ⟨_, rfl, still turnPart_sendReset⟩
  | answerWindowExpiry => exact ⟨_, rfl, still turnPart_windowOut⟩
  | helloAnswer answer => exact ⟨_, rfl, live fun _ ht => turnsSound_of_turnPart (turnPart_helloIn _ answer) ht⟩
  | statusAnswer answer => exact ⟨_, rfl, live fun _ ht => turnsSound_of (fun h => sound_statusIn h answer) ht⟩


theorem turnPart_idleTenth (s : State) : s.idleTenth.turnPart = s.turnPart := by
  unfold State.idleTenth
  split <;> simp

/-- Settles O3, by what each command does to the part of the turns. -/
theorem stepsKeepTheTurnsSound : Obligations.StepsKeepTheTurnsSound := by
  unfold Obligations.StepsKeepTheTurnsSound
  intro s t h
  unfold step
  split
  · rintro ⟨rfl⟩
    exact turnsSound_of_turnPart (turnPart_idleTenth s) h
  · rename_i c rest _
    obtain ⟨u, e, hu⟩ := turnsSound_exec (s := { s with pending := rest }) c h
    rw [e]
    rintro ⟨rfl⟩
    exact hu

end Sys2Proof.Machine
end

section
/-! SUPPORT. The requests on a roster carried out, a bowler added, and ADD_BOWLER and SET_BOWLER. -/

namespace Sys2Proof.Machine

/-! ### The checks of a roster request -/

theorem checkRunning_of_running {s : State} {l : LaneIx} (h : (s.lane l).session ≠ .closed) (k : LaneIx → State → Answer) :
    checkRunning true k l s = k l s := by
  rw [checkRunning, if_pos ((running_iff _).2 h), checkLength, if_pos rfl]

theorem checkSlot_of_bowler {s : State} {l : LaneIx} {slot : Nat} {b : Bowler} (h : s.bowler l slot = some b)
    (k : Bowler → LaneIx → State → Answer) : checkSlot slot k l s = k b l s := by
  rw [checkSlot, h]

/-- A request on a lane that fits, of a session that runs, is the owner's answer. -/
theorem checks_of_running {s : State} {l : LaneIx} {n : Nat} (lane : n = laneNumber l) (fits : s.fits l) (running : (s.lane l).session ≠ .closed)
    (k : LaneIx → State → Answer) : checkLane n (checkRunning true k) s = k l s := by
  rw [lane, checkLane_of_fits fits, checkRunning_of_running running]

/-- What a request does whose owner's answer is a. -/
theorem live_of_answer {s : State} {kind : RequestKind} {r : Slot} (front : s.front kind r) {f : List Byte → State → Answer} {a : Answer}
    (answer : f r.body s = a) : State.live (State.carryOut kind f) s = a.state.answered r a.status a.body := by
  rw [State.carryOut_of_front front, answer]

theorem exec_addBowler {s : State} {r : Slot} {l : LaneIx} {f : AddBowlerFields} (front : s.front .addBowler r) (lane : f.lane = laneNumber l)
    (fits : s.fits l) (running : (s.lane l).session ≠ .closed) : exec (.addBowler true f) s
      = .next ((addBowler f l s).state.answered r (addBowler f l s).status (addBowler f l s).body) :=
  congrArg Host.Outcome.next (live_of_answer front (checks_of_running lane fits running (addBowler f)))

theorem exec_setBowler {s : State} {r : Slot} {l : LaneIx} {f : SetBowlerFields} {b : Bowler} (front : s.front .setBowler r)
    (lane : f.lane = laneNumber l) (fits : s.fits l) (running : (s.lane l).session ≠ .closed) (bowler : s.bowler l f.slot = some b) :
    exec (.setBowler true f) s
      = .next ((setBowler f b l s).state.answered r (setBowler f b l s).status (setBowler f b l s).body) :=
  congrArg Host.Outcome.next (live_of_answer front
    ((checks_of_running lane fits running _).trans (checkSlot_of_bowler bowler (setBowler f))))

/-! ### A bowler added -/

/-- A lane with a bowler in the next slot and its account's entry for it (R37, R159). -/
def Lane.enrolled (b : Bowler) (x : Lane) : Lane :=
  { x with roster := x.roster ++ [b]
           account := x.account.map fun a => { a with entries := a.entries ++ [⟨x.roster.length + 1, 0, false⟩] } }

theorem enrolled_eq (s : State) (l : LaneIx) (b : Bowler) :
    (s.modLane l fun x => { x with roster := x.roster ++ [b] }).modAccount l
        (fun a => { a with entries := a.entries ++ [⟨(s.lane l).roster.length + 1, 0, false⟩] }) = s.modLane l (Lane.enrolled b) := by
  simp [State.modAccount, State.modLane, State.setLane, State.lane, Lane.enrolled]

theorem addBowler_of_bowled {s : State} {l : LaneIx} (h : s.joinsNow l = false) (v : SlotView) :
    s.addBowler l v = s.modLane l (Lane.enrolled { bowlerOf v with state := .waiting }) := by
  rw [← enrolled_eq]
  simp [State.addBowler, h, State.when]

/-- The new bowler of a lane that takes it into the current game. -/
def State.newcomer (s : State) (l : LaneIx) (v : SlotView) : Bowler :=
  (bowlerOf v).startGame (s.lane l).settings (s.lane l).game (s.lane l).startLane

theorem addBowler_of_joins {s : State} {l : LaneIx} (h : s.joinsNow l = true) (v : SlotView) :
    s.addBowler l v = ((s.modLane l (Lane.enrolled (s.newcomer l v))).setQueue (s.lane l).startLane
      ((s.lane (s.lane l).startLane).queue ++ [⟨l, (s.lane l).roster.length + 1, (s.lane l).game, 1⟩])).handOffs s [(s.lane l).startLane] := by
  have queue : ((s.modLane l (Lane.enrolled (s.newcomer l v))).lane (s.lane l).startLane).queue = (s.lane (s.lane l).startLane).queue := by
    by_cases e : (s.lane l).startLane = l
    · rw [e, State.lane_modLane_self]
      rfl
    · rw [State.lane_modLane_ne _ _ _ _ e]
  rw [← queue, ← enrolled_eq]
  simp [State.addBowler, h, State.when, State.newcomer]

/-- The lane of a new bowler who joins, but for what PSV and the hand-offs change of it. -/
theorem core_addBowler {s : State} {l : LaneIx} (h : s.joinsNow l = true) (v : SlotView) : ∃ queue,
    ((s.addBowler l v).lane l).core = { ((s.lane l).enrolled (s.newcomer l v)).core with queue := queue } := by
  rw [addBowler_of_joins h, core_handOffs]
  by_cases e : (s.lane l).startLane = l
  · rw [e, core_setQueue, State.lane_modLane_self]
    exact ⟨_, rfl⟩
  · rw [State.lane_setQueue_ne _ _ _ _ (Ne.symm e), State.lane_modLane_self]
    exact ⟨(s.lane l).queue, rfl⟩

/-- The queues with a new bowler's turn at the tail of its team's start lane's. -/
theorem queue_addBowler {s : State} {l : LaneIx} (h : s.joinsNow l = true) (v : SlotView) (k : LaneIx) : ((s.addBowler l v).lane k).queue
    = (s.lane k).queue ++ if k = (s.lane l).startLane then [⟨l, (s.lane l).roster.length + 1, (s.lane l).game, 1⟩] else [] := by
  obtain ⟨-, -, -, -, -, -, queue, -⟩ := fields_of_core (core_handOffs ((s.modLane l (Lane.enrolled (s.newcomer l v))).setQueue
    (s.lane l).startLane ((s.lane (s.lane l).startLane).queue ++ [⟨l, (s.lane l).roster.length + 1, (s.lane l).game, 1⟩])) s
    [(s.lane l).startLane] k)
  rw [addBowler_of_joins h, queue]
  split
  · rename_i e
    rw [e, State.lane_setQueue_queue]
  · rename_i e
    rw [State.lane_setQueue_ne _ _ _ _ e, List.append_nil]
    by_cases hk : k = l
    · rw [hk, State.lane_modLane_self]
      rfl
    · rw [State.lane_modLane_ne _ _ _ _ hk]

theorem kept_addBowler (s : State) (l : LaneIx) (v : SlotView) : (s.addBowler l v).kept = s.kept := by
  cases h : s.joinsNow l with
  | false => rw [addBowler_of_bowled h, kept_modLane]
  | true => rw [addBowler_of_joins h, kept_handOffs, kept_setQueue, kept_modLane]

theorem joinsNow_iff (s : State) (l : LaneIx) : s.joinsNow l = true ↔ s.hasBowled l = false ∧ (s.lane l).boundary = .unmarked := by
  simp [State.joinsNow]

theorem addBowler_of_room {s : State} {l : LaneIx} (isOpen : (s.lane l).session = .open_) (room : (s.lane l).roster.length < 8)
    (f : AddBowlerFields) : (addBowler f l s).state = s.addBowler l (appliedEntry ⟨f.name, f.average, f.fixed⟩) := by
  simp only [addBowler, isOpen, Config.rosterMax, if_neg (Nat.not_le.2 room), reduceCtorEq, if_false]

/-! ### SET_BOWLER -/

theorem bowlerAt_pos {roster : List Bowler} {slot : Nat} {b : Bowler} (h : bowlerAt roster slot = some b) :
    slot ≠ 0 ∧ roster[slot - 1]? = some b := by
  unfold bowlerAt at h
  split at h
  · cases h
  · exact ⟨‹_›, h⟩

theorem modBowler_of_bowler {roster : List Bowler} {slot : Nat} {b : Bowler} (h : bowlerAt roster slot = some b) (f : Bowler → Bowler) :
    modBowler slot f roster = roster.set (slot - 1) (f b) := by
  obtain ⟨pos, at'⟩ := bowlerAt_pos h
  rw [modBowler, if_neg pos]
  refine List.ext_getElem? fun i => ?_
  rw [List.getElem?_modify, List.getElem?_set]
  by_cases e : slot - 1 = i
  · subst e
    obtain ⟨lt, rfl⟩ := List.getElem?_eq_some_iff.1 at'
    simp [lt]
  · simp [e]

theorem modBowlerOf_of_bowler {s : State} {l : LaneIx} {slot : Nat} {b : Bowler} (h : s.bowler l slot = some b) (f : Bowler → Bowler) :
    s.modBowlerOf l slot f = s.setLane l { s.lane l with roster := (s.lane l).roster.set (slot - 1) (f b) } := by
  rw [← modBowler_of_bowler h f]
  rfl

theorem setBowlerAdjusted_iff (f : SetBowlerFields) :
    setBowlerAdjusted f = true ↔ 300 < f.average ∨ f.fixed.map (min 300) ≠ f.fixed ∨ f.ret = .other := by
  have average : min 300 f.average ≠ f.average ↔ 300 < f.average := by omega
  simp only [setBowlerAdjusted, hold300_eq, Bool.or_eq_true, decide_eq_true_eq, or_assoc, average]

theorem settingStatus_eq (f : SetBowlerFields) (b' b : Bowler) : settingStatus (setBowlerAdjusted f) (b' ≠ b)
    = if 300 < f.average ∨ f.fixed.map (min 300) ≠ f.fixed ∨ f.ret = .other then .adjusted else if b' = b then .noChange else .ok := by
  simp only [settingStatus, adjustedOr, setBowlerAdjusted_iff, decide_eq_true_eq, ite_not]

theorem set_eq (f : SetBowlerFields) (b : Bowler) : b.set f = { b with
    average := min 300 f.average, fixed := f.fixed.map (min 300)
    state := if f.ret = .yes ∧ (b.state = .blind ∨ b.state = .withdrawn) then .waiting else b.state } := by
  simp [Bowler.set, hold300_eq]

/-- Settles O21: ADD_BOWLER by the lane and the queues as addBowler leaves them, SET_BOWLER by the bowler it sets. -/
theorem addAndSetBowler : Obligations.AddAndSetBowler := by
  unfold Obligations.AddAndSetBowler
  refine ⟨fun s r l f front lane fits isOpen room => ?_, fun s r l f b front lane fits running bowler => ?_⟩
  · have running : (s.lane l).session ≠ .closed := by rw [isOpen]; nofun
    obtain ⟨-, -, -, -, -, clock, -, meter, hold, -⟩ := fields_of_kept (kept_addBowler s l (appliedEntry ⟨f.name, f.average, f.fixed⟩))
    rw [exec_addBowler front lane fits running, addBowler_of_room isOpen room f]
    generalize hv : appliedEntry ⟨f.name, f.average, f.fixed⟩ = v at *
    have name : (bowlerOf v).name = storedName f.name := by rw [← hv]; rfl
    have average : (bowlerOf v).average = min 300 f.average := by rw [← hv, ← hold300_eq]; rfl
    have fixed : (bowlerOf v).fixed = f.fixed.map (min 300) := by rw [← hv, ← hold300_eq]; rfl
    cases joins : s.joinsNow l with
    | false =>
      have bowled : ¬(s.hasBowled l = false ∧ (s.lane l).boundary = .unmarked) := fun h =>
        absurd (joins.symm.trans ((joinsNow_iff s l).2 h)) nofun
      have self : (s.addBowler l v).lane l = (s.lane l).enrolled { bowlerOf v with state := .waiting } := by
        rw [addBowler_of_bowled joins, State.lane_modLane_self]
      have other {k : LaneIx} (hk : k ≠ l) : (s.addBowler l v).lane k = s.lane k := by
        rw [addBowler_of_bowled joins, State.lane_modLane_ne _ _ _ _ hk]
      have queue (k : LaneIx) : ((s.addBowler l v).lane k).queue = (s.lane k).queue := by
        by_cases hk : k = l
        · rw [hk, self]
          rfl
        · rw [other hk]
      generalize s.addBowler l v = t at *
      exact ⟨_, { bowlerOf v with state := .waiting }, rfl, (congrArg Lane.roster self :), name, average, fixed,
        fun _ => ⟨rfl, rfl, queue, fun k => other⟩, fun fresh unmarked => absurd ⟨fresh, unmarked⟩ bowled,
        (congrArg Lane.account self :), clock, meter, hold⟩
    | true =>
      obtain ⟨fresh, unmarked⟩ := (joinsNow_iff s l).1 joins
      obtain ⟨_, core⟩ := core_addBowler joins v
      have roster : ((s.addBowler l v).lane l).roster = (s.lane l).roster ++ [s.newcomer l v] := (congrArg Lane.roster core :)
      have account : ((s.addBowler l v).lane l).account = (s.lane l).account.map fun a =>
        { a with entries := a.entries ++ [⟨(s.lane l).roster.length + 1, 0, false⟩] } := (congrArg Lane.account core :)
      have queue := queue_addBowler joins v
      generalize s.addBowler l v = t at *
      refine ⟨_, s.newcomer l v, rfl, roster, name, average, fixed, fun h => ?_, fun _ _ => ⟨rfl, ⟨_, rfl, rfl, rfl, ?_⟩, ?_, fun k hk => ?_⟩,
        account, clock, meter, hold⟩
      · rcases h with bowled | reached
        · exact absurd (fresh.symm.trans bowled) nofun
        · exact absurd (unmarked.symm.trans reached) nofun
      · rw [← average, ← fixed]
        rfl
      · exact (queue _).trans (by rw [if_pos rfl])
      · exact (queue k).trans (by rw [if_neg hk, List.append_nil])
  · refine ⟨_, rfl, ?_⟩
    rw [exec_setBowler front lane fits running bowler, ← set_eq, ← modBowlerOf_of_bowler bowler, ← settingStatus_eq]
    rfl

end Sys2Proof.Machine
end

section
/-! SUPPORT. The report queue through the hand-offs: an operation that queues at most n reports, none of them an alarm, keeps
the alarms and the reports of play that the queue holds (R176, R177). -/

namespace Sys2Proof.Machine

/-- From the link k to k' at most n reports more, and no alarm or report of play fewer. -/
def Link.told (n : Nat) (k' k : Link) : Prop :=
  (∀ x ∈ k.reports, x.rank ≤ 1 → x ∈ k'.reports) ∧ k'.reports.length ≤ k.reports.length + n

theorem Link.told_same (n : Nat) (k : Link) : k.told n k := ⟨fun _ hx _ => hx, Nat.le_add_right _ _⟩

theorem Link.told.trans {m n : Nat} {k k' k'' : Link} (h' : k''.told n k') (h : k'.told m k) : k''.told (m + n) k := by
  obtain ⟨keep, length⟩ := h
  obtain ⟨keep', length'⟩ := h'
  exact ⟨fun x hx urgent => keep' x (keep x hx urgent) urgent, by omega⟩

theorem Link.told.mono {m n : Nat} {k k' : Link} (h : k'.told m k) (le : m ≤ n) : k'.told n k := ⟨h.1, by have := h.2; omega⟩

/-! ### One report -/

theorem mem_insertReport (qs : List Report) (r x : Report) : x ∈ insertReport qs r ↔ x = r ∨ x ∈ qs := by
  induction qs with
  | nil => simp [insertReport]
  | cons q qs ih =>
    simp only [insertReport]
    split
    · simp only [List.mem_cons, ih]
      exact or_left_comm
    · simp only [List.mem_cons]

/-- A report that is no alarm displaces no alarm and no report of play. -/
theorem told_queue {r : Report} (h : 1 ≤ r.rank) (k : Link) : (k.queue r).told 1 k := by
  unfold Link.queue
  split
  · exact ⟨fun x hx _ => (mem_insertReport _ _ _).2 (.inr hx), by simp [insertReport_length]⟩
  · split
    · exact k.told_same 1
    · rename_i last hlast
      split
      · rename_i less
        refine ⟨fun x hx urgent => (mem_insertReport _ _ _).2 (.inr ?_), ?_⟩
        · have ne : x ≠ last := fun e => by
            subst e
            omega
          rw [← List.dropLast_append_getLast? last hlast] at hx
          simpa [ne] using hx
        · simp only [Link.lose_reports, insertReport_length, List.length_dropLast]
          omega
      · exact ⟨fun _ hx _ => hx, Nat.le_succ _⟩

/-- A report that finds room is in the queue. -/
theorem mem_queue {k : Link} (r : Report) (room : k.reports.length < 48) : r ∈ (k.queue r).reports := by
  rw [Link.queue, if_pos room]
  exact (mem_insertReport _ _ _).2 (.inl rfl)

/-! ### The operations of a lane -/

section Ops

variable (s : State) (l : LaneIx)

theorem told_report {r : Report} (h : 1 ≤ r.rank) : (s.report r).link.told 1 s.link := told_queue h s.link

theorem told_when (c : Bool) {f : State → State} {n : Nat} (h : (f s).link.told n s.link) : (s.when c f).link.told n s.link := by
  obtain e | e := State.when_cases c f s
  · rw [e]
    exact h
  · rw [e]
    exact s.link.told_same n

theorem link_darkTest (p : PairIx) : (s.darkTest p).link = s.link := by
  unfold State.darkTest
  repeat' split
  all_goals rfl

theorem link_enterSilent (st : MachineState) : (s.enterSilent l st).link = s.link := by
  rw [State.enterSilent, State.when_keeps State.link _ _ _ (link_darkTest _ _)]
  rfl

theorem link_handCommand (c : BusCommand) : (s.handCommand l c).link = s.link := by
  simp only [State.handCommand]
  split <;> rfl

/-- A machine that enters a state queues a notice at the most. -/
theorem told_enter (st : MachineState) : (s.enter l st).link.told 1 s.link := by
  rw [State.enter, ← link_enterSilent s l st]
  exact told_when _ _ (told_report _ (by simp [Report.rank, Report.cls, ReportClass.rank]))

theorem told_issueCycle (c : Cycle) (turn : Option Turn) (need : Option Need) : (s.issueCycle l c turn need).link.told 1 s.link := by
  rw [State.issueCycle]
  generalize hm : s.modMachine l _ = m
  rw [show s.link = m.link by rw [← hm]; rfl, ← link_handCommand m l c.command]
  exact told_enter _ l _

theorem told_holdCycle (c : Cycle) (served : Bool) : (s.holdCycle l c served).link.told 1 s.link :=
  told_enter (s.modMachine l fun m => { m with pendingCycle := some ⟨c, served, s.headTurn l, s.headNeed l⟩ }) l .waiting
theorem told_makeReady : (s.makeReady l).link.told 1 s.link := told_enter (s.modMachine l fun m => { m with pendingCycle := none }) l .ready
theorem told_makeEmpty : (s.makeEmpty l).link.told 1 s.link :=
  told_enter (s.modMachine l fun m => { m with pendingCycle := none }) l .deckEmpty

theorem told_startCycle (c : Cycle) : (s.startCycle l c).link.told 1 s.link := by
  unfold State.startCycle
  split
  · exact told_holdCycle s l c _
  · exact told_issueCycle s l c _ _

theorem told_serve (c : Cycle) : (s.serve l c).link.told 1 s.link := by
  unfold State.serve
  split
  · exact told_holdCycle s l c _
  · exact told_makeReady s l

theorem link_cutPower : (s.cutPower l).link = s.link := rfl

theorem told_serviceOut : (s.serviceOut l).link.told 1 s.link := by
  rw [State.serviceOut, ← link_cutPower s l]
  generalize s.cutPower l = cut
  exact told_enter ((cut.forgetDeck l).modMachine l _) l _

theorem told_powerDown : (s.powerDown l).link.told 1 s.link := by
  rw [State.powerDown, ← link_cutPower s l]
  generalize s.cutPower l = cut
  exact told_enter ((cut.forgetDeck l).modMachine l _) l _

theorem link_sendPowerOn : (s.sendPowerOn l).link = s.link := rfl

theorem told_wake : (s.wake l).link.told 1 s.link := by
  rw [State.wake, ← link_sendPowerOn s l]
  generalize s.sendPowerOn l = on
  exact told_enter (on.startTimer l _ _) l _

theorem told_wakeForHead : (s.wakeForHead l).link.told 1 s.link := told_when s _ (told_wake s l)

theorem told_rest : (s.rest l).link.told 1 s.link := by
  simp only [State.rest]
  split
  · exact s.link.told_same 1
  · split
    · exact told_serviceOut s l
    · split
      · exact told_powerDown s l
      · exact s.link.told_same 1

theorem told_follow (d : Derived) : (s.follow l d).link.told 2 s.link := by
  unfold State.follow
  cases d
  case start c => exact (told_rest _ l).trans (told_startCycle s l c)
  case serve c => exact (told_rest _ l).trans (told_serve s l c)
  case deckEmpty => exact (told_rest _ l).trans (told_makeEmpty s l)
  case ready => exact (told_rest _ l).trans (told_makeReady s l)

theorem told_derive : (s.derive l).link.told 2 s.link := told_follow s l _

theorem told_headTold : (s.headTold l).link.told 2 s.link := by
  unfold State.headTold
  split
  · exact (told_wakeForHead s l).mono (by decide)
  · exact (told_wakeForHead s l).mono (by decide)
  · exact told_derive s l
  · exact told_derive s l
  · exact told_derive (s.modMachine l _) l
  · exact s.link.told_same 2

theorem told_release : (s.release l).link.told 2 s.link := by
  unfold State.release
  split
  · split
    · exact s.link.told_same 2
    · split
      · exact (told_rest _ l).trans (told_makeReady s l)
      · exact (told_issueCycle s l _ _ _).mono (by decide)
  · exact s.link.told_same 2

theorem told_raiseReason (r : Reason) (t : DateTime) : (s.raiseReason r t l).link.told 2 s.link := by
  unfold State.raiseReason
  split
  · exact s.link.told_same 2
  · exact s.link.told_same 2

theorem told_clearReason (r : Reason) : (s.clearReason r l).link.told 2 s.link := by
  unfold State.clearReason
  split
  · exact told_release (s.modLane l _) l
  · exact s.link.told_same 2

theorem told_evaluateBilling : (s.evaluateBilling l).link.told 2 s.link := by
  unfold State.evaluateBilling
  split
  · exact told_clearReason s l _
  · split
    · exact told_raiseReason s l _ _
    · exact told_clearReason s l _

theorem told_tellMeter : (s.tellMeter l).link.told 2 s.link := told_evaluateBilling (s.modLane l fun x => { x with head := x.queue.head? }) l

theorem told_handHead : (s.handHead l).link.told 4 s.link := (told_headTold _ l).trans (told_tellMeter s l)

theorem told_reportHead : (s.reportHead l).link.told 1 s.link := by
  unfold State.reportHead
  split
  · exact s.link.told_same 1
  · exact told_report s (by simp [Report.rank, Report.cls, ReportClass.rank])

theorem told_headChanged : (s.headChanged l).link.told 5 s.link := (told_handHead _ l).trans (told_reportHead s l)

theorem told_each {α : Type} (xs : List α) {f : α → State → State} {n : Nat} (h : ∀ x (t : State), (f x t).link.told n t.link) :
    (s.each xs f).link.told (n * xs.length) s.link := by
  induction xs generalizing s with
  | nil => exact s.link.told_same _
  | cons x xs ih =>
    rw [each_cons, List.length_cons, Nat.mul_succ, Nat.add_comm]
    exact (ih (f x s)).trans (h x s)

theorem told_handOffs (before : State) (ls : List LaneIx) : (s.handOffs before ls).link.told (5 * ls.length) s.link :=
  (told_each s _ fun l t => told_headChanged t l).mono (Nat.mul_le_mul_left 5 (List.length_filter_le _ _))

end Ops

end Sys2Proof.Machine
end

section
/-! SUPPORT. A change of head as the lane's own records show it: the head told to BLM, the BILLING it raises or clears, and
the machine that PSV wakes or readies; and SKIP_TURN. -/

namespace Sys2Proof.Machine

/-! ### BLM told the head (R164) -/

theorem head_of_outside {l : LaneIx} {s t : State} (h : t.outside l = s.outside l) (k : LaneIx) : (t.lane k).head = (s.lane k).head := by
  by_cases e : k = l
  · subst e
    rw [lane_self_of_outside h]
  · rw [lane_of_outside h e]

/-- BILLING as evaluated for a head: raised, from when it was raised first, for a forbidden turn, and else cleared. -/
theorem billing_evaluateBilling {s : State} {l : LaneIx} {u : Turn} (head : (s.lane l).head = some u) :
    ((s.evaluateBilling l).gate l).billing = if s.forbidden u then some ((s.gate l).billing.getD s.clock) else none := by
  simp only [State.evaluateBilling, head]
  split
  · rw [gate_raiseReason]
    cases e : (s.gate l).billing with
    | none => simp [Gate.has, Gate.raisedAt, e, Gate.put]
    | some t => simp [Gate.has, Gate.raisedAt, e]
  · rw [gate_clearReason]
    cases e : (s.gate l).billing with
    | none => simp [Gate.has, Gate.raisedAt, e]
    | some t => simp [Gate.has, Gate.raisedAt, e, Gate.put]

/-- A lane that waits for no cycle keeps its machine through the evaluation. -/
theorem machine_evaluateBilling {s : State} {l : LaneIx} (h : (s.machine l).state ≠ .waiting) :
    (s.evaluateBilling l).machine l = s.machine l := by
  have raised (t : DateTime) : (s.raiseReason .billing t l).machine l = s.machine l := by
    unfold State.raiseReason
    split
    · rfl
    · exact machine_modLane _ _ _ rfl
  have cleared : (s.clearReason .billing l).machine l = s.machine l := by
    have kept : (s.modLane l fun x => { x with gate := x.gate.put .billing none }).machine l = s.machine l := machine_modLane _ _ _ rfl
    unfold State.clearReason
    split
    · rw [release_of_not_waiting (by rwa [kept]), kept]
    · rfl
  unfold State.evaluateBilling
  split
  · exact cleared
  · split
    · exact raised _
    · exact cleared

/-- What a turn is due is read of its bowler's roster. -/
theorem standingNeed_of_roster {s t : State} {u : Turn} (h : (t.lane u.home).roster = (s.lane u.home).roster) :
    t.standingNeed u = s.standingNeed u := by
  simp only [State.standingNeed, State.gameOf, State.bowler, h]

theorem forbidden_of_account {s t : State} {u : Turn} (h : (t.lane u.home).account = (s.lane u.home).account) :
    t.forbidden u = s.forbidden u := by
  simp only [State.forbidden, h]

/-! ### PSV told the head (R108, R114) -/

theorem machine_wake_state (s : State) (l : LaneIx) : ((s.wake l).machine l).state = .waking := by
  rw [State.wake, machine_enter, MachineRec.enter_state]

/-- A machine that sleeps is woken for a head. -/
theorem headTold_wakes {s : State} {l : LaneIx} {u : Turn} (head : s.headTurn l = some u)
    (asleep : (s.machine l).state = .poweredDown ∨ (s.machine l).state = .standby) : ((s.headTold l).machine l).state = .waking := by
  have woken : s.headTold l = s.wake l := by
    rcases asleep with e | e <;> simp [State.headTold, e, State.wakeForHead, State.when, head]
  rw [woken, machine_wake_state]

/-- No removal or power-off is taken on a lane with a session that runs and no removal for health. -/
theorem rest_of_running {s : State} {l : LaneIx} (running : (s.lane l).session ≠ .closed) (kept : (s.machine l).removal ≠ .health) :
    s.rest l = s := by
  simp [State.rest, running, kept]

theorem MachineRec.enter_removal (st : MachineState) (m : MachineRec) : (m.enter st).removal = m.removal := by
  unfold MachineRec.enter
  split <;> rfl

theorem session_of_outside {l : LaneIx} {s t : State} (h : t.outside l = s.outside l) : (t.lane l).session = (s.lane l).session := by
  rw [lane_self_of_outside h]

/-- The outcome for a bowler who begins a frame, taken (R14, R16, R108). -/
theorem derive_newFrame {s : State} {l : LaneIx} {u : Turn} (running : (s.lane l).session ≠ .closed) (removal : (s.machine l).removal ≠ .health)
    (head : s.headTurn l = some u) (need : s.standingNeed u = .newFrame) :
    if (s.gate l).blocks (.fullRack .newFrame) = true then ((s.derive l).machine l).state = .waiting
      ∧ ((s.derive l).machine l).pendingCycle = some ⟨.fullRack .newFrame, decide ((s.machine l).deck = .full), some u, some .newFrame⟩
    else if (s.machine l).deck = .full then ((s.derive l).machine l).state = .ready
    else ((s.derive l).machine l).state = .cycling ∧ ((s.derive l).machine l).cycleInFlight = some (.fullRack .newFrame) := by
  have headNeed : s.headNeed l = some .newFrame := by rw [State.headNeed, head, Option.map_some, need]
  have rested {v : State} (out : v.outside l = s.outside l) (kept : (v.machine l).removal = (s.machine l).removal) : v.rest l = v :=
    rest_of_running (by rwa [session_of_outside out]) (by rwa [kept])
  have held (served : Bool) := rested (outside_holdCycle l (.fullRack .newFrame) served s) (by simp [State.holdCycle, MachineRec.enter_removal])
  have ready := rested (outside_makeReady l s) (by simp [State.makeReady, MachineRec.enter_removal])
  have issued := rested (outside_issueCycle l (.fullRack .newFrame) (s.headTurn l) (s.headNeed l) s)
    (by simp [State.issueCycle, MachineRec.enter_removal])
  by_cases blocked : (s.gate l).blocks (.fullRack .newFrame) = true
  · rw [if_pos blocked]
    have derived : s.derive l = s.holdCycle l (.fullRack .newFrame) (decide ((s.machine l).deck = .full)) := by
      rw [State.derive, headNeed, derived]
      split <;> simp [State.follow, State.serve, State.startCycle, *]
    rw [derived]
    simp [State.holdCycle, head, headNeed]
  · rw [if_neg blocked]
    by_cases full : (s.machine l).deck = .full
    · rw [if_pos full]
      have derived : s.derive l = s.makeReady l := by
        simp [State.derive, headNeed, derived, full, State.follow, State.serve, blocked, ready]
      rw [derived, State.makeReady, machine_enter, MachineRec.enter_state]
    · rw [if_neg full]
      have derived : s.derive l = s.issueCycle l (.fullRack .newFrame) (s.headTurn l) (s.headNeed l) := by
        simp only [State.derive, headNeed, derived, full, if_false, State.follow, State.startCycle, blocked]
        rw [← headNeed]
        exact issued
      obtain ⟨state, -, inFlight⟩ := machine_issueCycle s l (.fullRack .newFrame) (s.headTurn l) (s.headNeed l)
      rw [derived]
      exact ⟨state, inFlight⟩

/-! ### The three hand-offs of a head change (R26) -/

section Told

variable {v : State} {l : LaneIx} {u : Turn}

/-- A lane's head told to BLM changes no bowler, no account, no session and no queue. -/
theorem core_told (v : State) (l k : LaneIx) : (((v.reportHead l).tellMeter l).lane k).core = (v.lane k).core := by
  rw [core_tellMeter, lane_reportHead]

theorem headTurn_told (v : State) (l : LaneIx) : ((v.reportHead l).tellMeter l).headTurn l = v.headTurn l := by
  obtain ⟨-, -, -, -, -, -, queue, -⟩ := fields_of_core (core_told v l l)
  rw [State.headTurn, queue, State.headTurn]

theorem clock_reportHead (v : State) (l : LaneIx) : (v.reportHead l).clock = v.clock := by
  unfold State.reportHead
  split <;> rfl

theorem machine_told (v : State) (awake : (v.machine l).state ≠ .waiting) : ((v.reportHead l).tellMeter l).machine l = v.machine l := by
  have kept : ((v.reportHead l).modLane l fun x => { x with head := x.queue.head? }).machine l = v.machine l := by
    rw [machine_modLane, State.machine, lane_reportHead, State.machine]
    rfl
  rw [State.tellMeter, machine_evaluateBilling (by rwa [kept]), kept]

theorem turnUp_headChanged (head : v.headTurn l = some u) (room : v.link.reports.length < 48) :
    Report.turnUp l u (v.nameOf u) ∈ (v.headChanged l).link.reports := by
  have queued : Report.turnUp l u (v.nameOf u) ∈ (v.reportHead l).link.reports := by
    rw [State.reportHead, head]
    exact mem_queue _ room
  exact (told_handHead _ l).1 _ queued (by simp [Report.rank, Report.cls, ReportClass.rank])

theorem head_headChanged (head : v.headTurn l = some u) : ((v.headChanged l).lane l).head = some u := by
  rw [State.headChanged, State.handHead, head_of_outside (outside_headTold l _), State.tellMeter,
    head_of_outside (outside_evaluateBilling l _), State.lane_modLane_self, lane_reportHead]
  exact head

theorem billing_headChanged (head : v.headTurn l = some u) : ((v.headChanged l).gate l).billing
    = if v.forbidden u then some ((v.gate l).billing.getD v.clock) else none := by
  have gate : ((v.reportHead l).modLane l fun x => { x with head := x.queue.head? }).gate l = v.gate l := by
    rw [gate_modLane, gate_reportHead]
    rfl
  have told : (((v.reportHead l).modLane l fun x => { x with head := x.queue.head? }).lane l).head = some u := by
    rw [State.lane_modLane_self, lane_reportHead]
    exact head
  have forbids : ((v.reportHead l).modLane l fun x => { x with head := x.queue.head? }).forbidden u = v.forbidden u := by
    refine forbidden_of_account ?_
    obtain ⟨-, -, -, -, -, -, -, -, -, account⟩ := fields_of_core (core_modLane (v.reportHead l) l u.home
      (fun x => { x with head := x.queue.head? }) rfl)
    rw [account, lane_reportHead]
  rw [State.headChanged, State.handHead, gate_headTold, State.tellMeter, billing_evaluateBilling told, forbids, gate]
  exact congrArg (fun c => if v.forbidden u then some ((v.gate l).billing.getD c) else none) (clock_reportHead v l)

theorem wakes_headChanged (head : v.headTurn l = some u)
    (asleep : (v.machine l).state = .poweredDown ∨ (v.machine l).state = .standby) : ((v.headChanged l).machine l).state = .waking := by
  have kept := machine_told v (l := l) (by rcases asleep with e | e <;> simp [e])
  refine headTold_wakes ((headTurn_told v l).trans head) ?_
  rwa [kept]

/-- A machine that stands ready or empty derives afresh for the new head. -/
theorem readies_headChanged (running : (v.lane l).session ≠ .closed) (head : v.headTurn l = some u)
    (awake : (v.machine l).state = .ready ∨ (v.machine l).state = .deckEmpty) (need : v.standingNeed u = .newFrame)
    (removal : (v.machine l).removal ≠ .health) :
    if ((v.headChanged l).gate l).blocks (.fullRack .newFrame) = true then ((v.headChanged l).machine l).state = .waiting
      ∧ ((v.headChanged l).machine l).pendingCycle = some ⟨.fullRack .newFrame, decide ((v.machine l).deck = .full), some u, some .newFrame⟩
    else if (v.machine l).deck = .full then ((v.headChanged l).machine l).state = .ready
    else ((v.headChanged l).machine l).state = .cycling ∧ ((v.headChanged l).machine l).cycleInFlight = some (.fullRack .newFrame) := by
  have kept := machine_told v (l := l) (by rcases awake with e | e <;> simp [e])
  have head' := (headTurn_told v l).trans head
  obtain ⟨session, -⟩ := fields_of_core (core_told v l l)
  obtain ⟨-, -, -, -, -, -, -, -, roster, -⟩ := fields_of_core (core_told v l u.home)
  have need' := (standingNeed_of_roster roster).trans need
  rw [State.headChanged, State.handHead, gate_headTold]
  generalize (v.reportHead l).tellMeter l = t at *
  rw [← session] at running
  rw [← kept] at awake removal ⊢
  rcases awake with ready | empty
  · have disarmed : t.headTold l = (t.modMachine l fun m => { m with armedFoul := false }).derive l := by simp [State.headTold, ready]
    obtain ⟨-, -, -, -, -, -, -, -, same, -⟩ := fields_of_core (core_modMachine t l u.home fun m => { m with armedFoul := false })
    have derived := derive_newFrame (s := t.modMachine l fun m => { m with armedFoul := false }) (l := l) (u := u) (by simpa using running)
      (by simpa using removal) (by simpa [State.headTurn] using head') ((standingNeed_of_roster same).trans need')
    rw [disarmed]
    simpa using derived
  · have derived : t.headTold l = t.derive l := by simp [State.headTold, empty]
    rw [derived]
    exact derive_newFrame running removal head' need'

end Told

/-! ### SKIP_TURN -/

/-- A turn that its account forbids (R17). -/
theorem forbidden_iff (s : State) (u : Turn) : s.forbidden u = true ↔ ∃ a, (s.lane u.home).account = some a ∧
    ((a.mode = .prepaidTime ∧ a.allowanceOut = true) ∨ (a.mode = .prepaidGames ∧ a.used = a.allowance ∧ a.lastCounted u.slot < u.game)) := by
  unfold State.forbidden
  cases (s.lane u.home).account with
  | none => simp
  | some a => cases h : a.mode <;> simp [h]

theorem headIdle_of_head {s : State} {l : LaneIx} {t : Turn} {rest : List Turn} (queue : (s.lane l).queue = t :: rest) :
    s.headIdle l = !s.midFrame t := by
  rw [State.headIdle, State.headTurn, queue]
  rfl

theorem exec_skipTurn {s : State} {r : Slot} {l : LaneIx} (front : s.front .skipTurn r) (fits : s.fits l)
    (running : (s.lane l).session ≠ .closed) : exec (.skipTurn true (laneNumber l)) s
      = .next ((skipTurn l s).state.answered r (skipTurn l s).status (skipTurn l s).body) :=
  congrArg Host.Outcome.next (live_of_answer front (checks_of_running rfl fits running skipTurn))

/-- Another head than before, which the hand-offs follow. -/
theorem handOffs_of_changed {v s : State} {l : LaneIx} (h : v.headTurn l ≠ s.headTurn l) : v.handOffs s [l] = v.headChanged l := by
  simp [State.handOffs, h, State.each]

theorem setQueue_head (s : State) (l : LaneIx) (u : Turn) (q : List Turn) : (s.setQueue l (u :: q)).headTurn l = some u := by
  rw [State.headTurn, State.lane_setQueue_queue]
  rfl

/-- A machine keeps its state, its deck and its removal as its lane's queue changes (R113). -/
theorem machine_setQueue (s : State) (l : LaneIx) (q : List Turn) : ((s.setQueue l q).machine l).state = (s.machine l).state
    ∧ ((s.setQueue l q).machine l).deck = (s.machine l).deck ∧ ((s.setQueue l q).machine l).removal = (s.machine l).removal := by
  rw [State.setQueue, State.machine, State.lane_modLane_self, State.machine]
  split <;> exact ⟨rfl, rfl, rfl⟩

/-- What a changed queue leaves of every lane. -/
theorem fields_setQueue (s : State) (l k : LaneIx) (q : List Turn) : let x := (s.setQueue l q).lane k
    x.roster = (s.lane k).roster ∧ x.account = (s.lane k).account ∧ x.session = (s.lane k).session ∧ x.game = (s.lane k).game
      ∧ x.boundary = (s.lane k).boundary ∧ x.startLane = (s.lane k).startLane := by
  by_cases e : k = l
  · subst e
    obtain ⟨m, same⟩ := lane_setQueue_self s k q
    rw [same]
    exact ⟨rfl, rfl, rfl, rfl, rfl, rfl⟩
  · rw [State.lane_setQueue_ne _ _ _ _ e]
    exact ⟨rfl, rfl, rfl, rfl, rfl, rfl⟩

theorem gate_setQueue (s : State) (l k : LaneIx) (q : List Turn) : (s.setQueue l q).gate k = s.gate k := by
  refine gate_modLane s l k _ ?_
  split <;> rfl

/-- Settles O23: the queue turned by the lanes' cores, the hand-offs by what headChanged does for the new head. -/
theorem skipTurnMovesTheHead : Obligations.SkipTurnMovesTheHead := by
  unfold Obligations.SkipTurnMovesTheHead
  intro forbids s r l front fits running
  rw [exec_skipTurn front fits running]
  refine ⟨fun t u rest queue idle => ?_, fun t rest queue mid => ?_, fun t queue idle => ?_, fun queue => ?_⟩
  · have skip : skipTurn l s = ⟨(s.setQueue l (u :: rest ++ [t])).handOffs s [l], .ok, .queue (u :: rest ++ [t])⟩ := by
      simp [skipTurn, headIdle_of_head queue, idle, queue]
    rw [skip]
    have head : (s.setQueue l (u :: rest ++ [t])).headTurn l = some u := setQueue_head s l u (rest ++ [t])
    have changed (ne : u ≠ t) : (s.setQueue l (u :: rest ++ [t])).handOffs s [l] = (s.setQueue l (u :: rest ++ [t])).headChanged l := by
      refine handOffs_of_changed ?_
      rw [head, State.headTurn, queue]
      simpa using ne
    obtain ⟨-, -, -, -, -, clock, -, meter, hold, -⟩ := fields_of_kept
      ((kept_handOffs (s.setQueue l (u :: rest ++ [t])) s [l]).trans (kept_setQueue s l _))
    obtain ⟨session, -, -, -, -, -, queue', -, roster, account⟩ := fields_of_core
      (core_handOffs (s.setQueue l (u :: rest ++ [t])) s [l] l)
    obtain ⟨roster₀, account₀, session₀, -⟩ := fields_setQueue s l l (u :: rest ++ [t])
    obtain ⟨-, replies⟩ := frames_of_quiet (quiet_handOffs (s.setQueue l (u :: rest ++ [t])) s [l])
    refine ⟨_, rfl, queue'.trans (State.lane_setQueue_queue _ _ _), roster.trans roster₀, account.trans account₀, session.trans session₀,
      fun k hk => (lane_handOffs_ne (by simpa using hk) _ _).trans (State.lane_setQueue_ne _ _ _ _ hk),
      replies_answered replies front.2.2 _ _, clock, meter, hold, fun ne => ?_⟩
    rw [changed ne]
    obtain ⟨bowlers, accounts, -⟩ := fields_setQueue s l u.home (u :: rest ++ [t])
    obtain ⟨state, deck, removal⟩ := machine_setQueue s l (u :: rest ++ [t])
    have gate := gate_setQueue s l l (u :: rest ++ [t])
    have named : (s.setQueue l (u :: rest ++ [t])).nameOf u = s.nameOf u := by simp only [State.nameOf, State.bowler, bowlers]
    have bill := forbidden_iff s u
    rw [← forbidden_of_account accounts] at bill
    have needs := standingNeed_of_roster bowlers
    have running' : ((s.setQueue l (u :: rest ++ [t])).lane l).session ≠ .closed := by rwa [session₀]
    have billing := billing_headChanged head
    rw [gate] at billing
    have turnUp := turnUp_headChanged head
    have told := head_headChanged head
    have wakes := wakes_headChanged head
    have readies := readies_headChanged running' head
    rw [named] at turnUp
    rw [state] at wakes
    rw [state, removal, deck, needs] at readies
    generalize (s.setQueue l (u :: rest ++ [t])).headChanged l = v at *
    refine ⟨turnUp, told, fun h => billing.trans (if_pos (bill.2 h)), fun h => billing.trans (if_neg fun e => ?_), wakes, readies⟩
    obtain ⟨a, ha, hf⟩ := bill.1 e
    exact h a ha hf
  · have skip : skipTurn l s = refuse .frameOpen s := by simp [skipTurn, headIdle_of_head queue, mid]
    rw [skip]
    rfl
  · have skip : skipTurn l s = refuse .wrongState s := by simp [skipTurn, headIdle_of_head queue, idle, queue]
    rw [skip]
    rfl
  · have skip : skipTurn l s = refuse .wrongState s := by simp [skipTurn, State.headIdle, State.headTurn, queue]
    rw [skip]
    rfl

end Sys2Proof.Machine
end

section
/-! SUPPORT. The boundary of a lane as a sequence of game starts, series ends, mode changes and hand-offs: what each of these
keeps, the boundary keeps; and what each leaves of the lanes' cores and queues (R29 to R35). -/

namespace Sys2Proof.Machine

/-! ### What the boundary keeps -/

/-- What holds through a game start and a series end of a lane REACHED, a mode change and a hand-off. -/
structure State.KeptAtBoundary (G : State → Prop) : Prop where
  begins : ∀ (s : State) (l start : LaneIx), (s.lane l).boundary = .reached → G s → G (s.beginGame l start)
  ends : ∀ (s : State) (l : LaneIx), (s.lane l).boundary = .reached → G s → G (s.endSeries l)
  changes : ∀ (s : State) (p : PairIx) (m : PairMode) (c : ModeCause), G s → G (s.changeMode p m c)
  drops : ∀ (s : State) (p : PairIx), G s → G (s.dropPending p)
  hands : ∀ (s before : State) (ls : List LaneIx), G s → G (s.handOffs before ls)

/-- The core of a lane as another lane's team starts on it, or its own. -/
theorem core_beginGame (s : State) (l start k : LaneIx) : ((s.beginGame l start).lane k).core
    = { (if k = l then (s.lane l).begun start else s.lane k).core with
        queue := (s.lane k).queue ++ if k = start then frameOneTurns l ((s.lane l).begun start).roster ((s.lane l).game + 1) else [] } := by
  have begun : (s.modLane l (Lane.begun start)).lane k = if k = l then (s.lane l).begun start else s.lane k := by
    split
    · rename_i e
      rw [e, State.lane_modLane_self]
    · exact State.lane_modLane_ne _ _ _ _ ‹_›
  rw [beginGame_eq]
  by_cases e : k = start
  · subst e
    rw [core_setQueue, begun, if_pos rfl]
  · rw [State.lane_setQueue_ne _ _ _ _ e, begun, if_neg e, List.append_nil]
    split
    · rename_i e
      rw [e]
      rfl
    · rfl

theorem queue_beginGame (s : State) (l start k : LaneIx) : ((s.beginGame l start).lane k).queue
    = (s.lane k).queue ++ if k = start then frameOneTurns l ((s.lane l).begun start).roster ((s.lane l).game + 1) else [] :=
  (congrArg Lane.queue (core_beginGame s l start k) :)

/-- The lane whose team begins a game. -/
theorem fields_beginGame_self (s : State) (l start : LaneIx) : let x := (s.beginGame l start).lane l
    x.session = (s.lane l).session ∧ x.game = (s.lane l).game + 1 ∧ x.startLane = start ∧ x.boundary = .unmarked
      ∧ x.roster = ((s.lane l).begun start).roster := by
  have core := core_beginGame s l start l
  rw [if_pos rfl] at core
  exact ⟨(congrArg Lane.session core :), (congrArg Lane.game core :), (congrArg Lane.startLane core :), (congrArg Lane.boundary core :),
    (congrArg Lane.roster core :)⟩

/-- Of another lane a game that begins changes at most the queue. -/
theorem core_beginGame_ne (s : State) {l k : LaneIx} (h : k ≠ l) (start : LaneIx) : ∃ queue,
    ((s.beginGame l start).lane k).core = { (s.lane k).core with queue := queue } := by
  have core := core_beginGame s l start k
  rw [if_neg h] at core
  exact ⟨_, core⟩

/-- What a lane keeps as another lane's team begins a game. -/
theorem fields_beginGame_ne (s : State) {l k : LaneIx} (h : k ≠ l) (start : LaneIx) : let x := (s.beginGame l start).lane k
    x.session = (s.lane k).session ∧ x.gamesPlanned = (s.lane k).gamesPlanned ∧ x.game = (s.lane k).game
      ∧ x.startLane = (s.lane k).startLane ∧ x.boundary = (s.lane k).boundary ∧ x.settings = (s.lane k).settings
      ∧ x.roster = (s.lane k).roster := by
  obtain ⟨queue, core⟩ := core_beginGame_ne s h start
  exact ⟨(congrArg Lane.session core :), (congrArg Lane.gamesPlanned core :), (congrArg Lane.game core :), (congrArg Lane.startLane core :),
    (congrArg Lane.boundary core :), (congrArg Lane.settings core :), (congrArg Lane.roster core :)⟩

theorem core_endSeries (s : State) (l : LaneIx) : ((s.endSeries l).lane l).core
    = { (s.lane l).core with session := .seriesDone, boundary := .unmarked } := by
  rw [State.endSeries, core_setSession, State.lane_modLane_self]
  rfl

theorem lane_endSeries_ne (s : State) {l k : LaneIx} (h : k ≠ l) : (s.endSeries l).lane k = s.lane k := by
  rw [State.endSeries, lane_setSession_ne h, State.lane_modLane_ne _ _ _ _ h]

/-- The lane whose series ends. -/
theorem fields_endSeries_self (s : State) (l : LaneIx) : let x := (s.endSeries l).lane l
    x.session = .seriesDone ∧ x.boundary = .unmarked ∧ x.game = (s.lane l).game ∧ x.queue = (s.lane l).queue
      ∧ x.roster = (s.lane l).roster ∧ x.startLane = (s.lane l).startLane := by
  have core := core_endSeries s l
  exact ⟨(congrArg Lane.session core :), (congrArg Lane.boundary core :), (congrArg Lane.game core :), (congrArg Lane.queue core :),
    (congrArg Lane.roster core :), (congrArg Lane.startLane core :)⟩

theorem queue_endSeries (s : State) (l k : LaneIx) : ((s.endSeries l).lane k).queue = (s.lane k).queue := by
  by_cases e : k = l
  · obtain ⟨-, -, -, queue, -⟩ := fields_endSeries_self s l
    rw [e, queue]
  · rw [lane_endSeries_ne s e]

namespace State.KeptAtBoundary

variable {G : State → Prop} (h : State.KeptAtBoundary G) {s : State}

include h

theorem startAlone (hs : G s) (l : LaneIx) : G (s.startAlone l) := by
  unfold State.startAlone
  split
  · exact hs
  · rename_i marked
    have reached : (s.lane l).boundary = .reached := not_not.1 marked
    split
    · exact h.ends s l reached hs
    · split
      · exact hs
      · exact h.hands _ _ _ (h.begins s l l reached hs)

theorem startEach (hs : G s) (p : PairIx) : G (s.startEach p) := h.startAlone (h.startAlone hs _) _

theorem startBoth {p : PairIx} (both : s.bothReached p = true) (hs : G s) : G (s.startBoth p) := by
  obtain ⟨reachedA, reachedB⟩ : (s.lane (laneA p)).boundary = .reached ∧ (s.lane (laneB p)).boundary = .reached := by
    simpa [State.bothReached] using both
  refine h.hands _ _ _ (h.begins _ _ _ ?_ (h.begins _ _ _ reachedA hs))
  obtain ⟨-, -, -, -, boundary, -⟩ := fields_beginGame_ne s (laneA_ne_laneB p).symm (partner (s.lane (laneA p)).startLane)
  rw [boundary, reachedB]

theorem pairBoundary {p : PairIx} (both : s.bothReached p = true) (hs : G s) : G (s.pairBoundary p) := by
  have changed (m : PairMode) (c : ModeCause) : G (s.changeMode p m c) := h.changes s p m c hs
  unfold State.pairBoundary
  split
  · split
    · exact h.startEach (h.drops s p hs) p
    · split
      · exact hs
      · exact h.startBoth both (changed _ _)
  · exact h.startEach hs p
  · split
    · exact h.startEach (changed _ _) p
    · split
      · exact h.startEach (changed _ _) p
      · exact hs
  · split
    · exact h.startEach (changed _ _) p
    · split
      · exact hs
      · exact h.startBoth both hs

theorem takeBoundary (hs : G s) (l : LaneIx) : G (s.takeBoundary l) := by
  unfold State.takeBoundary
  split
  · exact hs
  · split
    · split
      · exact h.pairBoundary ‹_› hs
      · exact hs
    · exact h.startAlone hs l

theorem testBoundary (hs : G s) {l : LaneIx} (reached : (s.lane l).session = .open_ → s.gameEnded l = true →
    G ((s.modLane l fun x => { x with boundary := .reached }).report (s.teamDone l))) : G (s.testBoundary l) := by
  unfold State.testBoundary
  split
  · rename_i c
    simp only [Bool.and_eq_true, decide_eq_true_eq] at c
    exact h.takeBoundary (reached c.1.1 c.2) l
  · exact hs

end State.KeptAtBoundary

/-! ### The link through a boundary -/

theorem quietKeptAtBoundary (k : Link) : State.KeptAtBoundary fun t => t.link.quiet = k where
  begins _ _ _ _ h := h
  ends s l _ h := by rwa [State.endSeries, quiet_setSession]
  changes s p m c h := by rwa [State.changeMode, quiet_report]
  drops _ _ h := h
  hands s before ls h := by rwa [quiet_handOffs]

theorem link_setSession (s : State) (l : LaneIx) (st : SessionState) : (s.setSession l st).link = s.link := link_darkTest _ _

/-- A report of an alarm or of play stands in the queue (R177). -/
theorem reportKeptAtBoundary {r : Report} (urgent : r.rank ≤ 1) : State.KeptAtBoundary fun t => r ∈ t.link.reports where
  begins _ _ _ _ h := h
  ends s l _ h := by rwa [State.endSeries, link_setSession]
  changes s p m c h := (told_report (s.modPair p _) (by simp [Report.rank, Report.cls, ReportClass.rank])).1 r h urgent
  drops _ _ h := h
  hands s before ls h := (told_handOffs s before ls).1 r h urgent

theorem quiet_testBoundary (s : State) (l : LaneIx) : (s.testBoundary l).link.quiet = s.link.quiet :=
  (quietKeptAtBoundary s.link.quiet).testBoundary rfl fun _ _ => quiet_report _ _

end Sys2Proof.Machine
end

section
/-! SUPPORT. A bowler taken out of play stays out through its lane's boundary, and WITHDRAW_BOWLER and MARK_BLIND. -/

namespace Sys2Proof.Machine

/-! ### The records of a bowler as a game is added (R67) -/

/-- A record of a game new to the bowler is the one found. -/
theorem game_addGame {b : Bowler} {g : Game} (fresh : b.game g.number = none) : (b.addGame g).game g.number = some g := by
  have fresh : ∀ x ∈ b.games, ¬x.number = g.number := by simpa [Bowler.game] using fresh
  have found {gs : List Game} (sub : ∀ x ∈ gs, x ∈ b.games) : (gs ++ [g]).find? (fun x => decide (x.number = g.number)) = some g := by
    rw [List.find?_append, List.find?_eq_none.2 fun x hx => by simpa using fresh x (sub x hx)]
    simp
  unfold Bowler.addGame Bowler.game
  split
  · exact found fun _ => id
  · split
    · simp
    · rename_i old rest games
      refine found fun x hx => ?_
      rw [games]
      exact List.mem_cons_of_mem old hx

/-- The newest record outlives the record added. -/
theorem game_addGame_newest {b : Bowler} {g : Game} {n : Nat} (newest : b.games.getLast?.map (·.number) = some n)
    (distinct : (b.games.map (·.number)).Nodup) (other : n ≠ g.number) : (b.addGame g).game n = b.game n := by
  have appended (gs : List Game) : (gs ++ [g]).find? (fun x => decide (x.number = n)) = gs.find? fun x => decide (x.number = n) := by
    rw [List.find?_append, List.find?_cons_of_neg (by simpa using other.symm)]
    simp
  unfold Bowler.addGame Bowler.game
  split
  · exact appended b.games
  · rename_i full
    split
    · rename_i none
      simp [none] at newest
    · rename_i old rest games
      refine (appended rest).trans ?_
      rw [games] at newest distinct full ⊢
      rw [List.find?_cons_of_neg]
      obtain ⟨last, hlast, number⟩ := Option.map_eq_some_iff.1 newest
      cases rest with
      | nil => exact absurd (by decide : 1 < Config.gameSlots) full
      | cons r rs =>
        rw [List.getLast?_cons_cons] at hlast
        have mem : n ∈ (r :: rs).map (·.number) := List.mem_map.2 ⟨last, List.mem_of_getLast? hlast, number⟩
        have ne : old.number ≠ n := by
          rintro rfl
          exact (List.nodup_cons.1 distinct).1 mem
        simpa using ne

theorem numbers_modGame (n : Nat) {f : Game → Game} (number : ∀ g, (f g).number = g.number) (b : Bowler) :
    (b.modGame n f).games.map (·.number) = b.games.map (·.number) := by
  rw [Bowler.modGame, List.map_map]
  refine List.map_congr_left fun g _ => ?_
  simp only [Function.comp]
  split
  · exact number g
  · rfl

/-! ### A bowler out of play -/

/-- A bowler who does not play, and holds the record g of game n. -/
def Bowler.sitsOut (st : BowlerState) (n : Nat) (g : Game) (b : Bowler) : Prop := b.state = st ∧ b.game n = some g

/-- A bowler who is not taken into play by its lane's next game. -/
def Bowler.staysOut (st : BowlerState) (n : Nat) (g : Game) (next : Nat) (b : Bowler) : Prop :=
  ∀ c start, (b.joinGame c next start).sitsOut st n g ∧ ∀ g', (b.joinGame c next start).game next = some g' → g'.state ≠ .inProgress

/-- The bowler of slot slot is out of play on lane l: no turn of it stands, and no boundary brings it one. -/
structure State.OutOfPlay (l : LaneIx) (slot : Nat) (st : BowlerState) (n : Nat) (g : Game) (s : State) : Prop where
  gone : ∀ k, pairOf k = pairOf l → ∀ u ∈ (s.lane k).queue, u.home = l → u.slot ≠ slot
  out : ∃ b, s.bowler l slot = some b ∧ b.sitsOut st n g ∧ ((s.lane l).boundary = .reached → b.staysOut st n g ((s.lane l).game + 1))

theorem outOfPlay_of_core {l : LaneIx} {slot : Nat} {st : BowlerState} {n : Nat} {g : Game} {s t : State}
    (h : s.OutOfPlay l slot st n g) (core : ∀ k, (t.lane k).core = (s.lane k).core) : t.OutOfPlay l slot st n g := by
  obtain ⟨-, -, -, game, -, boundary, -, -, roster, -⟩ := fields_of_core (core l)
  obtain ⟨b, bowler, sits, stays⟩ := h.out
  refine ⟨fun k hk => ?_, b, ?_, sits, ?_⟩
  · obtain ⟨-, -, -, -, -, -, queue, -⟩ := fields_of_core (core k)
    rw [queue]
    exact h.gone k hk
  · rwa [State.bowler, roster]
  · rwa [boundary, game]

theorem bowlerAt_begun {s : State} {l : LaneIx} {slot : Nat} {b : Bowler} (bowler : s.bowler l slot = some b) (start : LaneIx) :
    bowlerAt ((s.lane l).begun start).roster slot = some (b.joinGame (s.lane l).settings ((s.lane l).game + 1) start) := by
  rw [Lane.begun, bowlerAt_map, show bowlerAt (s.lane l).roster slot = some b from bowler]
  rfl

theorem no_frameOne_of_staysOut {s : State} {l : LaneIx} {u : Turn} {st : BowlerState} {n : Nat} {g : Game} {b : Bowler}
    (bowler : s.bowler l u.slot = some b) (stays : b.staysOut st n g ((s.lane l).game + 1)) (start : LaneIx) :
    u ∉ frameOneTurns l ((s.lane l).begun start).roster ((s.lane l).game + 1) := by
  intro hu
  obtain ⟨-, plays⟩ := (mem_frameOneTurns _ _ _ _).1 hu
  rw [bowlerAt_begun bowler] at plays
  obtain ⟨g', record, inProgress⟩ := Option.map_eq_some_iff.1 plays
  exact (stays _ _).2 g' record inProgress

/-- A lane's boundary, and its partner's, bring a bowler out of play no turn. -/
theorem outOfPlayKeptAtBoundary (l : LaneIx) (slot : Nat) (st : BowlerState) (n : Nat) (g : Game) :
    State.KeptAtBoundary (State.OutOfPlay l slot st n g) where
  begins s l' start reached h := by
    obtain ⟨b, bowler, sits, stays⟩ := h.out
    refine ⟨fun k hk u hu home => ?_, ?_⟩
    · rw [queue_beginGame] at hu
      rcases List.mem_append.1 hu with hu | hu
      · exact h.gone k hk u hu home
      · split at hu
        · obtain rfl : l' = l := (home_frameOneTurns hu).symm.trans home
          rintro rfl
          exact absurd hu (no_frameOne_of_staysOut bowler (stays reached) start)
        · cases hu
    · by_cases e : l = l'
      · subst e
        obtain ⟨-, -, -, boundary, roster⟩ := fields_beginGame_self s l start
        refine ⟨b.joinGame (s.lane l).settings ((s.lane l).game + 1) start, ?_, (stays reached _ _).1, fun marked =>
          absurd (boundary.symm.trans marked) nofun⟩
        rw [State.bowler, roster, bowlerAt_begun bowler]
      · obtain ⟨-, -, game, -, boundary, -, roster⟩ := fields_beginGame_ne s e start
        refine ⟨b, ?_, sits, ?_⟩
        · rwa [State.bowler, roster]
        · rwa [boundary, game]
  ends s l' _ h := by
    obtain ⟨b, bowler, sits, stays⟩ := h.out
    refine ⟨fun k hk => by rw [queue_endSeries]; exact h.gone k hk, b, ?_, sits, fun marked => ?_⟩
    · by_cases e : l = l'
      · obtain ⟨-, -, -, -, roster, -⟩ := fields_endSeries_self s l'
        rwa [State.bowler, e, roster, ← e]
      · rwa [State.bowler, lane_endSeries_ne s e]
    · by_cases e : l = l'
      · obtain ⟨-, boundary, -⟩ := fields_endSeries_self s l'
        rw [e] at marked
        exact absurd (boundary.symm.trans marked) nofun
      · rw [lane_endSeries_ne s e] at marked ⊢
        exact stays marked
  changes s p m c h := outOfPlay_of_core h fun _ => rfl
  drops s p h := outOfPlay_of_core h fun _ => rfl
  hands s before ls h := outOfPlay_of_core h fun k => core_handOffs s before ls k

/-! ### A turn ended at the desk (R39, R40) -/

/-- The queues without a bowler's turn, before the hand-offs. -/
def State.strikeTurn (l : LaneIx) (slot : Nat) (s : State) : State :=
  (s.setQueue l ((s.lane l).queue.filter fun t => !(t.home = l && t.slot = slot))).setQueue (partner l)
    ((s.lane (partner l)).queue.filter fun t => !(t.home = l && t.slot = slot))

theorem core_removeTurn (s : State) (l : LaneIx) (slot : Nat) (k : LaneIx) :
    ((s.removeTurn l slot).lane k).core = ((s.strikeTurn l slot).lane k).core := core_handOffs (s.strikeTurn l slot) s [l, partner l] k

/-- No turn of a bowler whose turn is removed stands in its pair's queues. -/
theorem gone_removeTurn (s : State) (l : LaneIx) (slot : Nat) {k : LaneIx} (hk : pairOf k = pairOf l) :
    ∀ u ∈ ((s.removeTurn l slot).lane k).queue, u.home = l → u.slot ≠ slot := by
  intro u hu home e
  obtain ⟨-, -, -, -, -, -, queue, -⟩ := fields_of_core (core_removeTurn s l slot k)
  rw [queue, State.strikeTurn] at hu
  rcases (pairOf_eq_iff k l).1 hk with rfl | rfl
  · rw [State.lane_setQueue_ne _ _ _ _ (partner_ne k).symm, State.lane_setQueue_queue] at hu
    simp [home, e] at hu
  · rw [State.lane_setQueue_queue] at hu
    simp [home, e] at hu

/-- What the removal of a turn leaves of every lane. -/
theorem fields_removeTurn (s : State) (l : LaneIx) (slot : Nat) (k : LaneIx) : ((s.removeTurn l slot).lane k).roster = (s.lane k).roster
    ∧ ((s.removeTurn l slot).lane k).game = (s.lane k).game := by
  obtain ⟨-, -, -, game, -, -, -, -, roster, -⟩ := fields_of_core (core_removeTurn s l slot k)
  obtain ⟨roster₁, -, -, game₁, -⟩ := fields_setQueue s l k ((s.lane l).queue.filter fun t => !(t.home = l && t.slot = slot))
  rw [roster, game, State.strikeTurn, ← roster₁, ← game₁]
  obtain ⟨roster₂, -, -, game₂, -⟩ := fields_setQueue
    (s.setQueue l ((s.lane l).queue.filter fun t => !(t.home = l && t.slot = slot))) (partner l) k
    ((s.lane (partner l)).queue.filter fun t => !(t.home = l && t.slot = slot))
  exact ⟨roster₂, game₂⟩

theorem quiet_removeTurn (s : State) (l : LaneIx) (slot : Nat) : (s.removeTurn l slot).link.quiet = s.link.quiet :=
  quiet_handOffs (s.strikeTurn l slot) s [l, partner l]

/-- A bowler whose record of game n is ended by f, in the state st. -/
def Bowler.standDown (n : Nat) (f : Game → Game) (st : BowlerState) (b : Bowler) : Bowler := { b.modGame n f with state := st }

/-- A playing bowler's turn removed, and the bowler stood down, before the boundary test. -/
def State.stoodDown (l : LaneIx) (slot : Nat) (f : Game → Game) (st : BowlerState) (s : State) : State :=
  ((s.removeTurn l slot).modGame l slot (s.lane l).game f).modBowlerOf l slot fun b => { b with state := st }

theorem modBowler_modBowler (slot : Nat) (f g : Bowler → Bowler) (roster : List Bowler) :
    modBowler slot g (modBowler slot f roster) = modBowler slot (fun b => g (f b)) roster := by
  unfold modBowler
  split
  · rfl
  · exact List.modify_modify_eq _ _ _ _

theorem modLane_modLane (s : State) (l : LaneIx) (f g : Lane → Lane) : (s.modLane l f).modLane l g = s.modLane l fun x => g (f x) := by
  simp [State.modLane, State.setLane, State.lane]

theorem stoodDown_eq (s : State) (l : LaneIx) (slot : Nat) (f : Game → Game) (st : BowlerState) : s.stoodDown l slot f st
    = (s.removeTurn l slot).modLane l fun x => { x with roster := modBowler slot (Bowler.standDown (s.lane l).game f st) x.roster } := by
  rw [State.stoodDown, State.modGame, State.modBowlerOf, modLane_modLane]
  simp only [modBowler_modBowler]
  rfl

theorem queue_modLane (s : State) (l : LaneIx) (f : Lane → Lane) (h : (f (s.lane l)).queue = (s.lane l).queue) (k : LaneIx) :
    ((s.modLane l f).lane k).queue = (s.lane k).queue := by
  by_cases e : k = l
  · rw [e, State.lane_modLane_self, h]
  · rw [State.lane_modLane_ne _ _ _ _ e]

/-- The boundary test of a lane leaves out of play a bowler whom its next game does not take in. -/
theorem outOfPlay_testBoundary {s : State} {l : LaneIx} {slot n : Nat} {st : BowlerState} {g : Game} {b : Bowler}
    (gone : ∀ k, pairOf k = pairOf l → ∀ u ∈ (s.lane k).queue, u.home = l → u.slot ≠ slot) (bowler : s.bowler l slot = some b)
    (sits : b.sitsOut st n g) (stays : b.staysOut st n g ((s.lane l).game + 1)) : (s.testBoundary l).OutOfPlay l slot st n g := by
  refine (outOfPlayKeptAtBoundary l slot st n g).testBoundary ⟨gone, b, bowler, sits, fun _ => stays⟩ fun _ _ => ⟨fun k hk => ?_, b, ?_, sits, ?_⟩
  · rw [State.lane_report, queue_modLane _ _ _ rfl]
    exact gone k hk
  · rw [State.bowler, State.lane_report, State.lane_modLane_self]
    exact bowler
  · rw [State.lane_report, State.lane_modLane_self]
    exact fun _ => stays

/-- A bowler who stands down is out of play, and its lane's boundary leaves it there. -/
theorem outOfPlay_stoodDown {s : State} {l : LaneIx} {slot : Nat} {b : Bowler} {g : Game} {f : Game → Game} {st : BowlerState}
    (bowler : s.bowler l slot = some b) (record : b.game (s.lane l).game = some g) (number : ∀ g, (f g).number = g.number)
    (stays : (b.standDown (s.lane l).game f st).staysOut st (s.lane l).game (f g) ((s.lane l).game + 1)) :
    ((s.stoodDown l slot f st).testBoundary l).OutOfPlay l slot st (s.lane l).game (f g) := by
  obtain ⟨roster, game⟩ := fields_removeTurn s l slot l
  have gone := fun k hk => gone_removeTurn s l slot (k := k) hk
  rw [stoodDown_eq]
  generalize s.removeTurn l slot = u at roster game gone
  refine outOfPlay_testBoundary (b := b.standDown (s.lane l).game f st) (fun k hk => ?_) ?_ ⟨rfl, ?_⟩ ?_
  · rw [queue_modLane _ _ _ rfl]
    exact gone k hk
  · rw [State.bowler, State.lane_modLane_self, bowlerAt_modBowler, if_pos rfl, roster, show bowlerAt (s.lane l).roster slot = some b from bowler]
    rfl
  · refine (game_modGame number (s.lane l).game (s.lane l).game b).trans ?_
    rw [if_pos rfl, record]
    rfl
  · rwa [State.lane_modLane_self, game]

theorem quiet_stoodDown (s : State) (l : LaneIx) (slot : Nat) (f : Game → Game) (st : BowlerState) :
    ((s.stoodDown l slot f st).testBoundary l).link.quiet = s.link.quiet := by
  rw [quiet_testBoundary, stoodDown_eq]
  exact quiet_removeTurn s l slot

/-- A WITHDRAWN bowler is taken into no game. -/
theorem staysOut_withdrawn {b : Bowler} {n : Nat} {g : Game} {f : Game → Game} (record : b.game n = some g) (number : ∀ g, (f g).number = g.number)
    (fresh : b.game (n + 1) = none) : (b.standDown n f .withdrawn).staysOut .withdrawn n (f g) (n + 1) := by
  intro c start
  have games (m : Nat) : (b.standDown n f .withdrawn).game m = if m = n then (b.game m).map f else b.game m := game_modGame number n m b
  refine ⟨⟨rfl, (games n).trans ?_⟩, fun g' hg' => ?_⟩
  · rw [if_pos rfl, record]
    rfl
  · have none := (games (n + 1)).trans (if_neg (Nat.succ_ne_self n))
    exact absurd (hg'.symm.trans (none.trans fresh)) nofun

/-- A BLIND bowler's record of the next game is BLIND, and its newest record stays. -/
theorem staysOut_blind {b : Bowler} {n : Nat} {g : Game} {f : Game → Game} (record : b.game n = some g) (number : ∀ g, (f g).number = g.number)
    (fresh : b.game (n + 1) = none) (newest : b.games.getLast?.map (·.number) = some n) (distinct : (b.games.map (·.number)).Nodup) :
    (b.standDown n f .blind).staysOut .blind n (f g) (n + 1) := by
  intro c start
  have games (m : Nat) : (b.standDown n f .blind).game m = if m = n then (b.game m).map f else b.game m := game_modGame number n m b
  have numbers : (b.standDown n f .blind).games.map (·.number) = b.games.map (·.number) := numbers_modGame n number b
  have old : (b.standDown n f .blind).game n = some (f g) := by rw [games, if_pos rfl, record]; rfl
  have new : (b.standDown n f .blind).game (n + 1) = none := by rw [games, if_neg (Nat.succ_ne_self n), fresh]
  have newest' : (b.standDown n f .blind).games.getLast?.map (·.number) = some n := by
    rw [← newest, ← List.getLast?_map, numbers, List.getLast?_map]
  have state : (b.standDown n f .blind).state = .blind := rfl
  rw [← numbers] at distinct
  generalize b.standDown n f .blind = d at old new newest' distinct state
  have joined : d.joinGame c (n + 1) start
      = Bowler.addGame (Game.start c (n + 1) start d.average d.fixed true) { d with applied := d.average } := by
    simp [Bowler.joinGame, Bowler.startGame, state]
  have kept : (d.joinGame c (n + 1) start).state = .blind := by
    rw [joined, ← state, Bowler.addGame]
    repeat' split
    all_goals rfl
  refine ⟨⟨kept, ?_⟩, fun g' hg' => ?_⟩
  · rw [joined]
    exact (game_addGame_newest (b := { d with applied := d.average }) newest' distinct (Nat.succ_ne_self n).symm).trans old
  · rw [joined] at hg'
    have found := game_addGame (b := { d with applied := d.average }) (g := Game.start c (n + 1) start d.average d.fixed true) new
    obtain rfl := Option.some.inj (found.symm.trans hg')
    simp [Game.start]

end Sys2Proof.Machine
end

section
/-! SUPPORT. WITHDRAW_BOWLER and MARK_BLIND carried out. -/

namespace Sys2Proof.Machine

theorem exec_withdrawBowler {s : State} {r : Slot} {l : LaneIx} {slot : Nat} {b : Bowler} (front : s.front .withdrawBowler r) (fits : s.fits l)
    (running : (s.lane l).session ≠ .closed) (bowler : s.bowler l slot = some b) : exec (.withdrawBowler true (laneNumber l) slot) s
      = .next ((withdrawBowler slot b l s).state.answered r (withdrawBowler slot b l s).status (withdrawBowler slot b l s).body) :=
  congrArg Host.Outcome.next (live_of_answer front
    ((checks_of_running rfl fits running _).trans (checkSlot_of_bowler bowler (withdrawBowler slot))))

theorem exec_markBlind {s : State} {r : Slot} {l : LaneIx} {slot : Nat} {b : Bowler} (front : s.front .markBlind r) (fits : s.fits l)
    (running : (s.lane l).session ≠ .closed) (bowler : s.bowler l slot = some b) : exec (.markBlind true (laneNumber l) slot) s
      = .next ((markBlind slot b l s).state.answered r (markBlind slot b l s).status (markBlind slot b l s).body) :=
  congrArg Host.Outcome.next (live_of_answer front
    ((checks_of_running rfl fits running _).trans (checkSlot_of_bowler bowler (markBlind slot))))

/-- What an answer to a request leaves of the lanes and the link's frames. -/
theorem answered_of_quiet {s t : State} {r : Slot} {kind : RequestKind} (front : s.front kind r) (quiet : t.link.quiet = s.link.quiet)
    (st : Status) (body : ReplyBody) : (t.answered r st body).link.slots = markBuilt s.link.slots
      ∧ (t.answered r st body).link.replies = s.link.replies ++ [⟨kind.code + 0x80, r.tag, st, body⟩] := by
  obtain ⟨slots, replies⟩ := frames_of_quiet quiet
  exact ⟨congrArg markBuilt slots, replies_answered replies front.2.2 st body⟩

theorem playing_iff (b : Bowler) (n : Nat) : b.playing n = true ↔ b.state = .active ∧ ∃ g, b.game n = some g ∧ g.state = .inProgress := by
  simp [Bowler.playing]

/-- No turn of a bowler out of play stands on its lane or the partner. -/
theorem State.OutOfPlay.away {l : LaneIx} {slot : Nat} {st : BowlerState} {n : Nat} {g : Game} {s : State} (h : s.OutOfPlay l slot st n g) :
    ∀ u ∈ (s.lane l).queue ++ (s.lane (partner l)).queue, u.home = l → u.slot ≠ slot := by
  intro u hu
  rcases List.mem_append.1 hu with hu | hu
  · exact h.gone l rfl u hu
  · exact h.gone (partner l) (pairOf_partner l) u hu

theorem withdrawBowler_of_playing {s : State} {l : LaneIx} {slot : Nat} {b : Bowler} (playing : b.playing (s.lane l).game = true)
    (idle : s.bowlerMidFrame l slot = false) : (withdrawBowler slot b l s).status = .ok
      ∧ (withdrawBowler slot b l s).state = (s.stoodDown l slot (fun g => { g with state := .withdrawn }) .withdrawn).testBoundary l
      ∧ (withdrawBowler slot b l s).body = .withdrawn slot .withdrawn ((withdrawBowler slot b l s).state.recordState l slot (s.lane l).game) := by
  obtain ⟨active, -⟩ := (playing_iff b _).1 playing
  simp [withdrawBowler, active, idle, State.withdrawBowler, playing, State.stoodDown]

theorem markBlind_of_playing {s : State} {l : LaneIx} {slot : Nat} {b : Bowler} (playing : b.playing (s.lane l).game = true)
    (fresh : s.gameBegun l slot b = false) : (markBlind slot b l s).status = .ok
      ∧ (markBlind slot b l s).state = (s.stoodDown l slot (Game.blind (s.lane l).settings b.applied) .blind).testBoundary l
      ∧ (markBlind slot b l s).body = .blind slot .blind (some (b.applied - (s.lane l).settings.penalty,
          ((b.game (s.lane l).game).map (·.handicap)).getD 0)) := by
  obtain ⟨active, -⟩ := (playing_iff b _).1 playing
  simp [markBlind, active, fresh, playing, State.blindBowler, State.stoodDown, blindScoreOf]

/-- Settles O22: the refusals by the checks in order, the playing bowler by what its lane's boundary keeps. -/
theorem withdrawAndMarkBlind : Obligations.WithdrawAndMarkBlind := by
  unfold Obligations.WithdrawAndMarkBlind
  intro s r l slot b fits running bowler
  refine ⟨fun front => ?_, fun front => ?_⟩
  · rw [exec_withdrawBowler front fits running bowler]
    refine ⟨fun gone => ?_, fun here mid => ?_, fun here idle out => ?_, fun playing idle fresh => ?_⟩
    · rw [withdrawBowler, if_pos gone]
    · rw [withdrawBowler, if_neg here, if_pos mid]
      rfl
    · simp only [withdrawBowler, if_neg here, idle, out, State.withdrawBowler, Bool.false_eq_true, if_false]
      rw [modBowlerOf_of_bowler bowler]
      exact ⟨_, rfl⟩
    · obtain ⟨-, g, record, -⟩ := (playing_iff b _).1 playing
      obtain ⟨ok, state, body⟩ := withdrawBowler_of_playing playing idle
      have out := outOfPlay_stoodDown (f := fun g => { g with state := .withdrawn }) bowler record (fun _ => rfl)
        (staysOut_withdrawn record (fun _ => rfl) fresh)
      have quiet := quiet_stoodDown s l slot (fun g => { g with state := .withdrawn }) .withdrawn
      rw [ok, body, state]
      generalize State.testBoundary l _ = t at out quiet
      obtain ⟨b', bowler', ⟨withdrawn, record'⟩, -⟩ := out.out
      obtain ⟨slots, replies⟩ := answered_of_quiet front quiet .ok (.withdrawn slot .withdrawn (t.recordState l slot (s.lane l).game))
      have ended : t.recordState l slot (s.lane l).game = some .withdrawn := by simp [State.recordState, bowler', record']
      rw [ended] at slots replies ⊢
      exact ⟨_, b', rfl, bowler', withdrawn, by rw [record']; rfl, out.away, slots, replies⟩
  · rw [exec_markBlind front fits running bowler]
    refine ⟨fun gone => ?_, fun blind => ?_, fun live begun => ?_, fun live fresh out => ?_, fun playing fresh next newest distinct => ?_⟩
    · rw [markBlind, if_pos gone]
      rfl
    · simp [markBlind, blind]
    · have here : b.state ≠ .withdrawn ∧ b.state ≠ .blind := by rcases live with e | e <;> simp [e]
      rw [markBlind, if_neg here.1, if_neg here.2, if_pos begun]
      rfl
    · have here : b.state ≠ .withdrawn ∧ b.state ≠ .blind := by rcases live with e | e <;> simp [e]
      simp only [markBlind, if_neg here.1, if_neg here.2, fresh, out, Bool.false_eq_true, if_false]
      rw [modBowlerOf_of_bowler bowler]
    · obtain ⟨-, g, record, -⟩ := (playing_iff b _).1 playing
      obtain ⟨ok, state, body⟩ := markBlind_of_playing playing fresh
      have out := outOfPlay_stoodDown (f := Game.blind (s.lane l).settings b.applied) bowler record (fun _ => rfl)
        (staysOut_blind record (fun _ => rfl) next newest distinct)
      have quiet := quiet_stoodDown s l slot (Game.blind (s.lane l).settings b.applied) .blind
      rw [ok, body, state, record]
      generalize State.testBoundary l _ = t at out quiet
      obtain ⟨b', bowler', ⟨blind, record'⟩, -⟩ := out.out
      obtain ⟨slots, replies⟩ := answered_of_quiet front quiet .ok
        (.blind slot .blind (some (b.applied - (s.lane l).settings.penalty, g.handicap)))
      exact ⟨_, b', _, rfl, bowler', blind, record', rfl, rfl, out.away, slots, replies⟩

end Sys2Proof.Machine
end

section
/-! SUPPORT. A lane's sheet, which a boundary reads; the next game of a team as the lane after shows it, and a SEPARATE lane
at its boundary (R30, R31, R61 to R63). -/

namespace Sys2Proof.Machine

/-! ### A lane's sheet -/

/-- A lane's core without its queue and its boundary mark. -/
def Lane.sheet (x : Lane) : Lane := { x.core with queue := [], boundary := .unmarked }

/-- What equal sheets say. -/
theorem fields_of_sheet {x y : Lane} (h : y.sheet = x.sheet) : y.session = x.session ∧ y.gamesPlanned = x.gamesPlanned ∧ y.game = x.game
    ∧ y.startLane = x.startLane ∧ y.settings = x.settings ∧ y.roster = x.roster := by
  cases x
  cases y
  simp only [Lane.sheet, Lane.core, Lane.mk.injEq] at h
  simp only [h, and_self]

theorem sheet_of_core {x y : Lane} (h : y.core = x.core) : y.sheet = x.sheet :=
  congrArg (fun z : Lane => { z with queue := [], boundary := .unmarked }) h

theorem sheet_setQueue (s : State) (l k : LaneIx) (q : List Turn) : ((s.setQueue l q).lane k).sheet = (s.lane k).sheet := by
  by_cases e : k = l
  · subst e
    obtain ⟨m, same⟩ := lane_setQueue_self s k q
    rw [same]
    rfl
  · rw [State.lane_setQueue_ne _ _ _ _ e]

theorem sheet_beginGame_ne (s : State) {l k : LaneIx} (h : k ≠ l) (start : LaneIx) :
    ((s.beginGame l start).lane k).sheet = (s.lane k).sheet := by
  obtain ⟨queue, core⟩ := core_beginGame_ne s h start
  exact congrArg (fun z : Lane => { z with queue := [], boundary := .unmarked }) core

/-- The series of a lane ends by its own sheet. -/
theorem seriesEnds_of_sheet {s t : State} {l : LaneIx} (h : (t.lane l).sheet = (s.lane l).sheet) : t.seriesEnds l = s.seriesEnds l := by
  obtain ⟨-, planned, game, -, -, roster⟩ := fields_of_sheet h
  simp only [State.seriesEnds, planned, game, roster]

theorem gameEnded_of_sheet {s t : State} {l : LaneIx} (h : (t.lane l).sheet = (s.lane l).sheet) : t.gameEnded l = s.gameEnded l := by
  obtain ⟨-, -, game, -, -, roster⟩ := fields_of_sheet h
  simp only [State.gameEnded, game, roster]

theorem nextUnplayed_of_sheet {s t : State} {l : LaneIx} (h : (t.lane l).sheet = (s.lane l).sheet) (fresh : s.nextUnplayed l) :
    t.nextUnplayed l := by
  obtain ⟨-, -, game, -, -, roster⟩ := fields_of_sheet h
  rwa [State.nextUnplayed, game, roster]

theorem nextTurns_of_sheet {s t : State} {l : LaneIx} (h : (t.lane l).sheet = (s.lane l).sheet) : t.nextTurns l = s.nextTurns l := by
  obtain ⟨-, -, game, -, -, roster⟩ := fields_of_sheet h
  simp only [State.nextTurns, game, roster]

/-- The next game of a team, by its lane's sheet before and its lane's sheet and mark after. -/
theorem wentOn_of_sheet {s s' t t' : State} {h start : LaneIx} (went : s.wentOn t h start) (before : (s'.lane h).sheet = (s.lane h).sheet)
    (after : (t'.lane h).sheet = (t.lane h).sheet) (mark : (t'.lane h).boundary = (t.lane h).boundary) : s'.wentOn t' h start := by
  obtain ⟨session, -, game, -, settings, roster⟩ := fields_of_sheet before
  obtain ⟨session', -, game', startLane', -, roster'⟩ := fields_of_sheet after
  simp only [State.wentOn, session, game, settings, roster, session', game', startLane', roster', mark]
  exact went

/-! ### The next game of a team -/

theorem addGame_fields (g : Game) (b : Bowler) : (b.addGame g).name = b.name ∧ (b.addGame g).average = b.average
    ∧ (b.addGame g).applied = b.applied ∧ (b.addGame g).fixed = b.fixed ∧ (b.addGame g).state = b.state := by
  unfold Bowler.addGame
  repeat' split
  all_goals exact ⟨rfl, rfl, rfl, rfl, rfl⟩

/-- A bowler not WITHDRAWN as taken into a game. -/
theorem joinGame_eq {b : Bowler} (here : b.state ≠ .withdrawn) (c : ScoreSettings) (n : Nat) (start : LaneIx) : b.joinGame c n start
    = Bowler.addGame (Game.start c n start b.average b.fixed (b.state = BowlerState.blind))
        { b with applied := b.average, state := if b.state = .waiting then .active else b.state } := by
  rw [Bowler.joinGame]
  cases e : b.state with
  | active => simp [Bowler.startGame, e]
  | waiting => simp [Bowler.startGame]
  | blind => simp [Bowler.startGame, e]
  | withdrawn => exact absurd e here

theorem joinGame_withdrawn {b : Bowler} (gone : b.state = .withdrawn) (c : ScoreSettings) (n : Nat) (start : LaneIx) : b.joinGame c n start = b := by
  rw [Bowler.joinGame, gone]

theorem game_joinGame {b : Bowler} (here : b.state ≠ .withdrawn) {n : Nat} (fresh : b.game n = none) (c : ScoreSettings) (start : LaneIx) :
    (b.joinGame c n start).game n = some (Game.start c n start b.average b.fixed (b.state = BowlerState.blind)) := by
  rw [joinGame_eq here]
  exact game_addGame (g := Game.start c n start b.average b.fixed (b.state = BowlerState.blind)) fresh

theorem balls_start (c : ScoreSettings) (n : Nat) (start : LaneIx) (applied : Nat) (fixed : Option Nat) (blind : Bool) :
    (Game.start c n start applied fixed blind).balls = [] := rfl

/-- A team that begins its next game has gone on to it. -/
theorem wentOn_beginGame {s : State} {l : LaneIx} (fresh : s.nextUnplayed l) (start : LaneIx) : s.wentOn (s.beginGame l start) l start := by
  obtain ⟨session, game, startLane, boundary, roster⟩ := fields_beginGame_self s l start
  refine ⟨game, startLane, boundary, session, ?_, fun i b hb => ?_⟩
  · rw [roster, Lane.begun, List.length_map]
  · refine ⟨b.joinGame (s.lane l).settings ((s.lane l).game + 1) start, ?_, fun gone => joinGame_withdrawn gone _ _ _, fun here => ?_⟩
    · rw [roster, Lane.begun, List.getElem?_map, hb]
      rfl
    · have record := game_joinGame here (fresh b (List.mem_of_getElem? hb)) (s.lane l).settings start
      obtain ⟨name, average, applied, fixed, state⟩ := addGame_fields
        (Game.start (s.lane l).settings ((s.lane l).game + 1) start b.average b.fixed (b.state = BowlerState.blind))
        { b with applied := b.average, state := if b.state = .waiting then .active else b.state }
      rw [← joinGame_eq here] at name average applied fixed state
      refine ⟨name, average, applied, fixed, state, _, record, rfl, balls_start _ _ _ _ _ _, ?_, ?_, rfl⟩
      · simp [Game.start]
      · simp [Game.start, blindScoreOf]

theorem slotted_append (roster : List Bowler) (b : Bowler) : slotted (roster ++ [b]) = slotted roster ++ [(roster.length + 1, b)] := by
  simp [slotted, List.zipIdx_append]

theorem frameOneTurns_append (home : LaneIx) (roster : List Bowler) (b : Bowler) (n : Nat) : frameOneTurns home (roster ++ [b]) n
    = frameOneTurns home roster n
      ++ if ((b.game n).map (·.state)) = some .inProgress then [⟨home, roster.length + 1, n, 1⟩] else [] := by
  simp only [frameOneTurns, recordsOf, slotted_append, List.filterMap_append]
  congr 1
  cases e : b.game n with
  | none => simp [e]
  | some g => by_cases h : g.state = .inProgress <;> simp [e, h]

/-- A bowler with no record of the game is in play in it after joining where it is ACTIVE or WAITING. -/
theorem playing_joinGame {b : Bowler} {n : Nat} (fresh : b.game n = none) (c : ScoreSettings) (start : LaneIx) :
    (((b.joinGame c n start).game n).map (·.state)) = some .inProgress ↔ b.state = .active ∨ b.state = .waiting := by
  by_cases gone : b.state = .withdrawn
  · rw [joinGame_withdrawn gone, fresh]
    simp [gone]
  · rw [game_joinGame gone fresh]
    cases e : b.state <;> simp_all [Game.start]

theorem frameOneTurns_joined (home : LaneIx) (c : ScoreSettings) (n : Nat) (start : LaneIx) (roster : List Bowler)
    (fresh : ∀ b ∈ roster, b.game n = none) : frameOneTurns home (roster.map (Bowler.joinGame c n start)) n
      = ((List.range roster.length).filter fun i => (roster[i]?).any fun b => b.state = .active || b.state = .waiting).map
          fun i => ⟨home, i + 1, n, 1⟩ := by
  induction roster using List.reverseRecOn with
  | nil => rfl
  | append_singleton bs b ih =>
    have before : (List.range bs.length).filter (fun i => ((bs ++ [b])[i]?).any fun b => b.state = .active || b.state = .waiting)
        = (List.range bs.length).filter fun i => (bs[i]?).any fun b => b.state = .active || b.state = .waiting :=
      List.filter_congr fun i hi => by rw [List.getElem?_append_left (List.mem_range.1 hi)]
    rw [List.map_append, List.map_singleton, frameOneTurns_append, ih fun x hx => fresh x (List.mem_append_left _ hx), List.length_append,
      List.length_singleton, List.range_succ, List.filter_append, List.map_append, before, List.length_map]
    congr 1
    simp only [playing_joinGame (fresh b (by simp))]
    by_cases plays : b.state = .active ∨ b.state = .waiting <;> simp [plays]

/-- The frame-1 turns of a team that begins its next game. -/
theorem frameOneTurns_begun {s : State} {l : LaneIx} (fresh : s.nextUnplayed l) (start : LaneIx) :
    frameOneTurns l ((s.lane l).begun start).roster ((s.lane l).game + 1) = s.nextTurns l :=
  frameOneTurns_joined l (s.lane l).settings ((s.lane l).game + 1) start (s.lane l).roster fresh

/-! ### A lane that goes on alone -/

/-- Lane k has gone, from s to t, its own way at its boundary: its series over, held, or on with its next game at home. -/
def State.wentAlone (s t : State) (k : LaneIx) : Prop :=
  if s.seriesEnds k = true then
    (t.lane k).session = .seriesDone ∧ (t.lane k).boundary = .unmarked ∧ (t.lane k).game = (s.lane k).game
      ∧ (t.lane k).roster = (s.lane k).roster
  else if s.hold = true then (t.lane k).boundary = .reached ∧ (t.lane k).game = (s.lane k).game ∧ (t.lane k).session = (s.lane k).session
      ∧ (t.lane k).roster = (s.lane k).roster ∧ (t.lane k).startLane = (s.lane k).startLane
  else s.wentOn t k k

theorem wentAlone_of_sheet {s s' t t' : State} {k : LaneIx} (went : s.wentAlone t k) (before : (s'.lane k).sheet = (s.lane k).sheet)
    (hold : s'.hold = s.hold) (after : (t'.lane k).sheet = (t.lane k).sheet) (mark : (t'.lane k).boundary = (t.lane k).boundary) :
    s'.wentAlone t' k := by
  obtain ⟨session, -, game, startLane, -, roster⟩ := fields_of_sheet before
  obtain ⟨session', -, game', startLane', -, roster'⟩ := fields_of_sheet after
  simp only [State.wentAlone, seriesEnds_of_sheet before, hold, session, game, startLane, roster, session', game', startLane', roster', mark]
    at went ⊢
  split
  · rwa [if_pos ‹_›] at went
  · rw [if_neg ‹_›] at went
    split
    · rwa [if_pos ‹_›] at went
    · rw [if_neg ‹_›] at went
      exact wentOn_of_sheet went before after mark

/-- A lane REACHED that is taken on as a SEPARATE lane goes its own way. -/
theorem wentAlone_startAlone {s : State} {l : LaneIx} (reached : (s.lane l).boundary = .reached) (fresh : s.nextUnplayed l) :
    s.wentAlone (s.startAlone l) l := by
  rw [State.wentAlone, State.startAlone, if_neg (not_not.2 reached)]
  split
  · rename_i ends
    obtain ⟨session, boundary, game, -, roster, -⟩ := fields_endSeries_self s l
    exact ⟨session, boundary, game, roster⟩
  · split
    · exact ⟨reached, rfl, rfl, rfl, rfl⟩
    · have core := core_handOffs (s.beginGame l l) s [l] l
      obtain ⟨-, -, -, -, -, mark, -⟩ := fields_of_core core
      exact wentOn_of_sheet (wentOn_beginGame fresh l) rfl (sheet_of_core core) mark

/-- The queue of a lane taken on as a SEPARATE lane. -/
theorem queue_startAlone {s : State} {l : LaneIx} (reached : (s.lane l).boundary = .reached) (fresh : s.nextUnplayed l) :
    ((s.startAlone l).lane l).queue = if s.seriesEnds l = true ∨ s.hold = true then (s.lane l).queue else (s.lane l).queue ++ s.nextTurns l := by
  rw [State.startAlone, if_neg (not_not.2 reached)]
  by_cases ends : s.seriesEnds l = true
  · rw [if_pos ends, if_pos (.inl ends), queue_endSeries]
  · rw [if_neg ends]
    by_cases held : s.hold = true
    · rw [if_pos held, if_pos (.inr held)]
    · obtain ⟨-, -, -, -, -, -, queue, -⟩ := fields_of_core (core_handOffs (s.beginGame l l) s [l] l)
      rw [if_neg held, if_neg (not_or.2 ⟨ends, held⟩), queue, queue_beginGame, if_pos rfl, frameOneTurns_begun fresh]

end Sys2Proof.Machine
end

section
/-! SUPPORT. The end of a frame: the turn placed again or taken away, and the boundary of its home lane (R27 to R35). -/

namespace Sys2Proof.Machine

theorem boundary_of_core {x y : Lane} (h : y.core = x.core) : y.boundary = x.boundary := by
  obtain ⟨-, -, -, -, -, boundary, -⟩ := fields_of_core h
  exact boundary

theorem queue_of_core {x y : Lane} (h : y.core = x.core) : y.queue = x.queue := by
  obtain ⟨-, -, -, -, -, -, queue, -⟩ := fields_of_core h
  exact queue

/-! ### Both lanes of a pair -/

@[simp] theorem unstationed_handOffs (s before : State) (ls : List LaneIx) (p : PairIx) :
    ((s.handOffs before ls).pair p).unstationed = (s.pair p).unstationed :=
  State.each_keeps (fun s => (s.pair p).unstationed) _ _
    (fun l _ s => by rw [State.headChanged, unstationed_handHead, unstationed_reportHead]) s

/-- A pair that keeps all but its station. -/
theorem pair_of_unstationed {x y : Pair} (h : y.unstationed = x.unstationed) : y = { x with station := y.station } := by
  cases x
  cases y
  simp only [Pair.unstationed, Pair.mk.injEq] at h
  obtain ⟨rfl, rfl, rfl, rfl, rfl, -⟩ := h
  rfl

theorem modes_startAlone (s : State) (l : LaneIx) (p : PairIx) : (s.startAlone l).modes p = s.modes p :=
  startAlone_keeps (fun s => s.modes p) l (fun _ _ => rfl) (fun s st => modes_of_unstationed (unstationed_setSession s l st p))
    (fun s before => modes_handOffs s before _ p) s

theorem hold_startAlone (s : State) (l : LaneIx) : (s.startAlone l).hold = s.hold := by
  obtain ⟨-, -, -, -, -, -, -, -, hold, -⟩ := fields_of_kept (kept_startAlone s l)
  exact hold

/-- Two REACHED lanes taken on as SEPARATE lanes each go their own way. -/
theorem wentAlone_startEach {s : State} {p : PairIx} (both : s.bothReached p = true) (freshA : s.nextUnplayed (laneA p))
    (freshB : s.nextUnplayed (laneB p)) : s.wentAlone (s.startEach p) (laneA p) ∧ s.wentAlone (s.startEach p) (laneB p) := by
  obtain ⟨reachedA, reachedB⟩ : (s.lane (laneA p)).boundary = .reached ∧ (s.lane (laneB p)).boundary = .reached := by
    simpa [State.bothReached] using both
  have other : (s.startAlone (laneA p)).lane (laneB p) = s.lane (laneB p) := lane_startAlone_ne (laneA_ne_laneB p).symm s
  have first : (s.startEach p).lane (laneA p) = (s.startAlone (laneA p)).lane (laneA p) := lane_startAlone_ne (laneA_ne_laneB p) _
  constructor
  · exact wentAlone_of_sheet (wentAlone_startAlone reachedA freshA) rfl rfl (by rw [first]) (by rw [first])
  · have second := wentAlone_startAlone (s := s.startAlone (laneA p)) (l := laneB p) (by rw [other, reachedB])
      (nextUnplayed_of_sheet (by rw [other]) freshB)
    exact wentAlone_of_sheet second (by rw [other]) (hold_startAlone s _).symm rfl rfl

/-- Both teams of an ALTERNATE pair begin their next games, each opposite its last start. -/
theorem wentOn_startBoth {s : State} {p : PairIx} (freshA : s.nextUnplayed (laneA p)) (freshB : s.nextUnplayed (laneB p)) :
    s.wentOn (s.startBoth p) (laneA p) (partner (s.lane (laneA p)).startLane)
      ∧ s.wentOn (s.startBoth p) (laneB p) (partner (s.lane (laneB p)).startLane) := by
  have core (k : LaneIx) := core_handOffs ((s.beginGame (laneA p) (partner (s.lane (laneA p)).startLane)).beginGame (laneB p)
    (partner (s.lane (laneB p)).startLane)) s [laneA p, laneB p] k
  have mark (k : LaneIx) : ((s.startBoth p).lane k).boundary = _ := boundary_of_core (core k)
  have before := sheet_beginGame_ne s (laneA_ne_laneB p).symm (partner (s.lane (laneA p)).startLane)
  constructor
  · have after := sheet_beginGame_ne (s.beginGame (laneA p) (partner (s.lane (laneA p)).startLane)) (laneA_ne_laneB p)
      (partner (s.lane (laneB p)).startLane)
    obtain ⟨-, -, -, -, same, -⟩ := fields_beginGame_ne (s.beginGame (laneA p) (partner (s.lane (laneA p)).startLane)) (laneA_ne_laneB p)
      (partner (s.lane (laneB p)).startLane)
    exact wentOn_of_sheet (wentOn_beginGame freshA _) rfl ((sheet_of_core (core _)).trans after) ((mark _).trans same)
  · exact wentOn_of_sheet (wentOn_beginGame (nextUnplayed_of_sheet before freshB) _) before.symm (sheet_of_core (core _)) (mark _)

theorem queue_startBoth {s : State} {p : PairIx} (freshA : s.nextUnplayed (laneA p)) (freshB : s.nextUnplayed (laneB p)) (k : LaneIx) :
    ((s.startBoth p).lane k).queue = (s.lane k).queue
      ++ (if partner (s.lane (laneA p)).startLane = k then s.nextTurns (laneA p) else [])
      ++ if partner (s.lane (laneB p)).startLane = k then s.nextTurns (laneB p) else [] := by
  obtain ⟨-, -, -, -, -, -, queue, -⟩ := fields_of_core (core_handOffs
    ((s.beginGame (laneA p) (partner (s.lane (laneA p)).startLane)).beginGame (laneB p) (partner (s.lane (laneB p)).startLane)) s
    [laneA p, laneB p] k)
  have before := sheet_beginGame_ne s (laneA_ne_laneB p).symm (partner (s.lane (laneA p)).startLane)
  rw [State.startBoth, queue, queue_beginGame, queue_beginGame, frameOneTurns_begun freshA,
    frameOneTurns_begun (nextUnplayed_of_sheet before freshB), nextTurns_of_sheet before]
  simp only [eq_comm (a := k)]

theorem modes_startBoth (s : State) (p q : PairIx) : (s.startBoth p).modes q = s.modes q := by
  rw [State.startBoth, modes_handOffs]
  rfl

/-! ### A lane brought to its boundary -/

/-- Lane h made REACHED, with the report of its game (R29). -/
def State.reach (h : LaneIx) (s : State) : State := (s.modLane h fun x => { x with boundary := .reached }).report (s.teamDone h)

theorem testBoundary_of_ended {s : State} {h : LaneIx} (isOpen : (s.lane h).session = .open_) (unmarked : (s.lane h).boundary = .unmarked)
    (ended : s.gameEnded h = true) : s.testBoundary h = (s.reach h).takeBoundary h := by
  simp only [State.testBoundary, isOpen, unmarked, ended, decide_true, Bool.and_self, if_true]
  rfl

theorem testBoundary_of_playing {s : State} {h : LaneIx} (off : (s.lane h).session ≠ .open_ ∨ s.gameEnded h = false) : s.testBoundary h = s := by
  rw [State.testBoundary, if_neg]
  rcases off with off | off <;> simp [off]

/-- The state s as a tenth frame leaves it: w has its sheets, its modes and its hold, the queues left, and lane h REACHED. -/
structure State.Brought (s : State) (h : LaneIx) (left : LaneIx → List Turn) (w : State) : Prop where
  sheet : ∀ k, (w.lane k).sheet = (s.lane k).sheet
  queue : ∀ k, (w.lane k).queue = left k
  reached : (w.lane h).boundary = .reached
  mark : ∀ k, k ≠ h → (w.lane k).boundary = (s.lane k).boundary
  hold : w.hold = s.hold
  pair : ∀ p, (w.pair p).unstationed = (s.pair p).unstationed

/-- The head turn of lane l taken away, with its hand-offs. -/
def State.tookHead (l : LaneIx) (rest : List Turn) (s : State) : State := (s.setQueue l rest).handOffs s [l]

theorem queue_tookHead (s : State) (l : LaneIx) (rest : List Turn) (k : LaneIx) :
    ((s.tookHead l rest).lane k).queue = if k = l then rest else (s.lane k).queue := by
  rw [State.tookHead, queue_of_core (core_handOffs _ _ _ k)]
  split
  · rename_i e
    rw [e, State.lane_setQueue_queue]
  · rw [State.lane_setQueue_ne _ _ _ _ ‹_›]

theorem sheet_tookHead (s : State) (l : LaneIx) (rest : List Turn) (k : LaneIx) :
    ((s.tookHead l rest).lane k).sheet = (s.lane k).sheet :=
  (sheet_of_core (core_handOffs (s.setQueue l rest) s [l] k)).trans (sheet_setQueue s l k rest)

theorem boundary_tookHead (s : State) (l : LaneIx) (rest : List Turn) (k : LaneIx) :
    ((s.tookHead l rest).lane k).boundary = (s.lane k).boundary := by
  obtain ⟨-, -, -, -, boundary, -⟩ := fields_setQueue s l k rest
  exact (boundary_of_core (core_handOffs (s.setQueue l rest) s [l] k)).trans boundary

theorem teamDone_of_sheet {s t : State} {h : LaneIx} (same : (t.lane h).sheet = (s.lane h).sheet) : t.teamDone h = s.teamDone h := by
  obtain ⟨-, -, game, -, -, roster⟩ := fields_of_sheet same
  simp only [State.teamDone, game, roster]

theorem brought_tookHead (s : State) (l h : LaneIx) (rest : List Turn) :
    s.Brought h (fun k => if k = l then rest else (s.lane k).queue) ((s.tookHead l rest).reach h) where
  sheet k := by
    rw [State.reach, State.lane_report, ← sheet_tookHead s l rest k]
    by_cases e : k = h
    · rw [e, State.lane_modLane_self]
      rfl
    · rw [State.lane_modLane_ne _ _ _ _ e]
  queue k := by rw [State.reach, State.lane_report, queue_modLane _ _ _ rfl, queue_tookHead]
  reached := by rw [State.reach, State.lane_report, State.lane_modLane_self]
  mark k hk := by rw [State.reach, State.lane_report, State.lane_modLane_ne _ _ _ _ hk, boundary_tookHead]
  hold := by
    obtain ⟨-, -, -, -, -, -, -, -, hold, -⟩ := fields_of_kept ((kept_handOffs (s.setQueue l rest) s [l]).trans (kept_setQueue s l rest))
    exact hold
  pair p := unstationed_handOffs (s.setQueue l rest) s [l] p

theorem report_reach {s : State} (l h : LaneIx) (rest : List Turn) (room : s.link.reports.length < 40) :
    s.teamDone h ∈ ((s.tookHead l rest).reach h).link.reports := by
  have told : (s.tookHead l rest).link.told 5 s.link := told_handOffs (s.setQueue l rest) s [l]
  rw [← teamDone_of_sheet (sheet_tookHead s l rest h)]
  exact mem_queue _ (told.2.trans_lt (by omega))

/-- A turn placed at the tail of a queue, with the hand-offs. -/
theorem queue_placed (v s : State) (ls : List LaneIx) (target : LaneIx) (u : Turn) (k : LaneIx) :
    (((v.setQueue target ((v.lane target).queue ++ [u])).handOffs s ls).lane k).queue = (v.lane k).queue ++ if k = target then [u] else [] := by
  rw [queue_of_core (core_handOffs _ _ _ k)]
  split
  · rename_i e
    rw [e, State.lane_setQueue_queue]
  · rw [State.lane_setQueue_ne _ _ _ _ ‹_›, List.append_nil]

theorem queue_setQueue (s : State) (l k : LaneIx) (q : List Turn) : ((s.setQueue l q).lane k).queue = if k = l then q else (s.lane k).queue := by
  split
  · rename_i e
    rw [e, State.lane_setQueue_queue]
  · rw [State.lane_setQueue_ne _ _ _ _ ‹_›]

/-- The queues as the end of a frame below the tenth leaves them. -/
theorem queue_frameOver_below {s : State} {l : LaneIx} {t : Turn} {rest : List Turn} (queue : (s.lane l).queue = t :: rest) (below : t.frame < 10)
    (k : LaneIx) : ((s.frameOver l).lane k).queue = (if k = l then rest else (s.lane k).queue)
      ++ if k = (match (s.pair (pairOf l)).mode with | .separate => l | .alternate => partner l) then [{ t with frame := t.frame + 1 }] else [] := by
  have placed : s.frameOver l = ((s.setQueue l rest).setQueue (match (s.pair (pairOf l)).mode with | .separate => l | .alternate => partner l)
      (((s.setQueue l rest).lane (match (s.pair (pairOf l)).mode with | .separate => l | .alternate => partner l)).queue
        ++ [{ t with frame := t.frame + 1 }])).handOffs s [l, partner l] := by
    rw [State.frameOver, queue]
    exact if_pos below
  rw [placed, queue_placed, queue_setQueue]

theorem frameOver_tenth {s : State} {l : LaneIx} {t : Turn} {rest : List Turn} (queue : (s.lane l).queue = t :: rest) (tenth : 10 ≤ t.frame) :
    s.frameOver l = (s.tookHead l rest).testBoundary t.home := by
  rw [State.frameOver, queue]
  exact if_neg (Nat.not_lt.2 tenth)

/-! ### The boundary of a lane brought to it -/

section Boundary

variable {s w : State} {h : LaneIx} {left : LaneIx → List Turn} (brought : s.Brought h left w)

include brought

/-- What a lane brought to its boundary keeps till it is taken on. -/
theorem State.Brought.kept (k : LaneIx) : (w.lane k).game = (s.lane k).game ∧ (w.lane k).session = (s.lane k).session
    ∧ (w.lane k).roster = (s.lane k).roster ∧ (w.lane k).startLane = (s.lane k).startLane := by
  obtain ⟨session, -, game, startLane, -, roster⟩ := fields_of_sheet (brought.sheet k)
  exact ⟨game, session, roster, startLane⟩

theorem State.Brought.modes (p : PairIx) : w.modes p = s.modes p := modes_of_unstationed (brought.pair p)

theorem State.Brought.eitherEnds (p : PairIx) : w.eitherEnds p = s.eitherEnds p := by
  simp only [State.eitherEnds, seriesEnds_of_sheet (brought.sheet _)]

/-- The lanes of the pair are both REACHED as the partner was. -/
theorem State.Brought.bothReached {p : PairIx} (pair : pairOf h = p) :
    w.bothReached p = true ↔ (s.lane (partner h)).boundary = .reached := by
  subst pair
  have both : w.bothReached (pairOf h) = true ↔ (w.lane h).boundary = .reached ∧ (w.lane (partner h)).boundary = .reached := by
    rcases lanes_of_pair h with ⟨a, b⟩ | ⟨a, b⟩
    · rw [State.bothReached, a, b]
      simp
    · rw [State.bothReached, a, b]
      simp [and_comm]
  rw [both, brought.mark (partner h) (partner_ne h)]
  exact and_iff_right brought.reached

end Boundary

/-- A REACHED lane of an ALTERNATE pair waits for the partner. -/
theorem takeBoundary_waits {w : State} {h : LaneIx} (modes : w.modes (pairOf h) = (.alternate, none))
    (waits : w.bothReached (pairOf h) = false) : w.takeBoundary h = w := by
  have needs : w.needsPartner (pairOf h) = true := by simp [State.needsPartner, (Prod.mk.inj modes).1]
  rw [State.takeBoundary, if_pos needs]
  split
  · rfl
  · rw [waits, if_neg Bool.false_ne_true]

/-- The boundary of an ALTERNATE pair with no mode pending (R31, R32). -/
theorem takeBoundary_both {w : State} {h : LaneIx} (reached : (w.lane h).boundary = .reached) (modes : w.modes (pairOf h) = (.alternate, none))
    (both : w.bothReached (pairOf h) = true) : w.takeBoundary h
      = if w.eitherEnds (pairOf h) = true then (w.changeMode (pairOf h) .separate .seriesEnd).startEach (pairOf h)
        else if w.hold = true then w else w.startBoth (pairOf h) := by
  obtain ⟨mode, pending⟩ := Prod.mk.inj modes
  have needs : w.needsPartner (pairOf h) = true := by simp [State.needsPartner, mode]
  rw [State.takeBoundary, if_neg (not_not.2 reached), if_pos needs, if_pos both, State.pairBoundary, mode, pending]

section Taken

variable {s w : State} {h : LaneIx} {left : LaneIx → List Turn} (brought : s.Brought h left w)

include brought

/-- A SEPARATE home lane goes its own way. -/
theorem State.Brought.separate (modes : s.modes (pairOf h) = (.separate, none)) (fresh : s.nextUnplayed h) :
    s.wentAlone (w.takeBoundary h) h ∧ (∀ k, k ≠ h → (w.takeBoundary h).lane k = w.lane k)
      ∧ ((w.takeBoundary h).lane h).queue = if s.seriesEnds h = true ∨ s.hold = true then left h else left h ++ s.nextTurns h := by
  have fresh' := nextUnplayed_of_sheet (brought.sheet h) fresh
  rw [takeBoundary_alone (needsPartner_of_modes ((brought.modes _).trans modes))]
  refine ⟨wentAlone_of_sheet (wentAlone_startAlone brought.reached fresh') (brought.sheet h).symm brought.hold.symm rfl rfl,
    fun k hk => lane_startAlone_ne hk w, ?_⟩
  rw [queue_startAlone brought.reached fresh', brought.queue, seriesEnds_of_sheet (brought.sheet h), brought.hold,
    nextTurns_of_sheet (brought.sheet h)]

variable (modes : s.modes (pairOf h) = (.alternate, none))

include modes

/-- An ALTERNATE home lane waits for its partner. -/
theorem State.Brought.waits (plays : (s.lane (partner h)).boundary = .unmarked) : w.takeBoundary h = w := by
  refine takeBoundary_waits ((brought.modes _).trans modes) (Bool.eq_false_iff.2 fun both => ?_)
  exact absurd (plays.symm.trans ((brought.bothReached rfl).1 both)) nofun

variable (waiting : (s.lane (partner h)).boundary = .reached)

include waiting

theorem State.Brought.taken : w.takeBoundary h
    = if s.eitherEnds (pairOf h) = true then (w.changeMode (pairOf h) .separate .seriesEnd).startEach (pairOf h)
      else if s.hold = true then w else w.startBoth (pairOf h) := by
  rw [takeBoundary_both brought.reached ((brought.modes _).trans modes) ((brought.bothReached rfl).2 waiting), brought.eitherEnds, brought.hold]

/-- Both teams go on, each opposite its last start, where no series ends and no hold stands. -/
theorem State.Brought.goesOn (goes : s.eitherEnds (pairOf h) = false) (free : s.hold = false) (freshA : s.nextUnplayed (laneA (pairOf h)))
    (freshB : s.nextUnplayed (laneB (pairOf h))) : ((w.takeBoundary h).pair (pairOf h)).mode = .alternate
      ∧ s.wentOn (w.takeBoundary h) (laneA (pairOf h)) (partner (s.lane (laneA (pairOf h))).startLane)
      ∧ s.wentOn (w.takeBoundary h) (laneB (pairOf h)) (partner (s.lane (laneB (pairOf h))).startLane)
      ∧ ∀ k, ((w.takeBoundary h).lane k).queue = left k
          ++ (if partner (s.lane (laneA (pairOf h))).startLane = k then s.nextTurns (laneA (pairOf h)) else [])
          ++ if partner (s.lane (laneB (pairOf h))).startLane = k then s.nextTurns (laneB (pairOf h)) else [] := by
  have both : w.takeBoundary h = w.startBoth (pairOf h) := by
    rw [brought.taken modes waiting, goes, free]
    rfl
  generalize pairOf h = p at *
  obtain ⟨-, -, -, startA⟩ := brought.kept (laneA p)
  obtain ⟨-, -, -, startB⟩ := brought.kept (laneB p)
  have freshA' := nextUnplayed_of_sheet (brought.sheet (laneA p)) freshA
  have freshB' := nextUnplayed_of_sheet (brought.sheet (laneB p)) freshB
  obtain ⟨wentA, wentB⟩ := wentOn_startBoth freshA' freshB'
  have kept := ((modes_startBoth w p p).trans (brought.modes p)).trans modes
  rw [← both, startA] at wentA
  rw [← both, startB] at wentB
  rw [← both] at kept
  refine ⟨(Prod.mk.inj kept).1, wentOn_of_sheet wentA (brought.sheet _).symm rfl rfl, wentOn_of_sheet wentB (brought.sheet _).symm rfl rfl,
    fun k => ?_⟩
  rw [both, queue_startBoth freshA' freshB', brought.queue, nextTurns_of_sheet (brought.sheet _), nextTurns_of_sheet (brought.sheet _),
    startA, startB]

/-- The pair parts, and each lane goes its own way, where a series ends. -/
theorem State.Brought.parts (ends : s.eitherEnds (pairOf h) = true) (freshA : s.nextUnplayed (laneA (pairOf h)))
    (freshB : s.nextUnplayed (laneB (pairOf h))) : ((w.takeBoundary h).pair (pairOf h)).mode = .separate
      ∧ s.wentAlone (w.takeBoundary h) (laneA (pairOf h)) ∧ s.wentAlone (w.takeBoundary h) (laneB (pairOf h)) := by
  have parted : w.takeBoundary h = (w.changeMode (pairOf h) .separate .seriesEnd).startEach (pairOf h) := by
    rw [brought.taken modes waiting, ends]
    rfl
  have both := (brought.bothReached rfl).2 waiting
  generalize pairOf h = p at *
  obtain ⟨wentA, wentB⟩ := wentAlone_startEach (s := w.changeMode p .separate .seriesEnd) both
    (nextUnplayed_of_sheet (brought.sheet (laneA p)) freshA) (nextUnplayed_of_sheet (brought.sheet (laneB p)) freshB)
  have mode : ((w.changeMode p .separate .seriesEnd).startEach p).modes p = (w.changeMode p .separate .seriesEnd).modes p :=
    (modes_startAlone _ _ p).trans (modes_startAlone _ _ p)
  rw [← parted] at wentA wentB mode
  exact ⟨(Prod.mk.inj mode).1.trans (mode_changeMode w p _ _), wentAlone_of_sheet wentA (brought.sheet _).symm brought.hold.symm rfl rfl,
    wentAlone_of_sheet wentB (brought.sheet _).symm brought.hold.symm rfl rfl⟩

/-- A held pair stands at its boundary. -/
theorem State.Brought.held (goes : s.eitherEnds (pairOf h) = false) (held : s.hold = true) : w.takeBoundary h = w := by
  rw [brought.taken modes waiting, goes, held]
  rfl

end Taken

/-- Settles O25: the turn placed by its queues, the boundary as the tenth frame brings the home lane there. -/
theorem frameOverMovesPlayOn : Obligations.FrameOverMovesPlayOn := by
  unfold Obligations.FrameOverMovesPlayOn
  intro s l t rest queue s' next h p left team kept alone
  refine ⟨fun below => ⟨fun mode => ?_, fun mode => ?_⟩, fun tenth off k => ?_, fun tenth isOpen unmarked ended pair freshA freshB => ?_⟩
  · have placed (k : LaneIx) : (s'.lane k).queue = (if k = l then rest else (s.lane k).queue) ++ if k = l then [next] else [] := by
      have := queue_frameOver_below queue below k
      rwa [mode] at this
    exact ⟨by simp [placed], fun k hk => by simp [placed, hk]⟩
  · have placed (k : LaneIx) : (s'.lane k).queue = (if k = l then rest else (s.lane k).queue) ++ if k = partner l then [next] else [] := by
      have := queue_frameOver_below queue below k
      rwa [mode] at this
    exact ⟨by simp [placed, (partner_ne l).symm], by simp [placed, partner_ne], fun k hk hp => by simp [placed, hk, hp]⟩
  · have taken : s' = s.tookHead l rest := by
      obtain ⟨session, -⟩ := fields_of_sheet (sheet_tookHead s l rest h)
      have same := gameEnded_of_sheet (sheet_tookHead s l rest h)
      exact (frameOver_tenth queue tenth).trans (testBoundary_of_playing (by rwa [session, same]))
    obtain ⟨session, -, game, startLane, -, roster⟩ := fields_of_sheet (sheet_tookHead s l rest k)
    rw [← taken] at session game startLane roster
    refine ⟨?_, ?_, game, session, roster, startLane⟩
    · rw [taken, queue_tookHead]
    · rw [taken, boundary_tookHead]
  · have brought := brought_tookHead s l h rest
    have report := report_reach (s := s) l h rest
    have taken : s' = ((s.tookHead l rest).reach h).takeBoundary h := by
      obtain ⟨session, -⟩ := fields_of_sheet (sheet_tookHead s l rest h)
      have same := gameEnded_of_sheet (sheet_tookHead s l rest h)
      exact (frameOver_tenth queue tenth).trans
        (testBoundary_of_ended (session.trans isOpen) ((boundary_tookHead s l rest h).trans unmarked) (same.trans ended))
    have others (k : LaneIx) (hk : k ≠ h) (hl : k ≠ l) : ((s.tookHead l rest).reach h).lane k = s.lane k := by
      rw [State.reach, State.lane_report, State.lane_modLane_ne _ _ _ _ hk, State.tookHead, lane_handOffs_ne (by simpa using hl),
        State.lane_setQueue_ne _ _ _ _ hl]
    generalize (s.tookHead l rest).reach h = w at brought report taken others
    have modes {m : PairMode} (mode : (s.pair p).mode = m) (none : (s.pair p).pendingMode = none) : s.modes (pairOf h) = (m, Option.none) := by
      rw [State.modes, pair, mode, none]
    refine ⟨fun room => ?_, fun mode none home => ?_, fun mode none => ⟨fun plays => ?_, fun waiting => ⟨fun goes free => ?_, fun goes held => ?_,
      fun ends => ?_⟩⟩⟩
    · rw [taken]
      exact (reportKeptAtBoundary (by simp [Report.rank, Report.cls, ReportClass.rank, State.teamDone])).takeBoundary (report room) h
    · have fresh : s.nextUnplayed h := by
        rcases (pairOf_eq_lanes h p).1 pair with e | e
        · rwa [e]
        · rwa [e]
      obtain ⟨went, same, queue⟩ := brought.separate (modes mode none) fresh
      rw [← taken] at went same queue
      rw [home] at went same queue others
      refine ⟨went, fun k hk => (same k hk).trans (others k hk hk), ?_⟩
      simpa using queue
    · have stays : s' = w := taken.trans (brought.waits (modes mode none) plays)
      rw [← stays] at brought
      exact ⟨brought.reached, pair_of_unstationed (brought.pair p), fun k => ⟨brought.queue k, brought.kept k⟩⟩
    · obtain ⟨mode', wentA, wentB, queues⟩ := brought.goesOn (modes mode none) waiting (pair ▸ goes) free (pair ▸ freshA) (pair ▸ freshB)
      rw [← taken, pair] at mode' wentA wentB queues
      exact ⟨mode', _, _, rfl, rfl, wentA, wentB, queues⟩
    · have stays : s' = w := taken.trans (brought.held (modes mode none) waiting (pair ▸ goes) held)
      rw [← stays] at brought
      exact ⟨(Prod.mk.inj (brought.modes p)).1.trans mode, brought.reached, fun k => ⟨brought.queue k, brought.kept k⟩⟩
    · obtain ⟨mode', wentA, wentB⟩ := brought.parts (modes mode none) waiting (pair ▸ ends) (pair ▸ freshA) (pair ▸ freshB)
      rw [← taken, pair] at mode' wentA wentB
      exact ⟨mode', wentA, wentB⟩

end Sys2Proof.Machine
end

section
/-! SUPPORT. The pair modes: a change at once, the turns it brings home, and PAIR_MODE (R33 to R35). -/

namespace Sys2Proof.Machine

/-! ### Lanes not at a boundary -/

theorem takeBoundary_unmarked {s : State} {l : LaneIx} (h : (s.lane l).boundary = .unmarked) : s.takeBoundary l = s := by
  rw [State.takeBoundary, if_pos (by rw [h]; nofun)]

theorem retakePair_unmarked {s : State} {p : PairIx} (a : (s.lane (laneA p)).boundary = .unmarked)
    (b : (s.lane (laneB p)).boundary = .unmarked) : s.retakePair p = s := by
  rw [State.retakePair, takeBoundary_unmarked a, takeBoundary_unmarked b]

theorem unmarked_iff (s : State) (l : LaneIx) : (s.turnPart.teams l).reached = false ↔ (s.lane l).boundary = .unmarked := by
  rw [← Bool.not_eq_true, reached_iff]
  cases (s.lane l).boundary <;> simp

/-! ### A team brought home -/

theorem pairs_bringHome (s : State) (l : LaneIx) : (s.bringHome l).pairs = s.pairs := by
  unfold State.bringHome
  split <;> rfl

theorem link_bringHome (s : State) (l : LaneIx) : (s.bringHome l).link = s.link := by
  unfold State.bringHome
  split <;> rfl

/-- A team that has not bowled, brought home: its lane's queue takes its turns from the partner's, which keeps the others. -/
theorem queue_bringHome {E : Set LaneIx} {P : TurnPart} (h : P.sound E) {l : LaneIx} (unbowled : (P.teams l).bowled = false) :
    (P.bringHome l).queues l = P.queues l ++ (P.queues (partner l)).filter (fun t => t.home = l)
      ∧ (P.bringHome l).queues (partner l) = (P.queues (partner l)).filter fun t => t.home ≠ l := by
  unfold TurnPart.bringHome
  split
  · rename_i start
    have away : ∀ t ∈ P.queues (partner l), t.home ≠ l := fun t ht home => by
      have stands := (h.turns (partner l) t ht).start (by rw [home]; exact unbowled)
      rw [home, start] at stands
      exact partner_ne l stands.symm
    rw [List.filter_eq_nil_iff.2 fun t ht => by simpa using away t ht, List.filter_eq_self.2 fun t ht => by simpa using away t ht]
    exact ⟨(List.append_nil _).symm, rfl⟩
  · simp [TurnPart.putTeam, TurnPart.putQueue, partner_ne]

theorem partner_laneA (p : PairIx) : partner (laneA p) = laneB p := by revert p; decide
theorem partner_laneB (p : PairIx) : partner (laneB p) = laneA p := by revert p; decide

/-- Both teams of a pair brought home: each lane's queue holds its own turns, those from the partner behind those there. -/
theorem queue_bringBoth {E : Set LaneIx} {P : TurnPart} (h : P.sound E) {p : PairIx} (mode : P.separate p = false)
    (fresh : ∀ l, pairOf l = p → (P.teams l).bowled = false ∧ P.scored l = none) {l : LaneIx} (hl : pairOf l = p) :
    ((P.bringHome (laneA p)).bringHome (laneB p)).queues l
      = (P.queues l).filter (fun u => u.home = l) ++ (P.queues (partner l)).filter fun u => u.home = l := by
  obtain ⟨freshA, -⟩ := fresh _ (pairOf_laneA p)
  obtain ⟨freshB, -⟩ := fresh _ (pairOf_laneB p)
  have home : (P.bringHome (laneA p)).sound E :=
    h.bringHome (by rwa [pairOf_laneA]) freshA fun k hk => (fresh k (hk.trans (pairOf_laneA p))).2
  obtain ⟨firstA, firstB⟩ := queue_bringHome h freshA
  obtain ⟨secondB, secondA⟩ := queue_bringHome home (l := laneB p) (by rw [bringHome_teams]; exact freshB)
  rw [partner_laneA] at firstA firstB
  rw [partner_laneB] at secondA secondB
  have theirs (k : LaneIx) (hk : pairOf k = p) : (P.queues k).filter (fun u => u.home ≠ laneB p) = (P.queues k).filter (fun u => u.home = laneA p)
      ∧ (P.queues k).filter (fun u => u.home ≠ laneA p) = (P.queues k).filter fun u => u.home = laneB p := by
    have either : ∀ t ∈ P.queues k, t.home = laneA p ∨ t.home = laneB p := fun t ht =>
      (pairOf_eq_lanes _ p).1 ((h.turns k t ht).pair.trans hk)
    have ne := laneA_ne_laneB p
    constructor
    all_goals
      refine List.filter_congr fun t ht => ?_
      rcases either t ht with e | e <;> simp [e, ne, ne.symm]
  obtain ⟨notB, -⟩ := theirs _ (pairOf_laneA p)
  obtain ⟨-, notA⟩ := theirs _ (pairOf_laneB p)
  rcases (pairOf_eq_lanes l p).1 hl with rfl | rfl
  · rw [secondA, firstA, partner_laneA, List.filter_append, notB, List.filter_filter]
    congr 1
    refine List.filter_congr fun t _ => ?_
    by_cases e : t.home = laneA p <;> simp [e, laneA_ne_laneB]
  · rw [secondB, firstA, firstB, partner_laneB, notA, List.filter_append, List.filter_filter]
    congr 1
    refine (congrArg _ (List.filter_eq_nil_iff.2 fun t _ => ?_)).trans (List.append_nil _)
    by_cases e : t.home = laneA p <;> simp [e, laneA_ne_laneB]

/-! ### A change of mode at once -/

/-- The turns of a pair as a change of mode at once moves them, before the hand-offs. -/
def State.modeMoved (p : PairIx) (m : PairMode) (s : State) : State :=
  match m with
  | .alternate => s.changeMode p .alternate .request
  | .separate => ((s.changeMode p .separate .request).bringHome (laneA p)).bringHome (laneB p)

theorem changeModeNow_eq (s : State) (p : PairIx) (m : PairMode) :
    s.changeModeNow p m = ((s.modeMoved p m).handOffs s [laneA p, laneB p]).retakePair p := by
  cases m <;> rfl

theorem turnPart_modeMoved_separate (s : State) (p : PairIx) :
    (s.modeMoved p .separate).turnPart = ((s.turnPart.bringHome (laneA p)).bringHome (laneB p)).putMode p true := by
  simp only [State.modeMoved, turnPart_bringHome, turnPart_changeMode, bringHome_putMode, decide_true]

theorem pairs_modeMoved (s : State) (p : PairIx) (m : PairMode) : (s.modeMoved p m).pairs = (s.changeMode p m .request).pairs := by
  cases m with
  | alternate => rfl
  | separate => rw [State.modeMoved, pairs_bringHome, pairs_bringHome]

theorem link_modeMoved (s : State) (p : PairIx) (m : PairMode) : (s.modeMoved p m).link = (s.changeMode p m .request).link := by
  cases m with
  | alternate => rfl
  | separate => rw [State.modeMoved, link_bringHome, link_bringHome]

theorem boundary_modeMoved (s : State) (p : PairIx) (m : PairMode) {l : LaneIx} (unmarked : (s.lane l).boundary = .unmarked) :
    ((s.modeMoved p m).lane l).boundary = .unmarked := by
  cases m with
  | alternate => exact unmarked
  | separate =>
    rw [← unmarked_iff, turnPart_modeMoved_separate]
    show (((s.turnPart.bringHome (laneA p)).bringHome (laneB p)).teams l).reached = false
    rw [bringHome_teams, bringHome_teams]
    exact (unmarked_iff s l).2 unmarked

/-- A change of mode at once, where no lane waits at its boundary. -/
theorem changeModeNow_unmarked {s : State} {p : PairIx} (m : PairMode) (a : (s.lane (laneA p)).boundary = .unmarked)
    (b : (s.lane (laneB p)).boundary = .unmarked) : s.changeModeNow p m = (s.modeMoved p m).handOffs s [laneA p, laneB p] := by
  have mark (l : LaneIx) := boundary_of_core (core_handOffs (s.modeMoved p m) s [laneA p, laneB p] l)
  rw [changeModeNow_eq, retakePair_unmarked ((mark _).trans (boundary_modeMoved s p m a)) ((mark _).trans (boundary_modeMoved s p m b))]

theorem exec_pairMode {s : State} {r : Slot} {p : PairIx} (front : s.front .pairMode r) (present : (s.station p).state ≠ .absent)
    (mode : Option PairMode) : exec (.pairMode true (pairNumber p) mode) s
      = .next ((pairMode mode p s).state.answered r (pairMode mode p s).status (pairMode mode p s).body) :=
  congrArg Host.Outcome.next (live_of_answer front ((checkLength_agreed _ _).trans (checkPair_of_present present (pairMode mode))))

/-! ### The answers of PAIR_MODE -/

theorem pairMode_same {s : State} {p : PairIx} {m : PairMode} (same : m = (s.pair p).mode) :
    pairMode (some m) p s = ⟨s.cancelPending p, .noChange, (s.cancelPending p).modeReply p⟩ := by
  rw [pairMode, if_pos same]

/-- A change that is not refused takes effect at once while neither lane has bowled, and is pending else. -/
theorem pairMode_other {s : State} {p : PairIx} {m : PairMode} (other : m ≠ (s.pair p).mode) (lanes : m = .alternate → s.bothOpen p = true) :
    pairMode (some m) p s = if s.hasBowled (laneA p) = false ∧ s.hasBowled (laneB p) = false then
        ⟨s.changeModeNow p m, .ok, (s.changeModeNow p m).modeReply p⟩
      else ⟨s.setPair p { s.pair p with pendingMode := some m }, .ok, .pairMode p (s.pair p).mode (some m)⟩ := by
  have allowed : (decide (m = .alternate) && !s.bothOpen p) = false := by
    cases m with
    | separate => rfl
    | alternate => simp [lanes rfl]
  rw [pairMode, if_neg other, allowed, if_neg Bool.false_ne_true]
  simp only [Bool.and_eq_true, Bool.not_eq_true', State.modeReply, State.modPair, State.pair_setPair_self]

theorem pairMode_closed {s : State} {p : PairIx} (other : .alternate ≠ (s.pair p).mode) (closed : s.bothOpen p = false) :
    pairMode (some .alternate) p s = refuse .noSession s := by
  simp [pairMode, other, closed]

theorem bothOpen_iff (s : State) (p : PairIx) :
    s.bothOpen p = true ↔ (s.lane (laneA p)).session = .open_ ∧ (s.lane (laneB p)).session = .open_ := by
  simp [State.bothOpen]

theorem cancelPending_unmarked {s : State} {p : PairIx} {m : PairMode} (pend : (s.pair p).pendingMode = some m)
    (a : (s.lane (laneA p)).boundary = .unmarked) (b : (s.lane (laneB p)).boundary = .unmarked) :
    s.cancelPending p = s.setPair p { s.pair p with pendingMode := none } := by
  have kept : (s.dropPending p).retakePair p = s.dropPending p := retakePair_unmarked a b
  rw [State.cancelPending, pend, Option.isSome_some, if_pos rfl, kept]
  rfl

/-- The modes of a pair changed at once. -/
theorem modes_modeMoved (s : State) (p : PairIx) (m : PairMode) : ((s.modeMoved p m).handOffs s [laneA p, laneB p]).modes p = (m, none) := by
  have pair : (s.modeMoved p m).pair p = (s.changeMode p m .request).pair p := by rw [State.pair, pairs_modeMoved, State.pair]
  rw [modes_handOffs, State.modes, pair]
  simp [State.changeMode]

/-- Settles O24: a change at once by the turns it brings home, the rest by the checks in order. -/
theorem pairModeTakesEffectOrWaits : Obligations.PairModeTakesEffectOrWaits := by
  unfold Obligations.PairModeTakesEffectOrWaits
  intro s r p m front present
  rw [exec_pairMode front present, exec_pairMode front present]
  refine ⟨fun same none => ?_, fun pend same some a b => ?_, fun other alternate closed => ?_, fun other lanes => ?_, rfl⟩
  · have stays : s.cancelPending p = s := by rw [State.cancelPending, none]; rfl
    rw [pairMode_same same, stays, State.modeReply, none, ← same]
  · rw [pairMode_same same, cancelPending_unmarked some a b, State.modeReply, State.pair_setPair_self, ← same]
  · subst alternate
    rw [pairMode_closed other (Bool.eq_false_iff.2 fun both => closed ((bothOpen_iff s p).1 both))]
    rfl
  · have answer := pairMode_other other fun e => (bothOpen_iff s p).2 (lanes e)
    refine ⟨fun bowled => ?_, fun freshA freshB a b => ?_⟩
    · rw [answer, if_neg]
      rintro ⟨freshA, freshB⟩
      rcases bowled with e | e
      · exact absurd (freshA.symm.trans e) nofun
      · exact absurd (freshB.symm.trans e) nofun
    · rw [answer, if_pos ⟨freshA, freshB⟩, changeModeNow_unmarked m a b]
      obtain ⟨mode, pending⟩ := Prod.mk.inj (modes_modeMoved s p m)
      have quiet : ((s.modeMoved p m).handOffs s [laneA p, laneB p]).link.quiet = s.link.quiet := by
        rw [quiet_handOffs, link_modeMoved]
        exact quiet_report _ _
      have part : ((s.modeMoved p m).handOffs s [laneA p, laneB p]).turnPart = (s.modeMoved p m).turnPart := turnPart_handOffs _ _ _
      rw [State.modeReply, mode, pending]
      obtain ⟨slots, replies⟩ := answered_of_quiet front quiet .ok (.pairMode p m none)
      generalize (s.modeMoved p m).handOffs s [laneA p, laneB p] = t at *
      refine ⟨_, rfl, mode, pending, fun alternate k => ?_, fun separate => ?_, fun separate sound l hl => ?_, slots, replies⟩
      · subst alternate
        exact congrFun (congrArg TurnPart.queues (part.trans (turnPart_changeMode s p _ _))) k
      · subst separate
        have start (k : LaneIx) : (t.lane k).startLane = (((s.turnPart.bringHome (laneA p)).bringHome (laneB p)).teams k).start :=
          congrArg (fun P : TurnPart => (P.teams k).start) (part.trans (turnPart_modeMoved_separate s p))
        constructor
        · refine (start _).trans ?_
          rw [bringHome_teams, bringHome_teams]
          simp [laneA_ne_laneB]
        · refine (start _).trans ?_
          rw [bringHome_teams]
          simp
      · subst separate
        have sound := (turnsSound_iff s).1 sound
        refine (congrFun (congrArg TurnPart.queues (part.trans (turnPart_modeMoved_separate s p))) l).trans
          (queue_bringBoth sound (decide_eq_false fun e => other e.symm) (fun k hk => ?_) hl)
        exact unbowled_of_hasBowled sound freshA freshB hk

end Sys2Proof.Machine
end

section
/-! SUPPORT. Pin sets, and a ball scored against the set it was bowled on (R45, R46). -/

namespace Sys2Proof.Machine

/-! ### Pin sets (R45, R46) -/

theorem pinCount_eq_countP (s : PinSet) : pinCount s = (List.range 10).countP fun i => s.getLsbD i :=
  List.countP_eq_length_filter.symm

theorem pinCount_le (s : PinSet) : pinCount s ≤ 10 := List.length_filter_le ..

theorem pinCount_fullRack : pinCount fullRack = 10 := by decide

/-- The pins of a set are those in an image and those out of it. -/
theorem pinCount_split (s image : PinSet) : pinCount (s &&& image) + pinCount (s &&& ~~~image) = pinCount s := by
  simp only [pinCount_eq_countP]
  rw [List.countP_eq_countP_filter_add (List.range 10) (fun i => s.getLsbD i) fun i => image.getLsbD i, List.countP_filter,
    List.countP_filter]
  congr 1
  · exact List.countP_congr fun i _ => by simp
  · refine List.countP_congr fun i hi => ?_
    have : i < 10 := List.mem_range.1 hi
    simp [this]

theorem setAfter_fair (before image : PinSet) : setAfter before image false = before &&& image := rfl
theorem setAfter_foul (before image : PinSet) : setAfter before image true = before := rfl
theorem left_ballRecord (b : BallIn) (before : PinSet) : (ballRecord b before).left = setAfter before b.image b.foul := rfl

/-- Pins that are not in the set bowled on change nothing of what a ball leaves. -/
theorem setAfter_or_of_disjoint {extra before : PinSet} (disjoint : extra &&& before = 0#10) (image : PinSet) (foul : Bool) :
    setAfter before (image ||| extra) foul = setAfter before image foul := by
  cases foul
  · rw [setAfter_fair, setAfter_fair, BitVec.and_or_distrib_left, BitVec.and_comm before extra, disjoint, BitVec.or_zero]
  · rfl

theorem setAfter_and_before (before image : PinSet) (foul : Bool) : setAfter before image foul &&& before = setAfter before image foul := by
  cases foul
  · rw [setAfter_fair, BitVec.and_comm, ← BitVec.and_assoc, BitVec.and_self]
  · exact BitVec.and_self

theorem pinCount_setAfter_le (before image : PinSet) (foul : Bool) : pinCount (setAfter before image foul) ≤ pinCount before := by
  cases foul
  · exact Nat.le.intro (pinCount_split before image)
  · exact le_refl _

/-- A ball's pinfall and the pins it leaves make up the set it was bowled on. -/
theorem pinfall_add_left (b : BallIn) (before : PinSet) :
    (ballRecord b before).pinfall + pinCount (ballRecord b before).left = pinCount before :=
  Nat.sub_add_cancel (pinCount_setAfter_le before b.image b.foul)

/-- Settles O44, by the pins of the set that the image holds and those it does not. -/
theorem ballIsScoredAgainstItsSet : Obligations.BallIsScoredAgainstItsSet := by
  unfold Obligations.BallIsScoredAgainstItsSet
  intro b before
  have total := pinfall_add_left b before
  refine ⟨(ballRecord b before).left, (ballRecord b before).pinfall, rfl, rfl, rfl, rfl, rfl, fun fair => ?_, fun foul => ?_,
    Nat.le.intro total, setAfter_and_before .., fun full c => ?_, fun extra disjoint => ?_⟩
  · have after : (ballRecord b before).left = before &&& b.image := by rw [left_ballRecord, fair, setAfter_fair]
    refine ⟨after, total, ?_⟩
    rw [after] at total
    have split := pinCount_split before b.image
    omega
  · have after : (ballRecord b before).left = before := by rw [left_ballRecord, foul, setAfter_foul]
    rw [after] at total
    exact ⟨after, by omega⟩
  · have second := pinfall_add_left c (ballRecord b before).left
    have rack : pinCount before = 10 := by rw [full, pinCount_fullRack]
    exact ⟨(ballRecord c (ballRecord b before).left).left, rfl, by omega⟩
  · have after := setAfter_or_of_disjoint disjoint b.image b.foul
    exact ⟨congrArg some after, congrArg (fun left => pinCount before - pinCount left) after⟩

end Sys2Proof.Machine
end

section
/-! SUPPORT. The balls a frame holds, and the ranges of the scores and totals that a change of a frame resolves (R45, R51,
R57 to R59, R75 to R77). -/

namespace Sys2Proof.Machine

/-! ### The balls of a frame (R45, R51, R52, R75) -/

/-- What Frame.scoresSound asks of the balls of the frame numbered n. -/
def BallsSound (n : Nat) (balls : List Ball) : Prop :=
  (∀ b ∈ balls, b.pinfall ≤ 10)
    ∧ (n < 10 → pinfallSum balls ≤ 10 ∧ ∀ a, balls = [a] → a.cleared = false → a.pinfall + pinCount a.left ≤ 10)
    ∧ (n = 10 → balls.length ≤ 3)

theorem Frame.scoresSound_iff (n : Nat) (f : Frame) : f.scoresSound n
    ↔ BallsSound n f.balls ∧ (∀ c, f.score = some c → c ≤ 30) ∧ ∀ c, f.cumulative = some c → c ≤ 30 * n := by
  simp only [Frame.scoresSound, BallsSound, and_assoc]

theorem ballsSound_nil (n : Nat) : BallsSound n [] := by simp [BallsSound, pinfallSum]

theorem nextDue_one (n : Nat) (a : Ball) : nextDue n [a] = if n < 10 then (if a.cleared then none else some a.left)
    else if a.cleared then some fullRack else some a.left := rfl
theorem nextDue_two_below {n : Nat} (below : n < 10) (a b : Ball) : nextDue n [a, b] = none := if_pos below
theorem nextDue_three (n : Nat) (a b c : Ball) (rest : List Ball) : nextDue n (a :: b :: c :: rest) = none := ite_self _

/-- Below the tenth frame a ball is due on the full rack, or on what a first ball left standing. -/
theorem nextDue_below {n : Nat} (below : n < 10) {balls : List Ball} {due : PinSet} (next : nextDue n balls = some due) :
    balls = [] ∨ ∃ a, balls = [a] ∧ a.cleared = false ∧ due = a.left := by
  match balls with
  | [] => exact .inl rfl
  | [a] =>
    rw [nextDue_one, if_pos below] at next
    obtain ⟨stands, left⟩ := Option.ite_none_left_eq_some.1 next
    exact .inr ⟨a, rfl, Bool.eq_false_iff.2 stands, (Option.some.inj left).symm⟩
  | [a, b] => exact absurd ((nextDue_two_below below a b).symm.trans next) nofun
  | a :: b :: c :: rest => exact absurd ((nextDue_three n a b c rest).symm.trans next) nofun

/-- A ball is due after two balls at the most. -/
theorem length_of_nextDue {n : Nat} {balls : List Ball} (next : (nextDue n balls).isSome = true) : balls.length ≤ 2 := by
  match balls with
  | [] | [_] | [_, _] => simp
  | a :: b :: c :: rest =>
    rw [nextDue_three] at next
    cases next

theorem pinfallSum_append (balls : List Ball) (b : Ball) : pinfallSum (balls ++ [b]) = pinfallSum balls + b.pinfall := by
  simp [pinfallSum]

/-- A frame stays within its pins by a ball bowled on the set due in it. -/
theorem ballsSound_addBall {n : Nat} {f : Frame} (sound : BallsSound n f.balls) (next : (nextDue n f.balls).isSome = true) (b : BallIn) :
    BallsSound n (Frame.addBall n b.lane (ballRecord b (setBefore n f)) f).balls := by
  show BallsSound n (f.balls ++ [ballRecord b (setBefore n f)])
  obtain ⟨each, below, tenth⟩ := sound
  have total := pinfall_add_left b (setBefore n f)
  have rack := pinCount_le (setBefore n f)
  refine ⟨fun x hx => ?_, fun n_lt => ?_, fun _ => ?_⟩
  · rcases List.mem_append.1 hx with old | new
    · exact each x old
    · obtain rfl := List.mem_singleton.1 new
      omega
  · obtain ⟨due, e⟩ := Option.isSome_iff_exists.1 next
    have before : setBefore n f = due := by rw [setBefore, e, Option.getD_some]
    rw [pinfallSum_append]
    rcases nextDue_below n_lt e with none | ⟨a, one, stands, left⟩
    · rw [none]
      refine ⟨by simp only [pinfallSum, List.map_nil, List.sum_nil]; omega, fun x hx _ => ?_⟩
      obtain rfl := List.singleton_inj.1 hx
      omega
    · have first := (below n_lt).2 a one stands
      rw [before, left] at total
      rw [before, left, one]
      refine ⟨by simp only [pinfallSum, List.map_cons, List.map_nil, List.sum_cons, List.sum_nil]; omega, fun x hx _ => ?_⟩
      cases hx
  · have := length_of_nextDue next
    simp only [List.length_append, List.length_singleton]
    omega

theorem pinfallSum_corrected (balls : List BallField) : pinfallSum (balls.map correctedBall) = (balls.map (·.pinfall)).sum := by
  simp only [pinfallSum, List.map_map]
  rfl

theorem validPinfalls_below {n : Nat} (below : n < 10) {ps : List Nat} (valid : validPinfalls n ps = true) : ps.sum ≤ 10 := by
  match ps with
  | [] => simp
  | [a] =>
    have strike : a = 10 := by simpa [validPinfalls, below] using valid
    simp [strike]
  | [a, b] =>
    have both : a < 10 ∧ a + b ≤ 10 := by simpa [validPinfalls, below] using valid
    simpa using both.2
  | a :: b :: c :: rest => simp [validPinfalls, below] at valid

theorem length_of_validPinfalls {n : Nat} {ps : List Nat} (valid : validPinfalls n ps = true) : ps.length ≤ 3 := by
  match ps with
  | [] | [_] | [_, _] | [_, _, _] => simp
  | _ :: _ :: _ :: _ :: _ => simp [validPinfalls] at valid

/-- A valid completed frame is within its pins. -/
theorem ballsSound_correct {n : Nat} {balls : List BallField} (valid : validFrame n balls = true) : BallsSound n (balls.map correctedBall) := by
  obtain ⟨each, pinfalls⟩ := Bool.and_eq_true_iff.1 valid
  refine ⟨fun x hx => ?_, fun below => ⟨?_, fun a one stands => ?_⟩, fun _ => ?_⟩
  · obtain ⟨b, hb, rfl⟩ := List.mem_map.1 hx
    exact of_decide_eq_true (Bool.and_eq_true_iff.1 (List.all_eq_true.1 each b hb)).1
  · rw [pinfallSum_corrected]
    exact validPinfalls_below below pinfalls
  · obtain ⟨b, -, rfl⟩ := List.map_eq_singleton_iff.1 one
    exact absurd stands nofun
  · rw [List.length_map]
    simpa using length_of_validPinfalls pinfalls

/-! ### Scores and totals (R57 to R59) -/

/-- The balls after a frame are balls of the frames. -/
theorem later_pinfall_le {frames : List Frame} (each : ∀ f ∈ frames, ∀ b ∈ f.balls, b.pinfall ≤ 10) (k : Nat) :
    ∀ b ∈ (frames.drop k).flatMap (·.balls), b.pinfall ≤ 10 := by
  intro b hb
  obtain ⟨f, hf, hb⟩ := List.mem_flatMap.1 hb
  exact each f (List.mem_of_mem_drop hf) b hb

/-- Balls of at most 10 pins each fell at most 10 apiece. -/
theorem pinfallSum_le {balls : List Ball} (each : ∀ b ∈ balls, b.pinfall ≤ 10) : pinfallSum balls ≤ 10 * balls.length := by
  have h := List.sum_le_card_nsmul (balls.map (·.pinfall)) 10 (by simpa using each)
  simpa [pinfallSum, mul_comm] using h

theorem scoreOf_le {frames : List Frame} (sound : ∀ i f, frames[i]? = some f → BallsSound (i + 1) f.balls) {i : Nat} (hi : i < 10) {c : Nat}
    (score : scoreOf frames i = some c) : c ≤ 30 := by
  have each : ∀ f ∈ frames, ∀ b ∈ f.balls, b.pinfall ≤ 10 := fun f hf => by
    obtain ⟨j, hj⟩ := List.mem_iff_getElem?.1 hf
    exact (sound j f hj).1
  unfold scoreOf at score
  split at score
  · cases score
  · rename_i f hf
    obtain ⟨own, below, tenth⟩ := sound i f hf
    split at score
    · rename_i last
      obtain ⟨-, total⟩ := Option.ite_none_right_eq_some.1 score
      obtain rfl := Option.some.inj total
      have balls := tenth (by omega)
      have sum := pinfallSum_le own
      omega
    · have later := later_pinfall_le each (i + 1)
      split at score
      · rename_i a b _ _ balls
        have first := later a (by simp [balls])
        have second := later b (by simp [balls])
        obtain rfl := Option.some.inj score
        omega
      · rename_i a _ _ balls
        have first := later a (by simp [balls])
        obtain rfl := Option.some.inj score
        omega
      · obtain rfl := Option.some.inj score
        exact (below (by omega)).1.trans (by omega)
      · cases score

theorem cumulativeOf_zero (f : Frame) (rest : List Frame) : cumulativeOf (f :: rest) 0 = f.score := by
  rw [cumulativeOf, List.take_succ_cons, List.take_zero, List.foldl_cons, List.foldl_nil]
  cases f.score with
  | none => rfl
  | some b => exact congrArg some (Nat.zero_add b)

/-- The total through a frame is the total before it and the frame's score. -/
theorem cumulativeOf_succ {frames : List Frame} {i : Nat} {f : Frame} (frame : frames[i + 1]? = some f) :
    cumulativeOf frames (i + 1) = (cumulativeOf frames i).bind fun t => f.score.map (t + ·) := by
  rw [cumulativeOf, cumulativeOf, List.take_add_one, frame, Option.toList_some, List.foldl_append]
  simp only [List.foldl_cons, List.foldl_nil]
  generalize List.foldl _ (some 0) _ = before
  cases before <;> cases f.score <;> rfl

theorem cumulativeOf_le {frames : List Frame} (scores : ∀ f ∈ frames, ∀ c, f.score = some c → c ≤ 30) {i : Nat} (hi : i < frames.length) {c : Nat}
    (total : cumulativeOf frames i = some c) : c ≤ 30 * (i + 1) := by
  induction i generalizing c with
  | zero =>
    match frames with
    | [] => cases hi
    | f :: rest =>
      rw [cumulativeOf_zero] at total
      exact scores f List.mem_cons_self c total
  | succ i ih =>
    have frame := List.getElem?_eq_getElem hi
    rw [cumulativeOf_succ frame] at total
    obtain ⟨t, before, sum⟩ := Option.bind_eq_some_iff.1 total
    obtain ⟨score, scored, rfl⟩ := Option.map_eq_some_iff.1 sum
    have := ih (by omega) before
    have := scores _ (List.getElem_mem hi) score scored
    omega

/-! ### A record re-resolved (R58, R77) -/

/-- The frames with the scores of frames e to 10 taken again, before their totals are refilled. -/
def rescored (e : Nat) (frames : Vector Frame 10) : Vector Frame 10 :=
  mapFrames (fun i f => if i + 1 < e then f else { f with score := scoreOf frames.toList i }) frames

theorem rescored_get (e : Nat) (frames : Vector Frame 10) {i : Nat} (hi : i < 10) : (rescored e frames)[i]
    = if i + 1 < e then frames[i] else { frames[i] with score := scoreOf frames.toList i } := mapFrames_get _ _ hi

/-- A frame below frame e stands; of any other the score and the total are taken again. -/
theorem resolveFrom_get (e : Nat) (frames : Vector Frame 10) {i : Nat} (hi : i < 10) : (resolveFrom e frames)[i]
    = if i + 1 < e then frames[i] else
        { frames[i] with score := scoreOf frames.toList i, cumulative := cumulativeOf (rescored e frames).toList i } := by
  show (mapFrames (fun i f => if i + 1 < e then f else { f with cumulative := cumulativeOf (rescored e frames).toList i })
    (rescored e frames))[i] = _
  rw [mapFrames_get _ _ hi, rescored_get e frames hi]
  split <;> rfl

theorem Game.scoresSound_iff (g : Game) : g.scoresSound ↔ ∀ i, (hi : i < 10) → g.frames[i].scoresSound (i + 1) := by
  constructor
  · intro sound i hi
    rw [← frame_eq g hi]
    exact sound (i + 1) (by omega) (by omega)
  · intro sound n first last
    obtain ⟨i, rfl⟩ := Nat.exists_eq_add_of_le' first
    rw [frame_eq g (by omega)]
    exact sound i (by omega)

/-- Frames re-resolved are within their ranges where their balls are and, below the first of them, their scores and totals. -/
theorem scoresSound_resolveFrom {g : Game} {e : Nat} (balls : ∀ i, (hi : i < 10) → BallsSound (i + 1) g.frames[i].balls)
    (scores : ∀ i, (hi : i < 10) → ∀ c, g.frames[i].score = some c → c ≤ 30)
    (totals : ∀ i, (hi : i < 10) → ∀ c, g.frames[i].cumulative = some c → c ≤ 30 * (i + 1)) :
    ({ g with frames := resolveFrom e g.frames } : Game).scoresSound := by
  have resolved {i : Nat} (hi : i < 10) {c : Nat} : scoreOf g.frames.toList i = some c → c ≤ 30 := by
    refine scoreOf_le (fun j f hf => ?_) hi
    obtain ⟨hj, rfl⟩ := List.getElem?_eq_some_iff.1 hf
    rw [Vector.length_toList] at hj
    exact balls j hj
  have again : ∀ f ∈ (rescored e g.frames).toList, ∀ c, f.score = some c → c ≤ 30 := by
    intro f hf c
    obtain ⟨i, hi, rfl⟩ := List.mem_iff_getElem.1 hf
    rw [Vector.length_toList] at hi
    rw [Vector.getElem_toList, rescored_get e g.frames hi]
    split
    · exact scores i hi c
    · exact resolved hi
  rw [Game.scoresSound_iff]
  intro i hi
  show (resolveFrom e g.frames)[i].scoresSound (i + 1)
  rw [resolveFrom_get e g.frames hi, Frame.scoresSound_iff]
  split
  · exact ⟨balls i hi, scores i hi, totals i hi⟩
  · exact ⟨balls i hi, fun c => resolved hi, fun c => cumulativeOf_le again (by rw [Vector.length_toList]; exact hi)⟩

@[simp] theorem Frame.addBall_score (n : Nat) (l : LaneIx) (ball : Ball) (f : Frame) : (f.addBall n l ball).score = f.score := rfl
@[simp] theorem Frame.addBall_cumulative (n : Nat) (l : LaneIx) (ball : Ball) (f : Frame) :
    (f.addBall n l ball).cumulative = f.cumulative := rfl
@[simp] theorem Frame.correct_score (balls : List BallField) (f : Frame) : (f.correct balls).score = f.score := rfl
@[simp] theorem Frame.correct_cumulative (balls : List BallField) (f : Frame) : (f.correct balls).cumulative = f.cumulative := rfl

/-- A record with frame n rewritten by f, and frames e to 10 re-resolved. -/
def Game.rewritten (n : Nat) (f : Frame → Frame) (e : Nat) (g : Game) : Game :=
  { g.modFrame n f with frames := resolveFrom e (g.modFrame n f).frames }

theorem addBall_eq (b : BallIn) (g : Game) : g.addBall b = g.rewritten b.turn.frame
    (Frame.addBall b.turn.frame b.lane (ballRecord b (setBefore b.turn.frame (g.frame b.turn.frame)))) (firstTouched b.turn.frame) := rfl

theorem correct_eq (n : Nat) (balls : List BallField) (g : Game) :
    g.correct n balls = g.rewritten n (Frame.correct balls) (firstTouched n) := rfl

/-- A frame given new balls, its score and total standing, and the frames re-resolved. -/
theorem scoresSound_rewritten {g : Game} (sound : g.scoresSound) {n : Nat} {f : Frame → Frame} (score : ∀ x, (f x).score = x.score)
    (cumulative : ∀ x, (f x).cumulative = x.cumulative) (balls : BallsSound n (f (g.frame n)).balls) (e : Nat) :
    (g.rewritten n f e).scoresSound := by
  rw [Game.scoresSound_iff] at sound
  have parts {i : Nat} (hi : i < 10) := (Frame.scoresSound_iff _ _).1 (sound i hi)
  refine scoresSound_resolveFrom (fun i hi => ?_) (fun i hi => ?_) (fun i hi => ?_)
  all_goals
    obtain ⟨own, scores, totals⟩ := parts hi
    rw [frame_modFrame g n f hi]
    split
  · rename_i at_n
    rwa [← at_n, frame_eq g hi] at balls
  · exact own
  · rwa [score]
  · exact scores
  · rwa [cumulative]
  · exact totals

/-- Settles O45, by the balls of the frame changed and the ranges of what is re-resolved from them. -/
theorem scoresStayInRange : Obligations.ScoresStayInRange := by
  unfold Obligations.ScoresStayInRange
  have balls {g : Game} (sound : g.scoresSound) {n : Nat} (first : 1 ≤ n) (last : n ≤ 10) : BallsSound n (g.frame n).balls :=
    ((Frame.scoresSound_iff n _).1 (sound n first last)).1
  refine ⟨fun c number applied lane fixed blind => ?_, fun g b sound first last next => ?_, fun g n entered sound first last valid => ?_,
    fun g sound total scratch => ?_⟩
  · rw [Game.scoresSound_iff]
    intro i hi
    have start : (Game.start c number lane applied fixed blind).frames[i] = .initial := by interval_cases i <;> rfl
    rw [start, Frame.scoresSound_iff]
    exact ⟨ballsSound_nil _, nofun, nofun⟩
  · rw [addBall_eq]
    exact scoresSound_rewritten sound (Frame.addBall_score _ _ _) (Frame.addBall_cumulative _ _ _) (ballsSound_addBall (balls sound first last) next b) _
  · rw [correct_eq]
    exact scoresSound_rewritten sound (Frame.correct_score _) (Frame.correct_cumulative _) (ballsSound_correct valid) _
  · exact ((Frame.scoresSound_iff 10 _).1 (sound 10 (by omega) (le_refl _))).2.2 total scratch

end Sys2Proof.Machine
end

section
/-! SUPPORT. A ball recorded below the tenth frame: what its notice at BLM, its hand-offs and the end of the ball at PSV keep,
and the record it leaves (R44, R55, R106). -/

namespace Sys2Proof.Machine

/-! ### What a ball keeps -/

/-- What BLM's evaluation of a lane, PSV's news of a head, the end of a ball at PSV, a head told, an account changed and a
report all keep. -/
structure State.KeptAtBall {β : Type} (o : State → β) : Prop where
  evaluates : ∀ (s : State) (l : LaneIx), o (s.evaluateBilling l) = o s
  hears : ∀ (s : State) (l : LaneIx), o (s.headTold l) = o s
  moves : ∀ (s : State) (l : LaneIx) (n : Need) (orphan onReturn : Bool), o (s.afterBall l n orphan onReturn) = o s
  tells : ∀ (s : State) (l : LaneIx), o (s.modLane l fun x => { x with head := x.queue.head? }) = o s
  counts : ∀ (s : State) (l : LaneIx) (f : Account → Account), o (s.modAccount l f) = o s
  reports : ∀ (s : State) (r : Report), o (s.report r) = o s

section Keeps

variable {β : Type} {o : State → β} (kept : State.KeptAtBall o) (s : State)

include kept

theorem State.KeptAtBall.charge (l : LaneIx) (n : Nat) : o (s.charge l n) = o s := by
  unfold State.charge
  repeat' split
  · rfl
  · exact kept.counts _ _ _
  · rw [State.when_keeps o _ _ _ (kept.reports _ _), kept.counts]

theorem State.KeptAtBall.evaluateAccount (l : LaneIx) : o (s.evaluateAccount l) = o s :=
  State.each_keeps o _ _ (fun k _ t => State.when_keeps o _ _ t (kept.evaluates t k)) s

theorem State.KeptAtBall.allowanceOut (l : LaneIx) (a : Account) : o (s.allowanceOut l a) = o s := by
  rw [State.allowanceOut, kept.reports, kept.counts]

theorem State.KeptAtBall.firstBall (home : LaneIx) (slot game : Nat) : o (s.firstBall home slot game) = o s := by
  simp only [State.firstBall]
  repeat' split
  · rfl
  · rfl
  · exact kept.counts _ _ _
  · simp only [kept.counts, kept.charge]
  · rw [kept.evaluateAccount, State.when_keeps o _ _ _ (kept.allowanceOut _ _ _)]
    simp only [kept.counts]
  all_goals simp only [kept.counts]

theorem State.KeptAtBall.reportHead (l : LaneIx) : o (s.reportHead l) = o s := by
  unfold State.reportHead
  split
  · rfl
  · exact kept.reports _ _

theorem State.KeptAtBall.headChanged (l : LaneIx) : o (s.headChanged l) = o s := by
  rw [State.headChanged, State.handHead, kept.hears, State.tellMeter, kept.evaluates, kept.tells, kept.reportHead]

theorem State.KeptAtBall.handOffs (before : State) (ls : List LaneIx) : o (s.handOffs before ls) = o s :=
  State.each_keeps o _ _ (fun l _ t => kept.headChanged t l) s

/-- The end of a frame below the tenth changes two queues and hands off their heads. -/
theorem State.KeptAtBall.frameOver (queues : ∀ (t : State) (k : LaneIx) (q : List Turn), o (t.setQueue k q) = o t) {l : LaneIx}
    (below : ∀ t, s.headTurn l = some t → t.frame < 10) : o (s.frameOver l) = o s := by
  simp only [State.frameOver]
  split
  · rfl
  · rename_i t rest queue
    rw [if_pos (below t (by rw [State.headTurn, queue]; rfl)), kept.handOffs, queues, queues]

end Keeps

/-- What depends on nothing that PSV changes at a lane, nor on an account or a head told, is kept. -/
theorem keptAtBall_of_outside {β : Type} {o : State → β} (outside : ∀ (l : LaneIx) (s t : State), t.outside l = s.outside l → o t = o s)
    (tells : ∀ (s : State) (l : LaneIx), o (s.modLane l fun x => { x with head := x.queue.head? }) = o s)
    (counts : ∀ (s : State) (l : LaneIx) (f : Account → Account), o (s.modAccount l f) = o s) : State.KeptAtBall o where
  evaluates s l := outside l s _ (outside_evaluateBilling l s)
  hears s l := outside l s _ (outside_headTold l s)
  moves s l n orphan onReturn := outside l s _ (outside_afterBall l n orphan onReturn s)
  tells := tells
  counts := counts
  reports s r := outside 0 s _ (outside_report 0 r s)

/-- What a change of lane l leaves of it, it leaves of every lane. -/
theorem field_modLane {β : Type} (o : Lane → β) {s : State} {l : LaneIx} {f : Lane → Lane} (same : o (f (s.lane l)) = o (s.lane l))
    (k : LaneIx) : o ((s.modLane l f).lane k) = o (s.lane k) := by
  by_cases e : k = l
  · rw [e, State.lane_modLane_self, same]
  · rw [State.lane_modLane_ne _ _ _ _ e]

theorem rosterKeptAtBall (k : LaneIx) : State.KeptAtBall fun s => (s.lane k).roster :=
  keptAtBall_of_outside (fun _ _ _ h => roster_of_outside h k) (fun _ _ => field_modLane Lane.roster rfl k)
    fun _ _ _ => field_modLane Lane.roster rfl k

theorem queueKeptAtBall (k : LaneIx) : State.KeptAtBall fun s => (s.lane k).queue :=
  keptAtBall_of_outside (fun _ _ _ h => queue_of_outside h k) (fun _ _ => field_modLane Lane.queue rfl k)
    fun _ _ _ => field_modLane Lane.queue rfl k

theorem lastEvent_of_outside {l : LaneIx} {s t : State} (h : t.outside l = s.outside l) (p : PairIx) :
    (t.station p).lastEvent = (s.station p).lastEvent := by
  by_cases e : p = pairOf l
  · rw [e, State.station, pair_self_of_outside h]
  · rw [State.station, pair_of_outside h e, State.station]

theorem lastEventKeptAtBall (p : PairIx) : State.KeptAtBall fun s => (s.station p).lastEvent :=
  keptAtBall_of_outside (fun _ _ _ h => lastEvent_of_outside h p) (fun _ _ => rfl) fun _ _ _ => rfl

/-- An operation of PSV that keeps the ball pending of its lane keeps that of every lane. -/
theorem ball_of_outside {l : LaneIx} {s t : State} (h : t.outside l = s.outside l) (own : (t.machine l).ball = (s.machine l).ball)
    (k : LaneIx) : (t.machine k).ball = (s.machine k).ball := by
  by_cases e : k = l
  · rw [e, own]
  · rw [State.machine, lane_of_outside h e, State.machine]

theorem ballKeptAtBall (k : LaneIx) : State.KeptAtBall fun s => (s.machine k).ball where
  evaluates s l := ball_of_outside (outside_evaluateBilling l s) (ball_evaluateBilling s l) k
  hears s l := ball_of_outside (outside_headTold l s) (ball_headTold s l) k
  moves s l n orphan onReturn := ball_of_outside (outside_afterBall l n orphan onReturn s) (ball_afterBall s l n orphan onReturn) k
  tells _ _ := field_modLane (fun x => x.machine.ball) rfl k
  counts _ _ _ := field_modLane (fun x => x.machine.ball) rfl k
  reports _ _ := rfl

theorem ball_setQueue (s : State) (l k : LaneIx) (q : List Turn) : ((s.setQueue l q).machine k).ball = (s.machine k).ball := by
  refine field_modLane (fun x => x.machine.ball) ?_ k
  split <;> rfl

theorem roster_setQueue (s : State) (l k : LaneIx) (q : List Turn) : ((s.setQueue l q).lane k).roster = (s.lane k).roster :=
  (fields_setQueue s l k q).1

/-! ### A ball recorded below the tenth frame (R55) -/

/-- A ball recorded, with its notice to BLM and its reports: steps 1 to 4 of R55. -/
def State.noted (b : BallIn) (before : Game) (s : State) : State :=
  let r := ballResult b before (before.addBall b)
  ((((s.modGame b.turn.home b.turn.slot b.turn.game (Game.addBall b)).when (before.balls = [])
    (State.firstBall b.turn.home b.turn.slot b.turn.game)).report (.ballResult r)).reportCheck b r
      (checkCauses b (setBefore b.turn.frame (before.frame b.turn.frame))))

theorem recordBall_below (s : State) {b : BallIn} (below : b.turn.frame < 10) (before : Game) : s.recordBall b before
    = (s.noted b before).when ((before.addBall b).frame b.turn.frame).mark.complete (State.frameOver b.lane) := by
  have early : (((before.addBall b).frame b.turn.frame).mark.complete && decide (b.turn.frame = 10)) = false := by
    rw [decide_eq_false (Nat.ne_of_lt below), Bool.and_false]
  show State.when _ _ (State.when (((before.addBall b).frame b.turn.frame).mark.complete && decide (b.turn.frame = 10)) _ _) = _
  rw [early]
  rfl

theorem State.KeptAtBall.noted {β : Type} {o : State → β} (kept : State.KeptAtBall o) (s : State) (b : BallIn) (before : Game) :
    o (s.noted b before) = o (s.modGame b.turn.home b.turn.slot b.turn.game (Game.addBall b)) := by
  rw [State.noted, State.reportCheck, State.when_keeps o _ _ _ (kept.reports _ _), kept.reports,
    State.when_keeps o _ _ _ (kept.firstBall _ _ _ _)]

/-- A ball below the tenth frame changes the record of its turn, and of the rest what the end of its frame changes. -/
theorem State.KeptAtBall.recordBall {β : Type} {o : State → β} (kept : State.KeptAtBall o)
    (queues : ∀ (t : State) (k : LaneIx) (q : List Turn), o (t.setQueue k q) = o t) {s : State} {b : BallIn} (below : b.turn.frame < 10)
    (head : s.headTurn b.lane = some b.turn) (before : Game) :
    o (s.recordBall b before) = o (s.modGame b.turn.home b.turn.slot b.turn.game (Game.addBall b)) := by
  have queue : ((s.noted b before).lane b.lane).queue = (s.lane b.lane).queue :=
    ((queueKeptAtBall b.lane).noted s b before).trans (field_modLane Lane.queue rfl b.lane)
  rw [recordBall_below s below, State.when_keeps o _ _ _ (kept.frameOver _ queues fun t ht => ?_), kept.noted]
  rw [State.headTurn, queue] at ht
  obtain rfl := Option.some.inj (head.symm.trans ht)
  exact below

end Sys2Proof.Machine
end

section
/-! SUPPORT. A deck image that finishes its ball, the answer to a poll that brings it, and the record that takes the ball
(R44, R93, R104, R106). -/

namespace Sys2Proof.Machine

/-! ### The record of a turn -/

/-- The roster as a record changed leaves it: its own lane's, with the bowler's record changed. -/
theorem roster_modGame (s : State) (home : LaneIx) (slot number : Nat) (f : Game → Game) (k : LaneIx) :
    ((s.modGame home slot number f).lane k).roster
      = if k = home then modBowler slot (Bowler.modGame number f) (s.lane k).roster else (s.lane k).roster := by
  split
  · rename_i e
    rw [e, State.modGame, State.lane_modLane_self]
  · rename_i e
    rw [State.modGame, State.lane_modLane_ne _ _ _ _ e]

/-- A state whose rosters are those of s with one record changed. -/
structure State.Recorded (t s : State) (turn : Turn) (f : Game → Game) : Prop where
  home : (t.lane turn.home).roster = modBowler turn.slot (Bowler.modGame turn.game f) (s.lane turn.home).roster
  away : ∀ k, k ≠ turn.home → (t.lane k).roster = (s.lane k).roster

theorem State.Recorded.of_rosters {s v t : State} {turn : Turn} {f : Game → Game} (recorded : t.Recorded v turn f)
    (rosters : ∀ k, (v.lane k).roster = (s.lane k).roster) : t.Recorded s turn f where
  home := by rw [recorded.home, rosters]
  away k e := by rw [recorded.away k e, rosters]

section Recorded

variable {s t : State} {turn : Turn} {f : Game → Game} (recorded : t.Recorded s turn f) (number : ∀ g, (f g).number = g.number)

include recorded

theorem State.Recorded.bowler : t.bowler turn.home turn.slot = (s.bowler turn.home turn.slot).map (Bowler.modGame turn.game f) := by
  rw [State.bowler, recorded.home, bowlerAt_modBowler, if_pos rfl, State.bowler]

/-- The other bowlers of the roster stand. -/
theorem State.Recorded.others {i : Nat} (other : i + 1 ≠ turn.slot) : (t.lane turn.home).roster[i]? = (s.lane turn.home).roster[i]? := by
  rw [recorded.home]
  exact (bowlerAt_modBowler turn.slot (i + 1) (Bowler.modGame turn.game f) _).trans (if_neg other)

include number

/-- The record of the turn is changed by f, and those of the bowler's other games stand. -/
theorem State.Recorded.game (n : Nat) : (t.bowler turn.home turn.slot).bind (·.game n)
    = if n = turn.game then ((s.bowler turn.home turn.slot).bind (·.game n)).map f else (s.bowler turn.home turn.slot).bind (·.game n) := by
  rw [recorded.bowler]
  cases s.bowler turn.home turn.slot with
  | none => simp
  | some b => exact game_modGame number turn.game n b

theorem State.Recorded.gameOf {g : Game} (game : s.gameOf turn = some g) : t.gameOf turn = some (f g) := by
  rw [State.gameOf] at game
  rw [State.gameOf, recorded.game number, if_pos rfl, game, Option.map_some]

end Recorded

/-- A ball recorded lengthens its frame by one. Frames are numbered from 1: what reads frame 0 reads the first, which takes
no ball for it. -/
theorem length_frame_addBall (b : BallIn) (g : Game) (last : b.turn.frame ≤ 10) :
    ((g.addBall b).frame b.turn.frame).balls.length = (g.frame b.turn.frame).balls.length + if 1 ≤ b.turn.frame then 1 else 0 := by
  have place : b.turn.frame - 1 < 10 := by omega
  have frame (g : Game) : g.frame b.turn.frame = g.frames[b.turn.frame - 1] := by simp [Game.frame, place]
  rw [frame, balls_addBall b g place, frame_modFrame _ _ _ place]
  by_cases first : 1 ≤ b.turn.frame
  · rw [if_pos (Nat.sub_add_cancel first), if_pos first, frame, Frame.addBall, List.length_append, List.length_singleton]
  · rw [if_neg (by omega), if_neg first, frame, Nat.add_zero]

/-! ### A ball finished (R106) -/

section Finished

variable {s : State} {l : LaneIx} {b : PendingBall} {g : Game} (image : PinSet) (ball : (s.machine l).ball = some b)
  (own : b.orphan = false) (game : s.gameOf b.turn = some g)

/-- The ball handed to SCE with its final image. -/
def PendingBall.handed (b : PendingBall) (l : LaneIx) (image : PinSet) : BallIn := ⟨l, b.turn, image, b.reads, b.foul, b.rerack⟩

include ball own game

theorem finishBall_of_scored : s.finishBall l image = ((s.closeBall l).recordBall (b.handed l image) g).afterBall l
    (deckNeed b.turn.frame ((g.addBall (b.handed l image)).frame b.turn.frame)) false b.onReturn := by
  simp only [State.finishBall, ball, own, game, Bool.false_eq_true, if_false]
  rfl

variable (below : b.turn.frame < 10)

include below

theorem State.KeptAtBall.finishBall {β : Type} {o : State → β} (kept : State.KeptAtBall o)
    (queues : ∀ (t : State) (k : LaneIx) (q : List Turn), o (t.setQueue k q) = o t) (head : s.headTurn l = some b.turn) :
    o (s.finishBall l image) = o ((s.closeBall l).modGame b.turn.home b.turn.slot b.turn.game (Game.addBall (b.handed l image))) := by
  have closed : (s.closeBall l).headTurn l = some b.turn := by
    rw [State.headTurn, State.closeBall, State.lane_modMachine_self]
    exact head
  rw [finishBall_of_scored image ball own game, kept.moves]
  exact kept.recordBall queues (b := b.handed l image) below closed g

theorem recorded_finishBall (head : s.headTurn l = some b.turn) :
    (s.finishBall l image).Recorded s b.turn (Game.addBall (b.handed l image)) := by
  have roster (k : LaneIx) : ((s.finishBall l image).lane k).roster
      = if k = b.turn.home then modBowler b.turn.slot (Bowler.modGame b.turn.game (Game.addBall (b.handed l image))) (s.lane k).roster
        else (s.lane k).roster := by
    have closed : ((s.closeBall l).lane k).roster = (s.lane k).roster := field_modLane Lane.roster rfl k
    rw [(rosterKeptAtBall k).finishBall image ball own game below (fun t j q => roster_setQueue t j k q) head, roster_modGame, closed]
  exact ⟨by rw [roster, if_pos rfl], fun k e => by rw [roster, if_neg e]⟩

theorem ball_finishBall (head : s.headTurn l = some b.turn) : ((s.finishBall l image).machine l).ball = none := by
  rw [(ballKeptAtBall l).finishBall image ball own game below (fun t j q => ball_setQueue t j l q) head, State.modGame]
  refine (field_modLane (fun x => x.machine.ball) rfl l).trans ?_
  rw [State.closeBall, State.lane_modMachine_self]

theorem lastEvent_finishBall (head : s.headTurn l = some b.turn) (p : PairIx) :
    ((s.finishBall l image).station p).lastEvent = (s.station p).lastEvent :=
  (lastEventKeptAtBall p).finishBall image ball own game below (fun _ _ _ => rfl) head

/-- A ball that leaves its frame open moves no turn. -/
theorem queue_finishBall (open_ : ((g.addBall (b.handed l image)).frame b.turn.frame).mark.complete = false) (k : LaneIx) :
    ((s.finishBall l image).lane k).queue = (s.lane k).queue := by
  have stands : ((g.addBall (b.handed l image)).frame (b.handed l image).turn.frame).mark.complete = false := open_
  rw [finishBall_of_scored image ball own game, (queueKeptAtBall k).moves, recordBall_below _ below, stands]
  exact ((queueKeptAtBall k).noted _ _ _).trans ((field_modLane Lane.queue rfl k).trans (field_modLane Lane.queue rfl k))

end Finished

/-! ### A deck image (R104) -/

theorem modMachine_modMachine (s : State) (l : LaneIx) (f g : MachineRec → MachineRec) :
    (s.modMachine l f).modMachine l g = s.modMachine l fun m => g (f m) := modLane_modLane s l _ _

section Image

variable {s : State} {l : LaneIx} {b : PendingBall} {f : InFlight} {again : Bool} (image : Vector PinState 10)
  (state : (s.machine l).state = .reading) (inFlight : (s.machine l).inFlight = some f) (op : f.op = .readDeck again)
  (ball : (s.machine l).ball = some b)

include state inFlight op ball

/-- An unsettled pin before the third read starts the re-read settle. -/
theorem deckImage_unsettled (unsettled : pinsIn .unsettled image ≠ 0#10) (early : b.reads < 3) : s.deckImage l image
    = s.modMachine l fun m => { m with inFlight := none, timer := some ⟨.reread, s.returnClock, 5⟩ } := by
  have spare : (pinsIn .unsettled image ≠ 0#10 && decide (b.reads < Config.readsMax)) = true := by
    simp [unsettled, Config.readsMax, early]
  simp only [State.deckImage, state, inFlight, op, ball]
  rw [if_pos spare, State.startTimer, modMachine_modMachine]
  rfl

/-- Any other image is the ball's last, with the unsettled pins counted standing. -/
theorem deckImage_final (final : pinsIn .unsettled image = 0#10 ∨ 3 ≤ b.reads) : s.deckImage l image
    = (s.modMachine l fun m => { m with inFlight := none, deck := deckOf (pinsIn .standing image ||| pinsIn .unsettled image) }).finishBall
        l (pinsIn .standing image ||| pinsIn .unsettled image) := by
  have last : ¬ (pinsIn .unsettled image ≠ 0#10 && decide (b.reads < Config.readsMax)) = true := by
    simp only [Config.readsMax, Bool.and_eq_true, decide_eq_true_eq, not_and, Nat.not_lt]
    exact fun unsettled => final.resolve_left unsettled
  simp only [State.deckImage, state, inFlight, op, ball]
  rw [if_neg last, modMachine_modMachine]

/-- A final image finishes the ball of a head turn below the tenth frame. -/
theorem deckImage_records (final : pinsIn .unsettled image = 0#10 ∨ 3 ≤ b.reads) (own : b.orphan = false) {g : Game}
    (game : s.gameOf b.turn = some g) (below : b.turn.frame < 10) (head : s.headTurn l = some b.turn) :
    let h := b.handed l (pinsIn .standing image ||| pinsIn .unsettled image)
    let t := s.deckImage l image
    t.Recorded s b.turn (Game.addBall h) ∧ (t.machine l).ball = none
      ∧ (((g.addBall h).frame b.turn.frame).mark.complete = false → ∀ k, (t.lane k).queue = (s.lane k).queue)
      ∧ (∀ p, (t.station p).lastEvent = (s.station p).lastEvent) ∧ t.kept = s.kept := by
  intro h t
  have finished : t = _ := deckImage_final image state inFlight op ball final
  generalize hv : State.modMachine l _ s = v at finished
  have lanes {β : Type} (o : Lane → β) (same : ∀ x m, o { x with machine := m } = o x) (k : LaneIx) : o (v.lane k) = o (s.lane k) := by
    rw [← hv]
    exact field_modLane o (same _ _) k
  have ball' : (v.machine l).ball = some b := by rw [← hv, State.machine_modMachine_self, ← ball]
  have game' : v.gameOf b.turn = some g := by rw [← hv, gameOf_modMachine, game]
  have head' : v.headTurn l = some b.turn := by rw [State.headTurn, lanes Lane.queue (fun _ _ => rfl), ← head, State.headTurn]
  rw [finished]
  refine ⟨(recorded_finishBall _ ball' own game' below head').of_rosters (lanes Lane.roster fun _ _ => rfl),
    ball_finishBall _ ball' own game' below head', fun stands k => ?_, fun p => ?_, ?_⟩
  · exact (queue_finishBall _ ball' own game' below stands k).trans (lanes Lane.queue (fun _ _ => rfl) k)
  · rw [lastEvent_finishBall _ ball' own game' below head', ← hv]
    rfl
  · rw [kept_finishBall, ← hv, kept_modMachine]

end Image

/-! ### An answer with an event (R91, R93) -/

/-- The exchange closed by pair p's answer, with its event n marked taken. -/
def State.heard (p : PairIx) (a : StatusAnswer) (n : Byte) (s : State) : State :=
  (s.closeExchange.modStation p (Station.answered a)).modStation p fun t => { t with lastEvent := some n }

theorem station_heard (s : State) (p : PairIx) (a : StatusAnswer) (n : Byte) :
    (s.heard p a n).station p = { (s.station p).answered a with lastEvent := some n } := by
  rw [State.heard, State.station_modStation_self, State.station_modStation_self]
  rfl

/-- The echoes an answer marks leave each command its sequence (R92). -/
theorem command_heard (s : State) (p : PairIx) (a : StatusAnswer) (n : Byte) (side : Side) :
    (((s.heard p a n).station p).command side).map (·.seq) = ((s.station p).command side).map (·.seq) := by
  rw [station_heard]
  cases side
  · exact Option.map_map ..
  · exact Option.map_map ..

/-- The event of an answer is handed to its owner, where the lane it names is fitted. -/
theorem exec_of_hears {s : State} {p : PairIx} {a : StatusAnswer} {n : Byte} {e : BusEvent} (h : s.hears p a n e)
    (fits : ∀ side, eventSide e = some side → fittedHas (s.station p).fitted side = true) :
    exec (.statusAnswer a) s = .next ((s.heard p a n).handEvent p e) := by
  obtain ⟨free, exchange, polled, address, events, event, fresh⟩ := h
  have taken : (s.closeExchange.modStation p (Station.answered a)).takeEvent p ⟨n, e⟩ = (s.heard p a n).handEvent p e := by
    have station : (s.closeExchange.modStation p (Station.answered a)).station p = (s.station p).answered a := State.station_modStation_self ..
    have fitted : (match eventSide e with | none => true | some side => fittedHas (s.station p).fitted side) = true := by
      split
      · rfl
      · exact fits _ ‹_›
    have unseen : ((s.station p).answered a).lastEvent ≠ some n := fresh
    rw [State.takeEvent, station, if_neg unseen]
    exact if_pos fitted
  show Host.Outcome.next (State.live (State.statusIn a) s) = _
  rw [State.live_of_free free, State.statusIn, exchange]
  simp only [address, and_self, if_true, polled, State.statusTaken, events, Bool.false_eq_true, if_false, event, taken]

/-- Settles O43: an image that settles nothing leaves the timer alone changed, and a final one the ball's record, by what a
ball below the tenth frame keeps. -/
theorem deckImageRecordsTheBall : Obligations.DeckImageRecordsTheBall := by
  unfold Obligations.DeckImageRecordsTheBall
  intro s p side n seq pins a b f again hears fits command l image state inFlight op ball
  have handed : exec (.statusAnswer a) s = .next ((s.heard p a n).deckImage l image) := by
    rw [exec_of_hears hears fun side' e => Option.some.inj e ▸ fits]
    have fresh : ((s.heard p a n).station p).stale side seq = false := by
      rw [Station.stale, command_heard, command]
      simp
    simp only [State.handEvent, fresh, Bool.false_eq_true, if_false]
    rw [station_heard]
    rfl
  have lastEvent : ((s.heard p a n).station p).lastEvent = some n := by rw [station_heard]
  rw [handed]
  refine ⟨fun unsettled early => ⟨_, rfl, ?_⟩, fun g final own head below game => ⟨_, rfl, ?_⟩⟩
  · rw [deckImage_unsettled (s := s.heard p a n) image state inFlight op ball unsettled early]
    exact ⟨State.machine_modMachine_self _ _ _, fun k e => State.lane_modMachine_ne _ _ _ _ e, rfl, lastEvent⟩
  · obtain ⟨recorded, closed, queues, events, kept⟩ :=
      deckImage_records (s := s.heard p a n) image state inFlight op ball final own game below head
    obtain ⟨-, -, -, -, -, clock, -, meter, hold, -⟩ := fields_of_kept kept
    exact ⟨recorded.gameOf (fun _ => rfl) game, closed, length_frame_addBall _ g (Nat.le_of_lt below), recorded.away,
      fun number other => (recorded.game (fun _ => rfl) number).trans (if_neg other), fun i other => recorded.others other, queues,
      (events p).trans lastEvent, clock, meter, hold⟩

end Sys2Proof.Machine
end

section
/-! SUPPORT. The shared checks of a request on game records (R74), and ACK_CHECK (R73). -/

namespace Sys2Proof.Machine

/-! ### The checks of a request on records (R74) -/

theorem number_of_game {b : Bowler} {n : Nat} {g : Game} (game : b.game n = some g) : g.number = n := by
  simpa using List.find?_some game

/-- A request on the records that a lane shows is the owner's answer. -/
theorem checks_of_shown {s : State} {l : LaneIx} (fits : s.fits l) (shown : (s.lane l).session ≠ .closed ∨ (s.lane l).lastRoster = true)
    (k : LaneIx → State → Answer) : checkLane (laneNumber l) (checkHeld true k) s = k l s := by
  rw [checkLane_of_fits fits, checkHeld_of_shown shown]

section Record

variable {s : State} {l : LaneIx} {slot game : Nat} {b : Bowler} {g : Game} (bowler : s.bowler l slot = some b) (record : b.game game = some g)

include bowler record

theorem checkRecord_of_record (k : Bowler → Game → LaneIx → State → Answer) : checkRecord slot game k l s = k b g l s := by
  rw [checkRecord, checkSlot_of_bowler bowler, record]

theorem checkOpenRecord_of_certified (certified : g.state = .certified) (k : Bowler → Game → LaneIx → State → Answer) :
    checkOpenRecord slot game k l s = refuse .certified s := by
  rw [checkOpenRecord, checkRecord_of_record bowler record, if_pos certified]

theorem checkOpenRecord_of_open (isOpen : g.state ≠ .certified) (k : Bowler → Game → LaneIx → State → Answer) :
    checkOpenRecord slot game k l s = k b g l s := by
  rw [checkOpenRecord, checkRecord_of_record bowler record, if_neg isOpen]

section Checks

variable (fits : s.fits l) (shown : (s.lane l).session ≠ .closed ∨ (s.lane l).lastRoster = true)

include fits shown

theorem checks_of_certified (certified : g.state = .certified) (k : Bowler → Game → LaneIx → State → Answer) :
    checkLane (laneNumber l) (checkHeld true (checkOpenRecord slot game k)) s = refuse .certified s := by
  rw [checks_of_shown fits shown, checkOpenRecord_of_certified bowler record certified]

/-- A request that changes a record not CERTIFIED is the owner's answer. -/
theorem checks_of_open (isOpen : g.state ≠ .certified) (k : Bowler → Game → LaneIx → State → Answer) :
    checkLane (laneNumber l) (checkHeld true (checkOpenRecord slot game k)) s = k b g l s := by
  rw [checks_of_shown fits shown, checkOpenRecord_of_open bowler record isOpen]

end Checks

/-- A record changed is its bowler changed in the roster. -/
theorem modGame_of_record (f : Game → Game) : s.modGame l slot g.number f
    = s.setLane l { s.lane l with roster := (s.lane l).roster.set (slot - 1) (b.modGame game f) } := by
  rw [number_of_game record]
  exact modBowlerOf_of_bowler bowler (Bowler.modGame game f)

/-- What reads a record after it is changed finds it changed. -/
theorem game_modGame_of_record {f : Game → Game} (number : ∀ g, (f g).number = g.number) :
    ((s.modGame l slot g.number f).bowler l slot).bind (·.game game) = some (f g) := by
  have recorded : (s.modGame l slot g.number f).Recorded s ⟨l, slot, g.number, 0⟩ f :=
    ⟨(roster_modGame ..).trans (if_pos rfl), fun k other => (roster_modGame ..).trans (if_neg other)⟩
  have e := number_of_game record
  rw [← e]
  refine recorded.gameOf number ?_
  show (s.bowler l slot).bind (·.game g.number) = some g
  rw [bowler, e]
  exact record

end Record

/-! ### ACK_CHECK (R73) -/

@[simp] theorem length_acknowledgeBalls (ball : Option Nat) (balls : List Ball) : (acknowledgeBalls ball balls).length = balls.length :=
  List.length_mapIdx

/-- Each ball named is acknowledged where its check is OPEN, and every other ball stands. -/
theorem getElem?_acknowledgeBalls (ball : Option Nat) {balls : List Ball} {i : Nat} {x : Ball} (at_i : balls[i]? = some x) :
    (acknowledgeBalls ball balls)[i]? = some
      (if (ball = none ∨ ball = some (i + 1)) ∧ x.check = .open_ then { x with check := .acknowledged } else x) := by
  rw [acknowledgeBalls, List.getElem?_mapIdx, at_i, Option.map_some]
  cases ball with
  | none => simp [Ball.acknowledge]
  | some n =>
    by_cases named : n = i + 1
    · simp [named, Ball.acknowledge]
    · simp [named, Ne.symm named]

theorem ackInRange_iff (frame : Nat) (ball : Option Nat) (balls : List Ball) : ackInRange frame ball balls = true
    ↔ 1 ≤ frame ∧ frame ≤ 10 ∧ ∀ n, ball = some n → 1 ≤ n ∧ n ≤ 3 ∧ n ≤ balls.length := by
  cases ball <;> simp [ackInRange, and_assoc]

section Ack

variable {s : State} {l : LaneIx} {slot frame : Nat} {ball : Option Nat} {g : Game}
  (range : ackInRange frame ball (g.frame frame).balls = true)

include range

theorem ackCheck_of_none_open (stands : acknowledgeBalls ball (g.frame frame).balls = (g.frame frame).balls) :
    ackCheck slot frame ball g l s = ⟨s, .noChange,
      .checks l slot g.number frame ((acknowledgeBalls ball (g.frame frame).balls).map (·.check))⟩ := by
  simp only [ackCheck, range, Bool.not_true, Bool.false_eq_true, if_false, if_pos stands]

theorem ackCheck_of_open (changes : acknowledgeBalls ball (g.frame frame).balls ≠ (g.frame frame).balls) :
    ackCheck slot frame ball g l s = ⟨s.modGame l slot g.number (Game.modFrame frame fun f =>
        { f with balls := acknowledgeBalls ball (g.frame frame).balls }), .ok,
      .checks l slot g.number frame ((acknowledgeBalls ball (g.frame frame).balls).map (·.check))⟩ := by
  simp only [ackCheck, range, Bool.not_true, Bool.false_eq_true, if_false, if_neg changes]

end Ack

/-- Settles O26: the checks of R74 in order, then the balls that acknowledgeBalls leaves. -/
theorem ackCheckAcknowledges : Obligations.AckCheckAcknowledges := by
  unfold Obligations.AckCheckAcknowledges
  intro s r l slot game frame ball b g front fits shown bowler record
  have number := number_of_game record
  refine ⟨fun certified => ?_, fun isOpen first last named => ?_⟩
  · exact congrArg Host.Outcome.next (live_of_answer front (a := refuse .certified s)
      (checks_of_certified bowler record fits shown certified _))
  · have range := (ackInRange_iff frame ball (g.frame frame).balls).2 ⟨first, last, named⟩
    have exec_eq {a : Answer} (answer : ackCheck slot frame ball g l s = a) :
        exec (.ackCheck true ⟨laneNumber l, slot, game⟩ frame ball) s = .next (a.state.answered r a.status a.body) :=
      congrArg Host.Outcome.next (live_of_answer front ((checks_of_open bowler record fits shown isOpen _).trans answer))
    refine ⟨acknowledgeBalls ball (g.frame frame).balls, length_acknowledgeBalls _ _, fun i x => getElem?_acknowledgeBalls ball,
      fun stands => ?_, fun changes => ?_⟩
    · rw [exec_eq (ackCheck_of_none_open range stands), number]
    · rw [exec_eq (ackCheck_of_open range changes), modGame_of_record bowler record, number]

end Sys2Proof.Machine
end

section
/-! SUPPORT. A frame corrected, the record re-resolved from two frames before it, and CORRECT_FRAME (R75 to R77). -/

namespace Sys2Proof.Machine

/-! ### A record re-resolved, frame by frame (R57, R58) -/

/-- What a frame's score is taken from: the balls and the marks of the frames. -/
def Frame.bowled (f : Frame) : List Ball × Mark := (f.balls, f.mark)

theorem scoreOf_of_bowled {xs ys : List Frame} (h : xs.map Frame.bowled = ys.map Frame.bowled) (i : Nat) : scoreOf xs i = scoreOf ys i := by
  have own : xs[i]?.map Frame.bowled = ys[i]?.map Frame.bowled := by rw [← List.getElem?_map, h, List.getElem?_map]
  have later (zs : List Frame) : (zs.drop (i + 1)).flatMap (·.balls) = ((zs.map Frame.bowled).drop (i + 1)).flatMap Prod.fst := by
    rw [← List.map_drop, List.flatMap_map]
    rfl
  unfold scoreOf
  rw [later xs, later ys, h]
  cases hx : xs[i]? with
  | none =>
    cases hy : ys[i]? with
    | none => rfl
    | some y => simp [hx, hy] at own
  | some x =>
    cases hy : ys[i]? with
    | none => simp [hx, hy] at own
    | some y =>
      have both : x.balls = y.balls ∧ x.mark = y.mark := by simpa [hx, hy, Frame.bowled] using own
      simp only [both.1, both.2]

/-- Re-resolving changes no ball and no mark. -/
theorem bowled_resolveFrom (e : Nat) (v : Vector Frame 10) : (resolveFrom e v).toList.map Frame.bowled = v.toList.map Frame.bowled := by
  refine List.ext_getElem (by simp) fun i hi _ => ?_
  have hi : i < 10 := by simpa using hi
  simp only [List.getElem_map, Vector.getElem_toList, resolveFrom_get e v hi]
  split <;> rfl

/-- A frame of a record rewritten in frame n: below frame e as modFrame leaves it, and from there on with the score that the
record as it then stands gives it. -/
theorem frame_rewritten (g : Game) (n : Nat) (f : Frame → Frame) (e : Nat) {k : Nat} (first : 1 ≤ k) (last : k ≤ 10) :
    let x := if k = n then f (g.frame k) else g.frame k
    (k < e → (g.rewritten n f e).frame k = x)
      ∧ (e ≤ k → ∃ total, (g.rewritten n f e).frame k
          = { x with score := scoreOf (g.rewritten n f e).frames.toList (k - 1), cumulative := total }) := by
  intro x
  obtain ⟨i, rfl⟩ := Nat.exists_eq_add_of_le' first
  have hi : i < 10 := by omega
  have modified : (g.modFrame n f).frames[i] = x := by rw [frame_modFrame g n f hi, ← frame_eq g hi]
  have score : scoreOf (g.modFrame n f).frames.toList i = scoreOf (g.rewritten n f e).frames.toList i :=
    (scoreOf_of_bowled (bowled_resolveFrom e (g.modFrame n f).frames) i).symm
  have resolved : (g.rewritten n f e).frame (i + 1) = if i + 1 < e then x else
      { x with score := scoreOf (g.rewritten n f e).frames.toList i
               cumulative := cumulativeOf (rescored e (g.modFrame n f).frames).toList i } := by
    rw [frame_eq _ hi, ← score, ← modified]
    exact resolveFrom_get e (g.modFrame n f).frames hi
  exact ⟨fun below => resolved.trans (if_pos below), fun from_e => ⟨_, resolved.trans (if_neg (Nat.not_lt.2 from_e))⟩⟩

/-! ### A frame corrected (R76, R77) -/

theorem lt_firstTouched_iff {k frame : Nat} (first : 1 ≤ k) : k < firstTouched frame ↔ k + 2 < frame := by
  unfold firstTouched
  omega

section Correct

variable (g : Game) (frame : Nat) (balls : List BallField) {k : Nat} (first : 1 ≤ k)

include first

theorem frame_correct_before (early : k + 2 < frame) (last : frame ≤ 10) : (g.correct frame balls).frame k = g.frame k := by
  rw [correct_eq, (frame_rewritten g frame _ _ first (by omega)).1 ((lt_firstTouched_iff first).2 early), if_neg (by omega)]

variable (last : k ≤ 10)

include last

theorem frame_correct_from (touched : frame ≤ k + 2) : ∃ total, (g.correct frame balls).frame k
    = { if k = frame then (g.frame k).correct balls else g.frame k with
        score := scoreOf (g.correct frame balls).frames.toList (k - 1), cumulative := total } :=
  (frame_rewritten g frame (Frame.correct balls) (firstTouched frame) first last).2
    (Nat.not_lt.1 ((lt_firstTouched_iff first).not.2 (Nat.not_lt.2 touched)))

theorem frame_correct_score (touched : frame ≤ k + 2) :
    ((g.correct frame balls).frame k).score = scoreOf (g.correct frame balls).frames.toList (k - 1) := by
  obtain ⟨total, e⟩ := frame_correct_from g frame balls first last touched
  rw [e]

/-- The frame corrected, but for its score and total. -/
theorem frame_correct_self : ∃ score total, (g.correct k balls).frame k
    = { (g.frame k).correct balls with score := score, cumulative := total } := by
  obtain ⟨total, e⟩ := frame_correct_from g k balls first last (Nat.le_add_right k 2)
  rw [if_pos rfl] at e
  exact ⟨_, total, e⟩

/-- Every other frame keeps its balls and its mark. -/
theorem frame_correct_other (other : k ≠ frame) (frame_last : frame ≤ 10) :
    ((g.correct frame balls).frame k).balls = (g.frame k).balls ∧ ((g.correct frame balls).frame k).mark = (g.frame k).mark := by
  by_cases early : k + 2 < frame
  · rw [frame_correct_before g frame balls first early frame_last]
    exact ⟨rfl, rfl⟩
  · obtain ⟨total, e⟩ := frame_correct_from g frame balls first last (Nat.not_lt.1 early)
    rw [e, if_neg other]
    exact ⟨rfl, rfl⟩

end Correct

/-! ### CORRECT_FRAME -/

/-- The state with a frame of a record corrected, and GAME_CORRECTED queued where the record is FINISHED (R77). -/
def State.corrected (l : LaneIx) (slot frame : Nat) (balls : List BallField) (g : Game) (s : State) : State :=
  (s.modGame l slot g.number (Game.correct frame balls)).when (g.state = .finished) (State.report
    (.gameCorrected l slot g.number frame ((g.correct frame balls).scratch.getD (g.correct frame balls).soFar) g.handicap
      (g.correct frame balls).handicapped))

theorem not_outOfRange {frame : Nat} (first : 1 ≤ frame) (last : frame ≤ 10) : (decide (frame = 0) || decide (10 < frame)) = false := by
  rw [Bool.or_eq_false_iff, decide_eq_false_iff_not, decide_eq_false_iff_not]
  omega

section CorrectFrame

variable {s : State} {l : LaneIx} {slot frame : Nat} {balls : List BallField} {g : Game} (first : 1 ≤ frame) (last : frame ≤ 10)
  (bowled : g.state ≠ .blind) (complete : (g.frame frame).mark.complete = true)

include first last bowled complete

/-- A list given for a completed frame of a bowled record is refused where it is no valid frame. -/
theorem correctFrame_of_invalid (invalid : validFrame frame balls = false) :
    correctFrame slot frame balls g l s = refuse .badValue s := by
  simp only [correctFrame, not_outOfRange first last, bowled, complete, invalid, Bool.not_true, Bool.not_false,
    Bool.false_eq_true, if_true, if_false]

theorem correctFrame_of_valid (valid : validFrame frame balls = true) : ∃ body,
    correctFrame slot frame balls g l s = ⟨s.corrected l slot frame balls g, .ok, body⟩ := by
  simp only [correctFrame, not_outOfRange first last, bowled, complete, valid, Bool.not_true, Bool.false_eq_true, if_false]
  exact ⟨_, rfl⟩

end CorrectFrame

theorem handicapped_of_finished {g : Game} (finished : g.state = .finished) {n : Nat} (total : g.scratch = some n) :
    g.handicapped = n + g.handicap := by
  simp only [Game.handicapped, Game.countedTotal, Game.basisState, finished, total, Option.getD_some]

section Corrected

variable (s : State) (l : LaneIx) (slot frame : Nat) (balls : List BallField) (g : Game)

/-- What a report keeps, a frame corrected changes as its record changed does. -/
theorem State.corrected_keeps {β : Type} (o : State → β) (reports : ∀ (t : State) (r : Report), o (t.report r) = o t) :
    o (s.corrected l slot frame balls g) = o (s.modGame l slot g.number (Game.correct frame balls)) :=
  State.when_keeps o _ _ _ (reports _ _)

/-- A frame corrected changes the roster of its own lane alone. -/
theorem lane_corrected : (s.corrected l slot frame balls g).lane l
    = { s.lane l with roster := modBowler slot (Bowler.modGame g.number (Game.correct frame balls)) (s.lane l).roster } :=
  (s.corrected_keeps l slot frame balls g (fun t => t.lane l) fun _ _ => rfl).trans (State.lane_modLane_self ..)

theorem lane_corrected_ne {k : LaneIx} (other : k ≠ l) : (s.corrected l slot frame balls g).lane k = s.lane k :=
  (s.corrected_keeps l slot frame balls g (fun t => t.lane k) fun _ _ => rfl).trans (State.lane_modLane_ne _ _ _ _ other)

theorem link_corrected_of_unfinished (unfinished : g.state ≠ .finished) : (s.corrected l slot frame balls g).link = s.link := by
  rw [State.corrected, State.when, decide_eq_false unfinished]
  rfl

/-- A FINISHED record's correction is reported with its new total. -/
theorem link_corrected_of_finished (finished : g.state = .finished) {n : Nat} (total : (g.correct frame balls).scratch = some n) :
    (s.corrected l slot frame balls g).link
      = Link.queue (.gameCorrected l slot g.number frame n g.handicap (n + g.handicap)) s.link := by
  have handicapped : (g.correct frame balls).handicapped = n + g.handicap :=
    handicapped_of_finished (g := g.correct frame balls) finished total
  rw [State.corrected, State.when, decide_eq_true finished, if_pos rfl, total, handicapped]
  rfl

end Corrected

/-- Settles O27: the checks in order, the frames of the record as re-resolving leaves them, and the lanes and the reports as
the correction does. -/
theorem correctFrameRewritesTheFrame : Obligations.CorrectFrameRewritesTheFrame := by
  unfold Obligations.CorrectFrameRewritesTheFrame
  intro s r l slot game frame balls b g front fits shown bowler record isOpen bowled first last complete
  have exec_eq {a : Answer} (answer : correctFrame slot frame balls g l s = a) :
      exec (.correctFrame true ⟨laneNumber l, slot, game⟩ frame balls) s = .next (a.state.answered r a.status a.body) :=
    congrArg Host.Outcome.next (live_of_answer front ((checks_of_open bowler record fits shown isOpen _).trans answer))
  refine ⟨fun invalid => exec_eq (correctFrame_of_invalid first last bowled complete invalid), fun valid => ?_⟩
  obtain ⟨body, answer⟩ := correctFrame_of_valid (s := s) (l := l) (slot := slot) first last bowled complete valid
  have found : ((s.corrected l slot frame balls g).bowler l slot).bind (·.game game) = some (g.correct frame balls) :=
    (s.corrected_keeps l slot frame balls g (fun t => (t.bowler l slot).bind (·.game game)) fun _ _ => rfl).trans
      (game_modGame_of_record bowler record fun _ => rfl)
  have lane := lane_corrected s l slot frame balls g
  obtain ⟨score, total, self⟩ := frame_correct_self g balls first last
  refine ⟨_, g.correct frame balls, exec_eq answer, found, rfl, rfl, rfl, ?_, ?_, ?_, ?_,
    fun n first last_n other => frame_correct_other g frame balls first last_n other last,
    fun n first early => frame_correct_before g frame balls first early last,
    fun n first last touched => frame_correct_score g frame balls first last touched,
    (congrArg Lane.queue lane :), (congrArg Lane.account lane :), (congrArg Lane.machine lane :), (congrArg Lane.gate lane :),
    fun k other => lane_corrected_ne s l slot frame balls g other,
    s.corrected_keeps l slot frame balls g State.pairs fun _ _ => rfl,
    fun unfinished => (congrArg Link.reports (link_corrected_of_unfinished s l slot frame balls g unfinished) :),
    fun finished n total => ?_⟩
  · rw [self, Frame.correct]
  · rw [self, Frame.correct]
  · rw [self, Frame.correct]
    rfl
  · rw [self, Frame.correct]
    rfl
  · rw [← number_of_game record]
    exact (congrArg Link.reports (link_corrected_of_finished s l slot frame balls g finished total) :)

end Sys2Proof.Machine
end

section
/-! SUPPORT. The records of a game number over a roster, and CERTIFY_GAME (R79). -/

namespace Sys2Proof.Machine

/-! ### The records of a game number -/

/-- The records that a roster holds of a game number are its bowlers'. -/
theorem mem_games_iff (roster : List Bowler) (n : Nat) (g : Game) :
    g ∈ (recordsOf roster n).map (·.2.2) ↔ ∃ b ∈ roster, b.game n = some g := by
  simp only [List.mem_map, mem_recordsOf, Prod.exists]
  constructor
  · rintro ⟨slot, b, g', ⟨bowler, record⟩, rfl⟩
    exact ⟨b, List.mem_of_getElem? (bowlerAt_pos bowler).2, record⟩
  · rintro ⟨b, hb, record⟩
    obtain ⟨i, hi⟩ := List.mem_iff_getElem?.1 hb
    exact ⟨i + 1, b, g, ⟨hi, record⟩, rfl⟩

theorem any_games_eq_false_iff (roster : List Bowler) (n : Nat) (p : Game → Bool) :
    ((recordsOf roster n).map (·.2.2)).any p = false ↔ ∀ b ∈ roster, ∀ g, b.game n = some g → p g = false := by
  simp only [List.any_eq_false, mem_games_iff, Bool.not_eq_true]
  exact ⟨fun h b hb g record => h g ⟨b, hb, record⟩, fun h g ⟨b, hb, record⟩ => h b hb g record⟩

theorem all_games_iff (roster : List Bowler) (n : Nat) (p : Game → Bool) :
    ((recordsOf roster n).map (·.2.2)).all p = true ↔ ∀ b ∈ roster, ∀ g, b.game n = some g → p g = true := by
  simp only [List.all_eq_true, mem_games_iff]
  exact ⟨fun h b hb g record => h g ⟨b, hb, record⟩, fun h g ⟨b, hb, record⟩ => h b hb g record⟩

/-! ### CERTIFY_GAME -/

/-- CERTIFY_GAME on a game number that the lane's records know, by its checks in order. -/
theorem certifyGame_of_known {s : State} {l : LaneIx} {game : Nat} (first : 1 ≤ game) (last : game ≤ (s.lane l).game)
    (held : ∀ b ∈ (s.lane l).roster, b.gone game = false) (some_ : ∃ b ∈ (s.lane l).roster, (b.game game).isSome = true) :
    let records := (recordsOf (s.lane l).roster game).map (·.2.2)
    let roster := (s.lane l).roster.map (Bowler.modGame game Game.certify)
    certifyGame game l s = if records.any (fun g => g.state = .inProgress) then refuse .notFinished s
      else if records.any Game.checkOpen then refuse .checkOpen s
      else if records.all (fun g => g.state = .certified) then ⟨s, .noChange, certifiedReply l game (s.lane l).roster⟩
      else ⟨s.setLane l { s.lane l with roster := roster }, .ok, certifiedReply l game roster⟩ := by
  intro records roster
  have gone : (s.lane l).roster.any (fun b => b.gone game) = false := List.any_eq_false.2 fun b hb => by simp [held b hb]
  have records_ne : records ≠ [] := by
    obtain ⟨b, hb, isSome⟩ := some_
    obtain ⟨g, record⟩ := Option.isSome_iff_exists.1 isSome
    exact List.ne_nil_of_mem ((mem_games_iff _ _ g).2 ⟨b, hb, record⟩)
  have known : (decide (game = 0) || decide ((s.lane l).game < game) || (s.lane l).roster.any (fun b => b.gone game) || records.isEmpty)
      = false := by
    simp only [gone, List.isEmpty_eq_false_iff.2 records_ne, Bool.or_false, Bool.or_eq_false_iff, decide_eq_false_iff_not]
    omega
  rw [certifyGame]
  exact if_neg (Bool.eq_false_iff.1 known)

theorem certify_of_certified {g : Game} (certified : g.state = .certified) : g.certify = g := if_pos certified
theorem certify_of_open {g : Game} (isOpen : g.state ≠ .certified) :
    g.certify = { g with state := .certified, certifiedFrom := some g.state } := if_neg isOpen

/-- A record certified keeps its frames and its handicap, and the state it left where it was CERTIFIED before. -/
theorem certify_certifies (g : Game) : g.certify.state = .certified ∧ g.certify.frames = g.frames ∧ g.certify.handicap = g.handicap
    ∧ g.certify.certifiedFrom = if g.state = .certified then g.certifiedFrom else some g.state := by
  by_cases certified : g.state = .certified
  · rw [certify_of_certified certified, if_pos certified]
    exact ⟨certified, rfl, rfl, rfl⟩
  · rw [certify_of_open certified, if_neg certified]
    exact ⟨rfl, rfl, rfl, rfl⟩

/-- A bowler whose record of game n is certified. -/
theorem game_certify {b : Bowler} {n : Nat} {g : Game} (record : b.game n = some g) :
    (b.modGame n Game.certify).game n = some g.certify := by
  rw [game_modGame (fun g => (certify_fields g).1), if_pos rfl, record, Option.map_some]

/-- Settles O28: the checks in order over the records of the game number, then each of them certified. -/
theorem certifyGameCertifiesTheTeam : Obligations.CertifyGameCertifiesTheTeam := by
  unfold Obligations.CertifyGameCertifiesTheTeam
  intro s r l game front fits shown first last held some_ all
  have exec_eq {a : Answer} (answer : certifyGame game l s = a) :
      exec (.certifyGame true (laneNumber l) game) s = .next (a.state.answered r a.status a.body) :=
    congrArg Host.Outcome.next (live_of_answer front ((checks_of_shown fits shown _).trans answer))
  have checked := certifyGame_of_known first last held some_
  simp only at checked
  have ended := any_games_eq_false_iff (s.lane l).roster game fun g => g.state = .inProgress
  simp only [decide_eq_false_iff_not] at ended
  have clear := any_games_eq_false_iff (s.lane l).roster game Game.checkOpen
  have certified := all_games_iff (s.lane l).roster game fun g => g.state = .certified
  simp only [decide_eq_true_eq] at certified
  refine ⟨fun playing => ?_, fun none_playing open_ => ?_, fun none_playing none_open left => ?_⟩
  · rw [if_pos (Bool.eq_true_of_not_eq_false (ended.not.2 playing))] at checked
    exact exec_eq checked
  · rw [ended.2 none_playing, if_neg Bool.false_ne_true, if_pos (Bool.eq_true_of_not_eq_false (clear.not.2 open_))] at checked
    exact exec_eq checked
  · rw [ended.2 none_playing, if_neg Bool.false_ne_true, clear.2 none_open, if_neg Bool.false_ne_true,
      if_neg (certified.not.2 left)] at checked
    exact ⟨(s.lane l).roster.map (Bowler.modGame game Game.certify), _, exec_eq checked, List.length_map _,
      fun i b at_i => ⟨b.modGame game Game.certify, by rw [List.getElem?_map, at_i, Option.map_some], rfl, rfl, List.length_map _,
        fun g record => ⟨g.certify, game_certify record, certify_certifies g⟩⟩⟩

end Sys2Proof.Machine
end

section
/-! SUPPORT. The station table through a change of the state: StationsHold says of two states that every sound entry stays
sound, and that every pair but those of E keeps the law of R89. The pairs of E have had a condition of R89 changed and their
DARK test is still to come. -/

namespace Sys2Proof.Machine

theorem State.when_true (f : State → State) (s : State) : s.when true f = f s := rfl
theorem State.when_false (f : State → State) (s : State) : s.when false f = s := rfl

/-! ### What the DARK test reads (R89) -/

/-- The lane's share of the conditions of R89: its session CLOSED and its machine dark. -/
def Lane.dark (x : Lane) : Bool := x.session = .closed && x.machine.state.dark

/-- The law of R89 for one pair. -/
def State.darkHolds (s : State) (q : PairIx) : Prop :=
  (s.station q).state.polled = true → ((s.station q).state = .dark ↔ s.darkNow q = true)

@[simp] theorem station_modReturn (s : State) (p q : PairIx) (f : ReturnRec → ReturnRec) : (s.modReturn p f).station q = s.station q := by
  by_cases e : q = p
  · rw [e, State.station, State.pair_modReturn_self, State.station]
  · rw [State.station, State.pair_modReturn_ne _ _ _ _ e, State.station]

theorem darkNow_congr {s t : State} {q : PairIx} (fitted : (t.station q).fitted = (s.station q).fitted)
    (lanes : ∀ l, pairOf l = q → (t.lane l).dark = (s.lane l).dark)
    (track : (t.ret q).track.isEmpty = (s.ret q).track.isEmpty) : t.darkNow q = s.darkNow q := by
  have members : t.fittedLanes q = s.fittedLanes q := by simp only [State.fittedLanes, fitted]
  show (((t.fittedLanes q).all fun l => (t.lane l).dark) && (t.ret q).track.isEmpty)
    = (((s.fittedLanes q).all fun l => (s.lane l).dark) && (s.ret q).track.isEmpty)
  rw [members, track]
  congr 1
  rw [Bool.eq_iff_iff, List.all_eq_true, List.all_eq_true]
  exact forall₂_congr fun l hl => by rw [lanes l ((mem_fittedLanes s q l).1 hl).1]

theorem darkHolds_congr {s t : State} {q : PairIx} (state : (t.station q).state = (s.station q).state)
    (now : t.darkNow q = s.darkNow q) : s.darkHolds q → t.darkHolds q := by
  rw [State.darkHolds, State.darkHolds, state, now]
  exact id

/-! ### The relation -/

/-- From s to t every sound station table entry stays sound, and every pair outside E keeps the law of R89. -/
structure State.StationsHold (E : Set PairIx) (s t : State) : Prop where
  sound : ∀ q, (s.station q).sound → (t.station q).sound
  dark : ∀ q, q ∉ E → s.darkHolds q → t.darkHolds q

namespace State.StationsHold

variable {E : Set PairIx} {s t u : State}

theorem refl (E : Set PairIx) (s : State) : s.StationsHold E s := ⟨fun _ => id, fun _ _ => id⟩

/-- A state in which no station is polled, its entries sound, holds whatever came before. -/
theorem of_unpolled (sound : ∀ q, (t.station q).sound) (unpolled : ∀ q, (t.station q).state.polled = false) :
    s.StationsHold E t :=
  ⟨fun q _ => sound q, fun q _ _ polled => absurd ((unpolled q).symm.trans polled) nofun⟩

variable (h : s.StationsHold E t)

include h

theorem trans (h' : t.StationsHold E u) : s.StationsHold E u :=
  ⟨fun q hs => h'.sound q (h.sound q hs), fun q e hs => h'.dark q e (h.dark q e hs)⟩

theorem owe (p : PairIx) : s.StationsHold (insert p E) t := ⟨h.sound, fun q e => h.dark q fun m => e (.inr m)⟩

/-- A change that leaves the pairs, and each lane's share of the DARK test, as they are. -/
theorem of_lanes (pairs : ∀ q, u.pair q = t.pair q) (lanes : ∀ k, (u.lane k).dark = (t.lane k).dark) : s.StationsHold E u := by
  have station (q : PairIx) : u.station q = t.station q := congrArg Pair.station (pairs q)
  refine h.trans ⟨fun q => by rw [station]; exact id, fun q _ => darkHolds_congr (by rw [station]) (darkNow_congr (by rw [station])
    (fun l _ => lanes l) ?_)⟩
  rw [State.ret, pairs, State.ret]

/-- A change of one pair, whose station stays sound. Either the law of R89 for it is kept too, or its DARK test is owed. -/
theorem of_pair {p : PairIx} (pairs : ∀ q, q ≠ p → u.pair q = t.pair q) (lanes : ∀ k, pairOf k ≠ p → (u.lane k).dark = (t.lane k).dark)
    (sound : (t.station p).sound → (u.station p).sound) (dark : p ∉ E → t.darkHolds p → u.darkHolds p) : s.StationsHold E u := by
  refine h.trans ⟨fun q => ?_, fun q out => ?_⟩
  · by_cases e : q = p
    · exact e ▸ sound
    · rw [State.station, State.station, pairs q e]
      exact id
  · by_cases e : q = p
    · exact e ▸ dark (e ▸ out)
    · have station : u.station q = t.station q := congrArg Pair.station (pairs q e)
      refine darkHolds_congr (by rw [station]) (darkNow_congr (by rw [station]) (fun l hl => lanes l (hl ▸ e)) ?_)
      rw [State.ret, pairs q e, State.ret]

/-! ### The updates -/

theorem modLane (l : LaneIx) {f : Lane → Lane} (same : (f (t.lane l)).dark = (t.lane l).dark) : s.StationsHold E (t.modLane l f) :=
  h.of_lanes (fun _ => rfl) (field_modLane Lane.dark same)

theorem modMachine (l : LaneIx) {f : MachineRec → MachineRec} (same : (f (t.machine l)).state = (t.machine l).state) :
    s.StationsHold E (t.modMachine l f) :=
  h.modLane l (congrArg (fun st => decide ((t.lane l).session = .closed) && MachineState.dark st) same)

theorem modAccount (l : LaneIx) (f : Account → Account) : s.StationsHold E (t.modAccount l f) := h.modLane l rfl

theorem modGame (home : LaneIx) (slot number : Nat) (f : Game → Game) : s.StationsHold E (t.modGame home slot number f) :=
  h.modLane home rfl

theorem modBowlerOf (l : LaneIx) (slot : Nat) (f : Bowler → Bowler) : s.StationsHold E (t.modBowlerOf l slot f) := h.modLane l rfl

theorem setQueue (l : LaneIx) (q : List Turn) : s.StationsHold E (t.setQueue l q) := h.modLane l (by split <;> rfl)

theorem modPair (p : PairIx) {f : Pair → Pair} (station : (f (t.pair p)).station = (t.pair p).station)
    (track : (f (t.pair p)).ret.track.isEmpty = (t.pair p).ret.track.isEmpty) : s.StationsHold E (t.modPair p f) := by
  have same : (t.modPair p f).station p = t.station p := by rw [State.station, State.pair_modPair_self, station, State.station]
  refine h.of_pair (p := p) (fun q e => State.pair_modPair_ne _ _ _ _ e) (fun _ _ => rfl) (by rw [same]; exact id) fun _ =>
    darkHolds_congr (by rw [same]) (darkNow_congr (by rw [same]) (fun _ _ => rfl) ?_)
  rw [State.ret, State.pair_modPair_self, track, State.ret]

theorem modReturn (p : PairIx) {f : ReturnRec → ReturnRec} (track : (f (t.ret p)).track.isEmpty = (t.ret p).track.isEmpty) :
    s.StationsHold E (t.modReturn p f) := h.modPair p rfl track

/-- A return record changed in any way leaves its pair's DARK test owed. -/
theorem oweReturn (p : PairIx) (f : ReturnRec → ReturnRec) : s.StationsHold (insert p E) (t.modReturn p f) :=
  (h.owe p).of_pair (fun _ e => State.pair_modReturn_ne _ _ _ _ e) (fun _ _ => rfl)
    (by rw [station_modReturn]; exact id) fun out => absurd (.inl rfl) out

/-- A station changed soundly, its state and its fitted lanes kept. -/
theorem modStation (p : PairIx) {f : Station → Station} (sound : (t.station p).sound → (f (t.station p)).sound)
    (state : (f (t.station p)).state = (t.station p).state) (fitted : (f (t.station p)).fitted = (t.station p).fitted) :
    s.StationsHold E (t.modStation p f) := by
  have changed := State.station_modStation_self t p f
  refine h.of_pair (fun _ e => State.pair_modStation_ne _ _ _ _ e) (fun _ _ => rfl) (by rw [changed]; exact sound) fun _ =>
    darkHolds_congr (by rw [changed, state]) (darkNow_congr (by rw [changed, fitted]) (fun _ _ => rfl) ?_)
  rw [State.ret, State.pair_modStation_self, State.ret]

/-- A station changed soundly in any way leaves its DARK test owed. -/
theorem oweStation (p : PairIx) {f : Station → Station} (sound : (t.station p).sound → (f (t.station p)).sound) :
    s.StationsHold (insert p E) (t.modStation p f) :=
  (h.owe p).of_pair (fun _ e => State.pair_modStation_ne _ _ _ _ e) (fun _ _ => rfl)
    (by rw [State.station_modStation_self]; exact sound) fun out => absurd (.inl rfl) out

/-- A station that is polled no longer owes no DARK test. -/
theorem leaveStation (p : PairIx) {f : Station → Station} (sound : (t.station p).sound → (f (t.station p)).sound)
    (unpolled : (f (t.station p)).state.polled = false) : s.StationsHold E (t.modStation p f) := by
  have changed := State.station_modStation_self t p f
  refine h.of_pair (fun _ e => State.pair_modStation_ne _ _ _ _ e) (fun _ _ => rfl) (by rw [changed]; exact sound) fun _ _ polled => ?_
  rw [changed, unpolled] at polled
  exact absurd polled nofun

theorem modLink (f : Link → Link) : s.StationsHold E (t.modLink f) := h.of_lanes (fun _ => rfl) fun _ => rfl
theorem modBus (f : Bus → Bus) : s.StationsHold E (t.modBus f) := h.of_lanes (fun _ => rfl) fun _ => rfl
theorem report (r : Report) : s.StationsHold E (t.report r) := h.modLink _
theorem setDue (d : DueSteps) : s.StationsHold E { t with due := d } := h.of_lanes (fun _ => rfl) fun _ => rfl

theorem when (c : Bool) {f : State → State} (hf : s.StationsHold E (f t)) : s.StationsHold E (t.when c f) :=
  State.when_preserves (s.StationsHold E) c f t h fun _ _ => hf

theorem each {α : Type} (xs : List α) {f : α → State → State} (hf : ∀ x u, s.StationsHold E u → s.StationsHold E (f x u)) :
    s.StationsHold E (t.each xs f) :=
  State.each_preserves (s.StationsHold E) xs f (fun x _ => hf x) t h

/-! ### The DARK test -/

end State.StationsHold

/-- The test moves a polled station between ATTACHED and DARK, and changes nothing of its entry but that (R89). -/
theorem darkTest_cases (t : State) (p : PairIx) : t.darkTest p = t
    ∨ (t.station p).state = .attached ∧ t.darkNow p = true ∧ t.darkTest p = t.setStation p .dark
    ∨ (t.station p).state = .dark ∧ t.darkNow p = false ∧ t.darkTest p = t.setStation p .attached := by
  unfold State.darkTest
  split
  · split
    · exact .inr (.inl ⟨‹_›, ‹_›, rfl⟩)
    · exact .inl rfl
  · split
    · exact .inl rfl
    · exact .inr (.inr ⟨‹_›, Bool.not_eq_true _ ▸ ‹_›, rfl⟩)
  · exact .inl rfl

theorem station_setStation (t : State) (p : PairIx) (st : StationState) :
    (t.setStation p st).station p = { t.station p with state := st } := State.station_modStation_self ..

theorem pair_darkTest_ne (t : State) {p q : PairIx} (h : q ≠ p) : (t.darkTest p).pair q = t.pair q :=
  pair_of_elsewhere (elsewhere_darkTest t p) fun e => h (Option.some.inj e).symm

theorem darkNow_setStation (t : State) (p : PairIx) (st : StationState) : (t.setStation p st).darkNow p = t.darkNow p := by
  refine darkNow_congr (by rw [station_setStation]) (fun _ _ => rfl) ?_
  rw [State.ret, State.setStation, State.pair_modStation_self, State.ret]

/-- Whatever came before, the pair tested meets the law of R89. -/
theorem darkHolds_darkTest (t : State) (p : PairIx) : (t.darkTest p).darkHolds p := by
  have moved (st : StationState) (law : st.polled = true → (st = .dark ↔ t.darkNow p = true)) : (t.setStation p st).darkHolds p := by
    rwa [State.darkHolds, darkNow_setStation, station_setStation]
  unfold State.darkTest
  split
  · rename_i attached
    split
    · exact moved .dark fun _ => iff_of_true rfl ‹_›
    · exact fun _ => iff_of_false (by rw [attached]; decide) ‹_›
  · rename_i dark
    split
    · exact fun _ => iff_of_true dark ‹_›
    · exact moved .attached fun _ => iff_of_false (by decide) ‹_›
  · rename_i attached dark
    intro polled
    cases e : (t.station p).state with
    | attached => exact absurd e attached
    | dark => exact absurd e dark
    | absent | lost | resetting =>
      rw [e] at polled
      exact absurd polled nofun

/-- A station that stays polled keeps its entry sound. -/
theorem Station.sound.setState {x : Station} (h : x.sound) {st : StationState} (polled : st.polled = true) :
    ({ x with state := st } : Station).sound := by
  obtain ⟨missed, lowA, highA, lowB, highB, -⟩ := h
  exact ⟨missed, lowA, highA, lowB, highB, fun e => absurd (polled.symm.trans e) nofun⟩

namespace State.StationsHold

variable {E : Set PairIx} {s t : State}

/-- The DARK test of a pair settles what is owed for it. -/
theorem darkTest {p : PairIx} (h : s.StationsHold (insert p E) t) : s.StationsHold E (t.darkTest p) := by
  have sound : (t.station p).sound → ((t.darkTest p).station p).sound := by
    obtain e | ⟨-, -, e⟩ | ⟨-, -, e⟩ := darkTest_cases t p <;> rw [e]
    · exact id
    · rw [station_setStation]
      exact fun hs => hs.setState rfl
    · rw [station_setStation]
      exact fun hs => hs.setState rfl
  have held : s.StationsHold (insert p E) (t.darkTest p) := 
    h.of_pair (fun _ => pair_darkTest_ne t) (fun k _ => by rw [lane_darkTest]) sound fun out => absurd (.inl rfl) out
  refine ⟨held.sound, fun q out => ?_⟩
  by_cases e : q = p
  · rw [e]
    exact fun _ => darkHolds_darkTest t p
  · exact held.dark q fun m => m.elim e out

variable (h : s.StationsHold E t)

include h

theorem test (p : PairIx) : s.StationsHold E (t.darkTest p) := (h.owe p).darkTest

/-- A lane changed in any way leaves its pair's DARK test owed. -/
theorem oweLane (l : LaneIx) (f : Lane → Lane) : s.StationsHold (insert (pairOf l) E) (t.modLane l f) :=
  (h.owe (pairOf l)).of_pair (fun _ _ => rfl)
    (fun k e => congrArg Lane.dark (State.lane_modLane_ne t l k f fun m => e (congrArg pairOf m))) id fun out => absurd (.inl rfl) out

theorem setSession (l : LaneIx) (st : SessionState) : s.StationsHold E (t.setSession l st) := (h.oweLane l _).darkTest

/-! ### The Pinsetter Supervisor on a lane -/

theorem enterSilent (l : LaneIx) (st : MachineState) : s.StationsHold E (t.enterSilent l st) := by
  simp only [State.enterSilent, State.when]
  split
  · exact (h.oweLane l _).darkTest
  · rename_i quiet
    refine h.modLane l (congrArg (fun b => decide ((t.lane l).session = .closed) && b) ?_)
    show (MachineRec.enter st (t.machine l)).state.dark = (t.machine l).state.dark
    rw [MachineRec.enter_state]
    by_cases e : (t.machine l).state = st
    · rw [e]
    · simp only [e, ne_eq, not_false_eq_true, decide_true, Bool.true_and, Bool.or_eq_true, not_or, Bool.not_eq_true] at quiet
      rw [quiet.1, quiet.2]

theorem enter (l : LaneIx) (st : MachineState) : s.StationsHold E (t.enter l st) :=
  (h.enterSilent l st).when _ ((h.enterSilent l st).report _)

theorem handCommand (l : LaneIx) (c : BusCommand) : s.StationsHold E (t.handCommand l c) := by
  simp only [State.handCommand]
  split
  · rename_i carried
    have polled : (t.station (pairOf l)).state.polled = true := (Bool.and_eq_true_iff.1 carried).1
    refine h.modStation _ ?_ (by cases sideOf l <;> rfl) (by cases sideOf l <;> rfl)
    rintro ⟨missed, lowA, highA, lowB, highB, -⟩
    have next {n : Nat} (high : n ≤ 255) : 1 ≤ nextCommandSeq n ∧ nextCommandSeq n ≤ 255 := by
      unfold nextCommandSeq
      split <;> omega
    cases sideOf l
    · exact ⟨missed, (next highA).1, (next highA).2, lowB, highB, fun e => absurd (polled.symm.trans e) nofun⟩
    · exact ⟨missed, lowA, highA, (next highB).1, (next highB).2, fun e => absurd (polled.symm.trans e) nofun⟩
  · exact h

/-- A station changed in what neither law reads. -/
theorem setPower (l : LaneIx) (o : Power) : s.StationsHold E (t.setPower l o) := by
  unfold State.setPower
  cases sideOf l
  · exact h.modStation _ id rfl rfl
  · exact h.modStation _ id rfl rfl

theorem startTimer (l : LaneIx) (k : TimerKind) (n : Nat) : s.StationsHold E (t.startTimer l k n) := h.modMachine l rfl
theorem forgetDeck (l : LaneIx) : s.StationsHold E (t.forgetDeck l) := h.modMachine l rfl
theorem dropInHand (l : LaneIx) : s.StationsHold E (t.dropInHand l) := h.modMachine l rfl

theorem issueRead (l : LaneIx) (again : Bool) : s.StationsHold E (t.issueRead l again) := (h.modMachine l rfl).handCommand l _

theorem issueCycle (l : LaneIx) (c : Cycle) (turn : Option Turn) (need : Option Need) : s.StationsHold E (t.issueCycle l c turn need) :=
  ((h.modMachine l rfl).handCommand l _).enter l _

theorem holdCycle (l : LaneIx) (c : Cycle) (served : Bool) : s.StationsHold E (t.holdCycle l c served) := (h.modMachine l rfl).enter l _
theorem makeReady (l : LaneIx) : s.StationsHold E (t.makeReady l) := (h.modMachine l rfl).enter l _
theorem makeEmpty (l : LaneIx) : s.StationsHold E (t.makeEmpty l) := (h.modMachine l rfl).enter l _

theorem startCycle (l : LaneIx) (c : Cycle) : s.StationsHold E (t.startCycle l c) := by
  unfold State.startCycle
  split
  · exact h.holdCycle l c _
  · exact h.issueCycle l c _ _

theorem serve (l : LaneIx) (c : Cycle) : s.StationsHold E (t.serve l c) := by
  unfold State.serve
  split
  · exact h.holdCycle l c _
  · exact h.makeReady l

theorem cutPower (l : LaneIx) : s.StationsHold E (t.cutPower l) := (h.modMachine l rfl).setPower l _

theorem powerDown (l : LaneIx) : s.StationsHold E (t.powerDown l) := (((h.cutPower l).forgetDeck l).modMachine l rfl).enter l _

theorem idlePowerOff (l : LaneIx) : s.StationsHold E (t.idlePowerOff l) := by
  unfold State.idlePowerOff
  split
  · exact (h.cutPower l).enter l _
  · exact ((h.cutPower l).forgetDeck l).enter l _

theorem serviceOut (l : LaneIx) : s.StationsHold E (t.serviceOut l) := (((h.cutPower l).forgetDeck l).modMachine l rfl).enter l _

theorem sendPowerOn (l : LaneIx) : s.StationsHold E (t.sendPowerOn l) := (h.setPower l _).modMachine l rfl

theorem wake (l : LaneIx) : s.StationsHold E (t.wake l) := ((h.sendPowerOn l).startTimer l _ _).enter l _

theorem wakeForHead (l : LaneIx) : s.StationsHold E (t.wakeForHead l) := h.when _ (h.wake l)

theorem rest (l : LaneIx) : s.StationsHold E (t.rest l) := by
  simp only [State.rest]
  repeat' split
  · exact h
  · exact h.serviceOut l
  · exact h.powerDown l
  · exact h

theorem follow (l : LaneIx) (d : Derived) : s.StationsHold E (t.follow l d) := by
  unfold State.follow
  cases d with
  | start c => exact (h.startCycle l c).rest l
  | serve c => exact (h.serve l c).rest l
  | deckEmpty => exact (h.makeEmpty l).rest l
  | ready => exact (h.makeReady l).rest l

theorem derive (l : LaneIx) : s.StationsHold E (t.derive l) := h.follow l _

theorem afterBall (l : LaneIx) (need : Need) (orphan onReturn : Bool) : s.StationsHold E (t.afterBall l need orphan onReturn) := by
  simp only [State.afterBall]
  repeat' split
  · exact h.serviceOut l
  · exact ((((h.modMachine l rfl).forgetDeck l).setPower l _).enter l _).wakeForHead l
  · exact (h.startCycle l _).rest l

theorem headTold (l : LaneIx) : s.StationsHold E (t.headTold l) := by
  unfold State.headTold
  split
  · exact h.wakeForHead l
  · exact h.wakeForHead l
  · exact h.derive l
  · exact h.derive l
  · exact (h.modMachine l rfl).derive l
  · exact h

theorem raiseReason (r : Reason) (time : DateTime) (l : LaneIx) : s.StationsHold E (t.raiseReason r time l) := by
  unfold State.raiseReason
  split
  · exact h
  · exact h.modLane l rfl

theorem release (l : LaneIx) : s.StationsHold E (t.release l) := by
  unfold State.release
  repeat' split
  · exact h
  · exact (h.makeReady l).rest l
  · exact h.issueCycle l _ _ _
  · exact h

theorem clearReason (r : Reason) (l : LaneIx) : s.StationsHold E (t.clearReason r l) := by
  unfold State.clearReason
  split
  · exact (h.modLane l rfl).release l
  · exact h

theorem removalOrder (l : LaneIx) : s.StationsHold E (t.removalOrder l) := by
  have out : s.StationsHold E (t.modMachine l fun m => { m with service := .out }) := h.modMachine l rfl
  have later : s.StationsHold E ((t.modMachine l fun m => { m with service := .out }).modMachine l fun m => { m with removal := .health }) :=
    out.modMachine l rfl
  have idle : s.StationsHold E (if t.headIdle l then (t.modMachine l fun m => { m with service := .out }).serviceOut l
      else (t.modMachine l fun m => { m with service := .out }).modMachine l fun m => { m with removal := .health }) := by
    split
    · exact out.serviceOut l
    · exact later
  simp only [State.removalOrder]
  split
  · exact h
  · cases (t.machine l).state with
    | poweredDown | deckEmpty | waiting | ready | standby | waking => exact idle
    | jammed => exact out.serviceOut l
    | linkLost => exact out
    | ballDown | reading | cycling => exact later
    | outOfService => exact h

end State.StationsHold
end Sys2Proof.Machine
end

section
/-! SUPPORT. The station table through the operations of health, of the machines and of the ball return. -/

namespace Sys2Proof.Machine

namespace State.StationsHold

variable {E : Set PairIx} {s t : State} (h : s.StationsHold E t)

include h

/-! ### Health and the machines -/

theorem reports (rs : List Report) : s.StationsHold E (t.each rs State.report) := h.each rs fun r _ hu => hu.report r

theorem testLane (l : LaneIx) (health : LaneHealth) (attrs : List Attribute) : s.StationsHold E (t.testLane l health attrs) :=
  (h.modLane l rfl).reports _

theorem outcome (l : LaneIx) (o : CycleOutcome) : s.StationsHold E (t.outcome l o) := h.testLane l _ _

theorem testPair (p : PairIx) (health : PairHealth) : s.StationsHold E (t.testPair p health) :=
  (h.modPair p rfl rfl).when _ ((h.modPair p rfl rfl).report _)

theorem travel (p : PairIx) (n : Nat) : s.StationsHold E (t.travel p n) := h.testPair p _

theorem removalWhen (c : Bool) (l : LaneIx) : s.StationsHold E (t.when c (State.removalOrder l)) := h.when c (h.removalOrder l)

theorem jam (l : LaneIx) (cause : JamCause) : s.StationsHold E (t.jam l cause) := by
  have told := (((h.modMachine l (f := MachineRec.jam) rfl).enter l .jammed).outcome l
    ⟨(t.machine l).cycleInFlight, false, 0, false⟩).report
    (.machineJam l cause ((t.machine l).inFlight.map (·.op)) (t.machine l).ball.isSome)
  have out := told.when ((t.machine l).removal ≠ .unordered) (told.serviceOut l)
  exact out.removalWhen _ l

theorem machineJam (l : LaneIx) (source : JamSource) : s.StationsHold E (t.machineJam l source) := by
  unfold State.machineJam
  split
  · exact h.jam l _
  · exact h

theorem foul (l : LaneIx) : s.StationsHold E (t.foul l) := by
  unfold State.foul
  split
  · exact h.modMachine l rfl
  · exact h.modMachine l rfl
  · exact h.report _

theorem moveOn (l : LaneIx) (c : Cycle) (turn : Option Turn) (need : Option Need) : s.StationsHold E (t.moveOn l c turn need) := by
  unfold State.moveOn
  repeat' split
  · exact h.derive l
  · exact h.derive l
  · exact (h.makeEmpty l).rest l
  · exact (h.makeReady l).rest l
  · exact h.derive l

theorem cycleDone (l : LaneIx) (set : PinSet) : s.StationsHold E (t.cycleDone l set) := by
  simp only [State.cycleDone]
  split
  · split
    · exact h
    · rename_i c _
      have ended : s.StationsHold E (t.modMachine l fun m => { m with inFlight := none, deck := deckOf set }) := h.modMachine l rfl
      have marked (o : CycleOutcome) := ((ended.when (set ≠ c.commanded) (ended.report (.respotMiss l c.commanded set))).outcome l o).modMachine l
        (f := MachineRec.complete c) (by unfold MachineRec.complete; split <;> rfl)
      refine removalWhen ?_ _ l
      split
      · exact (marked _).serviceOut l
      · exact (marked _).moveOn l _ _ _
  · exact h

theorem loseLane (silent : Bool) (l : LaneIx) : s.StationsHold E (t.loseLane silent l) := by
  simp only [State.loseLane]
  split
  · exact (h.modMachine l (by split <;> rfl)).enterSilent l _
  · exact (h.modMachine l (by split <;> rfl)).enter l _

theorem returnLane (l : LaneIx) (power : Power) : s.StationsHold E (t.returnLane l power) := by
  have dropped := h.dropInHand l
  simp only [State.returnLane]
  generalize t.dropInHand l = u at dropped
  have powered := dropped.when (power = .off) (dropped.sendPowerOn l)
  repeat' split
  · exact ((powered.modMachine l rfl).issueRead l _).enter l _
  · exact ((powered.forgetDeck l).enter l _).when _ (((powered.forgetDeck l).enter l _).serviceOut l)
  · exact dropped.serviceOut l
  · exact (((dropped.modMachine l rfl).forgetDeck l).enter l _).wakeForHead l
  · exact dropped.wake l
  · exact (dropped.forgetDeck l).derive l

/-! ### The ball return -/

theorem raiseBoth (r : Reason) (p : PairIx) : s.StationsHold E (t.raiseBoth r p) := (h.raiseReason r _ _).raiseReason r _ _
theorem clearBoth (r : Reason) (p : PairIx) : s.StationsHold E (t.clearBoth r p) := (h.clearReason r _).clearReason r _
theorem setLift (p : PairIx) (o : LiftOrder) : s.StationsHold E (t.setLift p o) := h.modStation p id rfl rfl

theorem pauseTest (p : PairIx) : s.StationsHold E (t.pauseTest p) := by
  simp only [State.pauseTest]
  repeat' split
  · exact h.setLift p _
  · exact h
  · exact h
  · exact (h.setLift p _).when _ ((h.setLift p _).modReturn p rfl)

theorem trackAppend (l : LaneIx) (kind : BallKind) : s.StationsHold E (t.trackAppend l kind) := by
  simp only [State.trackAppend]
  split
  · exact h.report _
  · cases e : (t.ret (pairOf l)).track.isEmpty
    · have added := h.modReturn (pairOf l) (f := fun x => { x with
        track := x.track ++ [⟨(t.ret (pairOf l)).nextSeq, sideOf l, t.returnClock, kind⟩], nextSeq := x.nextSeq + 1
        oldest := if x.track.isEmpty then 0 else x.oldest }) (by rw [e]; simp)
      exact added.when _ (added.raiseBoth _ _)
    · exact darkTest (when (h.oweReturn _ _) _ (raiseBoth (h.oweReturn _ _) _ _))

theorem rackUp (p : PairIx) : s.StationsHold E (t.rackUp p) := by
  simp only [State.rackUp]
  split
  · exact h.modReturn p rfl
  · exact (h.modReturn p rfl).report _

/-- The last entry taken off a track brings a DARK test, and any other leaves the track as it was to the test. -/
theorem ballAtRack (p : PairIx) : s.StationsHold E (t.ballAtRack p) := by
  unfold State.ballAtRack
  split
  · exact ((h.rackUp p).pauseTest p).report _
  · rename_i e rest track
    have delivered {F : Set PairIx} (removed : s.StationsHold F (t.modReturn p fun x => { x with track := rest })) :
        s.StationsHold F (((((t.modReturn p fun x => { x with track := rest }).rackUp p).travel p (t.elapsed e.entry)).pauseTest p).when
          (rest.length + 1 = Config.backlogLevel) (State.clearBoth .returnBacklog p)) :=
      (((removed.rackUp p).travel p _).pauseTest p).when _ ((((removed.rackUp p).travel p _).pauseTest p).clearBoth _ p)
    dsimp only
    split
    · exact (delivered (h.oweReturn p _)).darkTest
    · rename_i more
      refine (delivered (h.modReturn p ?_)).modReturn p rfl
      rw [track]
      exact Bool.eq_false_of_not_eq_true more

theorem ballTaken (p : PairIx) : s.StationsHold E (t.ballTaken p) := by
  unfold State.ballTaken
  split
  · exact h
  · exact (h.modReturn p rfl).pauseTest p

theorem declareReturnJam (p : PairIx) : s.StationsHold E (t.declareReturnJam p) := ((h.modReturn p rfl).raiseBoth _ p).report _

/-- A track written off is empty: where it was so already, nothing is owed. -/
theorem writeOff (p : PairIx) (empty : (t.ret p).track.isEmpty = true) : s.StationsHold E (t.writeOff p) :=
  (h.modReturn p (f := fun x => { x with track := [] }) empty.symm).clearBoth _ p

theorem oweWriteOff (p : PairIx) : s.StationsHold (insert p E) (t.writeOff p) := (h.oweReturn p _).clearBoth _ p

theorem losePair (p : PairIx) : s.StationsHold E (t.losePair p) := h.modReturn p rfl

theorem seedReturn (p : PairIx) (rack : Nat) : s.StationsHold E (t.seedReturn p rack) := by
  have told := h.when (!(t.ret p).track.isEmpty) (h.report (.unaccounted p (t.writtenOff p)))
  have track : ((t.when (!(t.ret p).track.isEmpty) (State.report (.unaccounted p (t.writtenOff p)))).ret p) = t.ret p :=
    State.when_keeps (fun x : State => x.ret p) _ _ _ rfl
  have seeded {F : Set PairIx} {u : State} (off : s.StationsHold F u) : s.StationsHold F
      (((u.when (t.ret p).jamStanding (State.clearBoth .returnJam p)).modReturn p fun x =>
        { x with jamStanding := false, rack := min x.rackMax rack, outOfReach := false, oldest := 0 }).pauseTest p) :=
    ((off.when _ (off.clearBoth _ p)).modReturn p rfl).pauseTest p
  simp only [State.seedReturn]
  generalize State.when _ _ t = u at told track
  cases e : (t.ret p).track.isEmpty
  · rw [Bool.not_false, State.when_true]
    exact (seeded (told.oweWriteOff p)).darkTest
  · rw [Bool.not_true, State.when_false]
    exact seeded (told.writeOff p (by rw [track, e]))

theorem clearJamOfReturn (p : PairIx) (rack : Nat) : s.StationsHold E (t.clearJamOfReturn p rack) := by
  have cleared {F : Set PairIx} {u : State} (off : s.StationsHold F u) : s.StationsHold F
      (((u.modReturn p fun x => { x with rack := rack, jamStanding := false, oldest := 0 }).clearBoth .returnJam p).pauseTest p) :=
    ((off.modReturn p rfl).clearBoth _ p).pauseTest p
  simp only [State.clearJamOfReturn]
  cases e : (t.ret p).track.isEmpty
  · rw [Bool.not_false, State.when_true]
    exact (cleared (h.oweWriteOff p)).darkTest
  · rw [Bool.not_true, State.when_false]
    exact cleared (h.writeOff p e)

end State.StationsHold
end Sys2Proof.Machine
end

section
/-! SUPPORT. The station table through the operations of the meters, of the turns and of a ball. -/

namespace Sys2Proof.Machine

namespace State.StationsHold

variable {E : Set PairIx} {s t : State} (h : s.StationsHold E t)

include h

/-! ### The Billing Meter -/

theorem setMeter (m : Meter) : s.StationsHold E { t with meter := m } := h.of_lanes (fun _ => rfl) fun _ => rfl

theorem charge (l : LaneIx) (n : Nat) : s.StationsHold E (t.charge l n) := by
  unfold State.charge
  repeat' split
  · exact h
  · exact h.modAccount l _
  · exact (h.modAccount l _).when _ ((h.modAccount l _).report _)

theorem chargeMinute (l : LaneIx) (rate : Nat) : s.StationsHold E (t.chargeMinute l rate) := by
  unfold State.chargeMinute
  split
  · exact h
  · exact (h.modAccount l _).charge l _

theorem evaluateBilling (l : LaneIx) : s.StationsHold E (t.evaluateBilling l) := by
  unfold State.evaluateBilling
  repeat' split
  · exact h.clearReason _ l
  · exact h.raiseReason _ _ l
  · exact h.clearReason _ l

theorem evaluateAccount (home : LaneIx) : s.StationsHold E (t.evaluateAccount home) :=
  h.each _ fun l _ hu => hu.when _ (hu.evaluateBilling l)

theorem allowanceOut (l : LaneIx) (a : Account) : s.StationsHold E (t.allowanceOut l a) := (h.modAccount l _).report _

/-- The table pending is installed where there is one, and the band then in force is noted (R155). -/
theorem minutePart : s.StationsHold E t.minutePart := by
  have noted {u : State} (hu : s.StationsHold E u) : s.StationsHold E (match u.bandInForce with
      | none => u
      | some note => if u.meter.bandNoted = some note then u
        else ({ u with meter := { u.meter with bandNoted := some note } } : State).report (.bandChange note)) := by
    repeat' split
    · exact hu
    · exact hu
    · exact (hu.setMeter _).report _
  unfold State.minutePart
  cases t.meter.pendingTable with
  | none => exact noted h
  | some table => exact noted (h.setMeter _)

theorem perTimeMinute (l : LaneIx) : s.StationsHold E (t.perTimeMinute l) := (h.modAccount l _).chargeMinute l _

theorem prepaidTimeMinute (l : LaneIx) : s.StationsHold E (t.prepaidTimeMinute l) := by
  simp only [State.prepaidTimeMinute]
  split
  · exact h
  · have charged (c : Bool) := (h.modAccount l fun a => { a with used := min Config.countMax (a.used + 1) }).when c
      ((h.modAccount l _).chargeMinute l t.hourRate)
    have warned (c c' : Bool) (r : Report) := (charged c).when c'
      (f := fun u => (u.modAccount l fun a => { a with warned := true }).report r) (((charged c).modAccount l _).report r)
    exact (warned _ _ _).when _ (((warned _ _ _).allowanceOut l _).evaluateAccount l)

theorem firstBall (home : LaneIx) (slot game : Nat) : s.StationsHold E (t.firstBall home slot game) := by
  have bowled := h.modAccount home (Account.modEntry slot fun e => { e with bowled := true })
  have started := bowled.modAccount home (Account.modEntry slot fun e => { e with lastCounted := game })
  have counted := started.modAccount home fun a => { a with used := min Config.countMax (a.used + 1) }
  simp only [State.firstBall]
  repeat' split
  · exact h
  · exact h
  · exact bowled
  · exact (counted.charge home _).modAccount home _
  · exact (counted.when _ (counted.allowanceOut home _)).evaluateAccount home
  all_goals exact started

theorem finalise (l : LaneIx) : s.StationsHold E (t.finalise l) := by
  simp only [State.finalise]
  split
  · exact h
  · have minute (c : Bool) := h.when c (h.chargeMinute l t.hourRate)
    have fees {u : State} (hu : s.StationsHold E u) (due : List Nat) := (hu.each due fun n _ hv => hv.charge l n).modAccount l
    exact modAccount (when (when (minute _) _ (fees (minute _) _ _)) _ (charge (when (minute _) _ (fees (minute _) _ _)) l _)) l _

/-! ### The Turn Scheduler -/

theorem reportHead (l : LaneIx) : s.StationsHold E (t.reportHead l) := by
  unfold State.reportHead
  split
  · exact h
  · exact h.report _

theorem tellMeter (l : LaneIx) : s.StationsHold E (t.tellMeter l) := (h.modLane l rfl).evaluateBilling l
theorem handHead (l : LaneIx) : s.StationsHold E (t.handHead l) := (h.tellMeter l).headTold l
theorem headChanged (l : LaneIx) : s.StationsHold E (t.headChanged l) := (h.reportHead l).handHead l

theorem handOffs (before : State) (ls : List LaneIx) : s.StationsHold E (t.handOffs before ls) := h.each _ fun l _ hu => hu.headChanged l

theorem beginGame (l start : LaneIx) : s.StationsHold E (t.beginGame l start) := (h.modLane l rfl).setQueue start _

theorem endSeries (l : LaneIx) : s.StationsHold E (t.endSeries l) := (h.modLane l rfl).setSession l _

theorem changeMode (p : PairIx) (m : PairMode) (c : ModeCause) : s.StationsHold E (t.changeMode p m c) := (h.modPair p rfl rfl).report _

theorem dropPending (p : PairIx) : s.StationsHold E (t.dropPending p) := h.modPair p rfl rfl

omit h in
/-- The stations hold through a boundary. -/
theorem keptAtBoundary (E : Set PairIx) (s : State) : State.KeptAtBoundary (s.StationsHold E) where
  begins _ l start _ h := h.beginGame l start
  ends _ l _ h := h.endSeries l
  changes _ p m c h := h.changeMode p m c
  drops _ p h := h.dropPending p
  hands _ before ls h := h.handOffs before ls

theorem takeBoundary (l : LaneIx) : s.StationsHold E (t.takeBoundary l) := (keptAtBoundary E s).takeBoundary h l

theorem retakePair (p : PairIx) : s.StationsHold E (t.retakePair p) := (h.takeBoundary _).takeBoundary _

theorem clearHold : s.StationsHold E t.clearHold :=
  each (h.of_lanes (u := { t with hold := false }) (fun _ => rfl) fun _ => rfl) _ fun p _ hu => hu.retakePair p

theorem testBoundary (l : LaneIx) : s.StationsHold E (t.testBoundary l) :=
  (keptAtBoundary E s).testBoundary h fun _ _ => (h.modLane l rfl).report _

theorem frameOver (l : LaneIx) : s.StationsHold E (t.frameOver l) := by
  simp only [State.frameOver]
  repeat' split
  · exact h
  · exact ((h.setQueue l _).setQueue _ _).handOffs _ _
  · exact ((h.setQueue l _).setQueue _ _).handOffs _ _
  · exact ((h.setQueue l _).handOffs _ _).testBoundary _

theorem removeTurn (home : LaneIx) (slot : Nat) : s.StationsHold E (t.removeTurn home slot) :=
  ((h.setQueue home _).setQueue _ _).handOffs _ _

theorem bringHome (l : LaneIx) : s.StationsHold E (t.bringHome l) := by
  simp only [State.bringHome]
  split
  · exact h
  · exact ((h.setQueue _ _).setQueue l _).modLane l rfl

theorem changeModeNow (p : PairIx) (m : PairMode) : s.StationsHold E (t.changeModeNow p m) := by
  have changed := h.changeMode p m .request
  cases m with
  | alternate => exact (changed.handOffs _ _).retakePair p
  | separate => exact (((changed.bringHome _).bringHome _).handOffs _ _).retakePair p

theorem closeTurns (c : LaneIx) : s.StationsHold E (t.closeTurns c) := by
  have dropped : s.StationsHold E (t.modLane c fun x => { x with boundary := .unmarked }) := h.modLane c rfl
  simp only [State.closeTurns]
  refine takeBoundary (handOffs ?_ _ _) _
  split
  · exact ((dropped.setQueue c _).setQueue _ _).dropPending _
  · exact (((dropped.setQueue _ _).setQueue c _).modLane _ rfl).changeMode _ _ _

/-! ### A ball through the part -/

theorem reportCheck (b : BallIn) (r : BallResult) (causes : CheckCauses) : s.StationsHold E (t.reportCheck b r causes) :=
  h.when _ (h.report _)

theorem finishGame (turn : Turn) (g : Game) : s.StationsHold E (t.finishGame turn g) := (h.modGame _ _ _ _).report _

theorem recordBall (b : BallIn) (before : Game) : s.StationsHold E (t.recordBall b before) := by
  have recorded := h.modGame b.turn.home b.turn.slot b.turn.game (Game.addBall b)
  have noticed (c : Bool) := recorded.when c (recorded.firstBall b.turn.home b.turn.slot b.turn.game)
  have reported (c : Bool) (r : Report) (result : BallResult) (causes : CheckCauses) := ((noticed c).report r).reportCheck b result causes
  have finished (c c' : Bool) (r : Report) (result : BallResult) (causes : CheckCauses) (after : Game) :=
    (reported c r result causes).when c' ((reported c r result causes).finishGame b.turn after)
  exact (finished _ _ _ _ _ _).when _ ((finished _ _ _ _ _ _).frameOver _)

theorem finishBall (l : LaneIx) (image : PinSet) : s.StationsHold E (t.finishBall l image) := by
  have closed : s.StationsHold E (t.closeBall l) := h.modMachine l rfl
  simp only [State.finishBall]
  repeat' split
  · exact h
  · exact (closed.report _).afterBall l _ _ _
  · exact closed.afterBall l _ _ _
  · exact (closed.recordBall _ _).afterBall l _ _ _

theorem deckImage (l : LaneIx) (image : Vector PinState 10) : s.StationsHold E (t.deckImage l image) := by
  simp only [State.deckImage]
  repeat' split
  · exact h
  · exact (h.modMachine l rfl).startTimer l _ _
  · exact ((h.modMachine l rfl).modMachine l rfl).finishBall l _
  · exact h

theorem ballAtDeck (l : LaneIx) : s.StationsHold E (t.ballAtDeck l) := by
  simp only [State.ballAtDeck]
  split
  · exact (((h.modMachine l rfl).startTimer l _ _).enter l _).trackAppend l _
  · exact (h.trackAppend l _).report _
  · exact (h.trackAppend l _).report _

/-- Time passing counts the holds of the stations down and changes nothing else of them. -/
theorem advance (n : Nat) : s.StationsHold E (t.advance n) := by
  refine h.trans ⟨fun q => ?_, fun q _ => ?_⟩
  all_goals obtain ⟨left, e⟩ := t.advance_pair n q
  all_goals have station : (t.advance n).station q = { t.station q with holdRemaining := left } := congrArg Pair.station e
  · rw [station]
    exact id
  · refine darkHolds_congr (by rw [station]) (darkNow_congr (by rw [station]) (fun _ _ => rfl) ?_)
    rw [State.ret, e, State.ret]

theorem runOut (start : Reading) (length : Nat) : s.StationsHold E (t.runOut start length) := h.advance _

theorem nextRead (l : LaneIx) : s.StationsHold E (t.nextRead l) := (h.modMachine l rfl).issueRead l _

theorem settleOut (l : LaneIx) : s.StationsHold E (t.settleOut l) := by
  unfold State.settleOut
  split
  · exact ((h.runOut _ _).nextRead l).enter l _
  · exact h

theorem rereadOut (l : LaneIx) : s.StationsHold E (t.rereadOut l) := by
  unfold State.rereadOut
  split
  · exact (h.runOut _ _).nextRead l
  · exact h

theorem readOut (l : LaneIx) : s.StationsHold E (t.readOut l) := by
  unfold State.readOut
  repeat' split
  · exact (h.runOut _ _).jam l _
  · exact (h.runOut _ _).issueRead l _
  · exact h

theorem cycleOut (l : LaneIx) : s.StationsHold E (t.cycleOut l) := by
  unfold State.cycleOut
  split
  · exact (h.runOut _ _).jam l _
  · exact h

theorem warmUpOut (l : LaneIx) : s.StationsHold E (t.warmUpOut l) := by
  unfold State.warmUpOut
  split
  · exact ((h.runOut _ _).modMachine l rfl).derive l
  · exact h

end State.StationsHold
end Sys2Proof.Machine
end

section
/-! SUPPORT. The station table through the operations of the bus, of the seconds and of the link. -/

namespace Sys2Proof.Machine

/-! ### The entry of a station -/

theorem Station.sound.detach {x : Station} (h : x.sound) {st : StationState} : (x.detach st).sound := by
  obtain ⟨-, lowA, highA, lowB, highB, -⟩ := h
  exact ⟨Nat.zero_lt_succ 2, lowA, highA, lowB, highB, fun _ => ⟨rfl, rfl, rfl, rfl⟩⟩

/-- A station with nothing held, its sequences begun again, has a sound entry. -/
theorem Station.sound_of_fresh {x : Station} (seqA : x.nextSeqA = 1) (seqB : x.nextSeqB = 1)
    (held : x.commandA = none ∧ x.commandB = none ∧ x.lastEvent = none ∧ x.missed = 0) : x.sound := by
  rw [Station.sound, seqA, seqB, held.2.2.2]
  exact ⟨by decide, by decide, by decide, by decide, by decide, fun _ => ⟨held.1, held.2.1, held.2.2.1, rfl⟩⟩

theorem Station.sound_attach (a : HelloAnswer) (pass : Bool) (x : Station) : (x.attach a pass).sound :=
  sound_of_fresh rfl rfl ⟨rfl, rfl, rfl, rfl⟩

theorem Station.sound_rediscover (owed : Bool) (x : Station) : (x.rediscover owed).sound :=
  sound_of_fresh rfl rfl ⟨rfl, rfl, rfl, rfl⟩

/-- A polled station's entry may hold any commands and last event, and any count of missed polls below the limit. -/
theorem Station.sound.of_polled {x y : Station} (h : x.sound) (polled : y.state.polled = true) (missed : y.missed < 3)
    (seqA : y.nextSeqA = x.nextSeqA) (seqB : y.nextSeqB = x.nextSeqB) : y.sound := by
  obtain ⟨-, lowA, highA, lowB, highB, -⟩ := h
  exact ⟨missed, seqA ▸ lowA, seqA ▸ highA, seqB ▸ lowB, seqB ▸ highB, fun e => absurd (polled.symm.trans e) nofun⟩

namespace State.StationsHold

variable {E : Set PairIx} {s t : State} (h : s.StationsHold E t)

theorem ite {u v : State} (c : Prop) [Decidable c] (hu : s.StationsHold E u) (hv : s.StationsHold E v) :
    s.StationsHold E (if c then u else v) := by
  split
  · exact hu
  · exact hv

include h

/-! ### The Station Bus Master -/

theorem openExchange (p : PairIx) (k : ExchangeKind) (f : BusFrame) : s.StationsHold E (t.openExchange p k f) := h.modBus _
theorem schedule (ds : List DueExchange) : s.StationsHold E (t.schedule ds) := h.modBus _
theorem closeExchange : s.StationsHold E t.closeExchange := h.modBus _

theorem sendPoll : s.StationsHold E t.sendPoll := by
  simp only [State.sendPoll]
  repeat' split
  · exact h
  · exact (h.modBus _).openExchange _ _ _
  · exact h.modBus _
  · exact h
  · exact h
  · exact (h.openExchange _ _ _).modBus _
  · exact h

theorem sendProbe : s.StationsHold E t.sendProbe := by
  unfold State.sendProbe
  repeat' split
  · exact h
  · exact (h.modBus _).openExchange _ _ _
  · exact h

theorem sendReset : s.StationsHold E t.sendReset := by
  unfold State.sendReset
  repeat' split
  · exact h
  · exact h.modBus _
  · exact h

theorem handLoss (silent : Bool) (p : PairIx) : s.StationsHold E (t.handLoss silent p) :=
  (h.each _ fun l _ hu => hu.loseLane silent l).losePair p

theorem detach (p : PairIx) {st : StationState} (unpolled : st.polled = false) : s.StationsHold E (t.modStation p (Station.detach st)) :=
  h.leaveStation p (fun hs => hs.detach) unpolled

theorem missAnswer (p : PairIx) (polled : (t.station p).state.polled = true) : s.StationsHold E (t.missAnswer p) := by
  unfold State.missAnswer
  split
  · exact ((h.detach p rfl).handLoss false p).report _
  · rename_i below
    exact h.modStation p (fun hs => hs.of_polled polled (Nat.lt_of_not_le below) rfl rfl) rfl rfl

theorem probeAgain (p : PairIx) : s.StationsHold E (t.probeAgain p) := h.when _ (h.schedule _)

theorem missed (e : Exchange) : s.StationsHold E (t.missed e) := by
  unfold State.missed
  dsimp only
  repeat' split
  · exact h.missAnswer _ ‹_›
  · exact h
  · exact h
  · exact h
  · exact (h.missAnswer _ (Bool.and_eq_true_iff.1 ‹_›).1).probeAgain _
  · exact h
  · exact (h.detach _ rfl).report _
  · exact h

theorem resetOrders (ls : List LaneIx) : s.StationsHold E (t.resetOrders ls) := h.each _ fun l _ hu => hu.removalOrder l

theorem lateOrders (p : PairIx) : s.StationsHold E (t.lateOrders p) :=
  h.when _ ((h.resetOrders _).modStation p id rfl rfl)

/-- A station attached has a sound entry whatever it was before, and its DARK test comes at once (R86). -/
theorem attached (p : PairIx) (a : HelloAnswer) (pass : Bool) :
    s.StationsHold E ((t.modStation p (Station.attach a pass)).darkTest p) :=
  (h.oweStation p fun _ => Station.sound_attach a pass _).darkTest

theorem attachInPass (p : PairIx) (a : HelloAnswer) : s.StationsHold E (t.attachInPass p a) := (h.attached p a true).seedReturn p _

theorem attach (p : PairIx) (a : HelloAnswer) (withLoss : Bool) (cause : BackCause) : s.StationsHold E (t.attach p a withLoss cause) := by
  have seeded := ((h.attached p a false).when withLoss ((h.attached p a false).handLoss true p)).seedReturn p a.rackCount.toNat
  exact ((seeded.each _ fun l _ hu => hu.returnLane l _).lateOrders p).report _

theorem hello (e : Exchange) (a : HelloAnswer) : s.StationsHold E (t.hello e a) := by
  unfold State.hello
  dsimp only
  repeat' split
  · exact h.attach _ a _ _
  · exact h
  · exact h.attachInPass _ a
  · exact h
  · exact h.attach _ a _ _
  · exact h.attach _ a _ _
  · exact h
  · exact h
  · exact h
  · exact h.attach _ a _ _
  · exact h
  · exact h.attach _ a _ _
  · exact h

theorem endPass : s.StationsHold E t.endPass := (h.modBus _).each _ fun p _ hu => hu.lateOrders p
theorem passOver (e : Exchange) : s.StationsHold E (t.passOver e) := h.when _ h.endPass

theorem handEvent (p : PairIx) (e : BusEvent) : s.StationsHold E (t.handEvent p e) := by
  cases e with
  | ballAtDeck side => exact h.ballAtDeck _
  | foul side => exact h.foul _
  | deckImage side seq pins => exact ite _ h (h.deckImage _ _)
  | cycleDone side seq pins => exact ite _ h (h.cycleDone _ _)
  | machineJam side cause => exact h.machineJam _ _
  | ballAtRack => exact h.ballAtRack p
  | ballTaken => exact h.ballTaken p

theorem takeEvent (p : PairIx) (e : StationEvent) (polled : (t.station p).state.polled = true) : s.StationsHold E (t.takeEvent p e) := by
  have taken : (t.station p).sound → ({ t.station p with lastEvent := some e.seq } : Station).sound :=
    fun hs => hs.of_polled polled hs.1 rfl rfl
  obtain e' | e' | e' := takeEvent_cases t p e <;> rw [e']
  · exact h
  · exact (h.modStation p taken rfl rfl).handEvent p _
  · exact h.modStation p taken rfl rfl

theorem eventsLost (p : PairIx) : s.StationsHold E (t.eventsLost p) := by
  unfold State.eventsLost
  split
  · exact h
  · exact ((h.modStation p id rfl rfl).modBus _).probeAgain p

theorem statusTaken (p : PairIx) (a : StatusAnswer) (polled : (t.station p).state.polled = true) :
    s.StationsHold E (t.statusTaken p a) := by
  have marked : s.StationsHold E (t.modStation p (Station.answered a)) :=
    h.modStation p (fun hs => hs.of_polled polled (by decide : 0 < 3) rfl rfl) rfl rfl
  unfold State.statusTaken
  dsimp only
  repeat' split
  · exact marked.eventsLost p
  · exact marked
  · exact marked.takeEvent p _ (by rw [State.station_modStation_self]; exact polled)

theorem windowOut : s.StationsHold E t.windowOut := by
  unfold State.windowOut
  split
  · exact h
  · exact (h.closeExchange.missed _).passOver _

theorem helloIn (a : HelloAnswer) : s.StationsHold E (t.helloIn a) := by
  unfold State.helloIn
  repeat' split
  · exact h
  · exact (h.closeExchange.hello _ a).passOver _
  · exact h

theorem statusIn (a : StatusAnswer) : s.StationsHold E (t.statusIn a) := by
  unfold State.statusIn
  repeat' split
  · exact h
  · exact h.closeExchange.statusTaken _ a ‹_›
  · exact h.closeExchange
  · exact h

theorem paceOut : s.StationsHold E t.paceOut := by
  unfold State.paceOut
  split
  · exact h
  · exact ((h.advance _).modBus _).schedule _

theorem holdOut (p : PairIx) : s.StationsHold E (t.holdOut p) := by
  unfold State.holdOut
  dsimp only
  split
  · exact ((h.advance _).modStation p id rfl rfl).schedule _
  · exact h

theorem resetStation (p : PairIx) (hold : Nat) : s.StationsHold E (t.resetStation p hold) := by
  have set : s.StationsHold E ((t.modBus fun b => { b with due := b.due.filter (fun d => !d.cancelled p) ++ [⟨p, .resetPoll hold⟩] }).modStation
      p fun x => { x.detach .resetting with holdRemaining := hold, holding := true }) :=
    (h.modBus _).leaveStation p (fun hs => hs.detach) rfl
  exact set.when _ (set.handLoss false p)

/-! ### The seconds -/

theorem dueMinute : s.StationsHold E t.dueMinute := ite _ (h.setDue _).minutePart h
theorem duePlay (l : LaneIx) : s.StationsHold E (t.duePlay l) := ite _ ((h.setDue _).perTimeMinute l) h
theorem duePrepaid (l : LaneIx) : s.StationsHold E (t.duePrepaid l) := ite _ ((h.setDue _).prepaidTimeMinute l) h

theorem loseDesk : s.StationsHold E t.loseDesk := (h.report (.deskLost t.clock t.link.timeout)).of_lanes (fun _ => rfl) fun _ => rfl

theorem dueSilence : s.StationsHold E t.dueSilence := ite _ (h.setDue _).loseDesk h

theorem testOnTime (l : LaneIx) : s.StationsHold E (t.testOnTime l) := ite _ (h.powerDown l) (ite _ (h.idlePowerOff l) h)
theorem testIdle (l : LaneIx) : s.StationsHold E (t.testIdle l) := ite _ (h.idlePowerOff l) h

theorem dueOnTime (l : LaneIx) : s.StationsHold E (t.dueOnTime l) := ite _ ((h.setDue _).testOnTime l) h
theorem dueIdle (l : LaneIx) : s.StationsHold E (t.dueIdle l) := ite _ ((h.setDue _).testIdle l) h
theorem dueOldest (p : PairIx) : s.StationsHold E (t.dueOldest p) := ite _ ((h.setDue _).declareReturnJam p) h

theorem drain : s.StationsHold E t.drain := by
  unfold State.drain
  split
  · exact h
  · have metered := (h.dueMinute.each allLanes fun l _ hu => hu.duePlay l).each allLanes fun l _ hu => hu.duePrepaid l
    have machines := (metered.dueSilence.each allLanes fun l _ hu => hu.dueOnTime l).each allLanes fun l _ hu => hu.dueIdle l
    exact machines.each _ fun p _ hu => hu.dueOldest p

end State.StationsHold
end Sys2Proof.Machine
end

section
/-! SUPPORT. The station table through the seconds counted, the link, the sessions' ends and the requests. -/

namespace Sys2Proof.Machine

namespace State.StationsHold

variable {E : Set PairIx} {s t : State} (h : s.StationsHold E t)

include h

/-! ### The second event -/

/-- A second counts in the accounts, in the machines' on-time and idle counts and in the oldest-entry counts. -/
theorem countSecond : s.StationsHold E t.countSecond := by
  have lanes (k : LaneIx) : (t.countSecond.lane k).dark = (t.lane k).dark := by
    simp only [State.countSecond, State.lane, Fin.getElem_fin, mapLanes_get, Lane.countMachine, Lane.countSecond]
    split <;> rfl
  have pairs (q : PairIx) : t.countSecond.pair q = t.countOldest q (t.pair q) := mapPairs_get _ _ q
  have station (q : PairIx) : t.countSecond.station q = t.station q := by
    rw [State.station, pairs, State.countOldest]
    split <;> rfl
  have track (q : PairIx) : (t.countSecond.ret q).track = (t.ret q).track := by
    rw [State.ret, pairs, State.countOldest]
    split <;> rfl
  exact h.trans ⟨fun q => by rw [station]; exact id, fun q _ => darkHolds_congr (by rw [station])
    (darkNow_congr (by rw [station]) (fun l _ => lanes l) (by rw [track]))⟩

theorem toSecond : s.StationsHold E t.toSecond := (h.advance _).of_lanes (fun _ => rfl) fun _ => rfl

theorem second : s.StationsHold E t.second := h.toSecond.countSecond.setDue _

theorem idleTenth : s.StationsHold E t.idleTenth := ite _ (h.advance 1) (h.drain.advance 1)

/-! ### The link -/

theorem endSilence : s.StationsHold E t.endSilence := by
  simp only [State.endSilence]
  split
  · exact h.modLink _
  · exact (((h.modLink _).modLink _).report _).clearHold

theorem receive (kind tag : Byte) (body : List Byte) (check : Byte) : s.StationsHold E (t.receive kind tag body check) := by
  unfold State.receive
  split
  · exact h
  · exact h
  · exact (ite _ (h.modLink _) (ite _ (h.modLink _) (h.endSilence.modLink _))).modLink _

theorem badByte (place : FaultPlace) : s.StationsHold E (t.badByte place) := by
  unfold State.badByte
  split
  · exact h
  · exact h.modLink _
  · exact h.modLink _

theorem badLength : s.StationsHold E t.badLength := by
  unfold State.badLength
  split
  · exact h
  · exact h
  · exact h.modLink _

theorem gap (tag : Option Byte) : s.StationsHold E (t.gap tag) := by
  unfold State.gap
  split
  · exact h
  · exact h.modLink _
  · exact h.modLink _

theorem huntByte (b : Byte) : s.StationsHold E (t.huntByte b) := by
  unfold State.huntByte
  split
  · exact ite _ (h.modLink _) h
  · exact h
  · exact h.modLink _

theorem refuseUnknown : s.StationsHold E t.refuseUnknown := by
  unfold State.refuseUnknown
  split
  · exact h
  · exact ite _ h (h.modLink _)

/-! ### Sessions -/

theorem modLaneAll (l : LaneIx) {f : Lane → Lane} (same : ∀ x, (f x).dark = x.dark) : s.StationsHold E (t.modLane l f) :=
  h.modLane l (same _)

theorem orphan (l : LaneIx) : s.StationsHold E (t.orphan l) := h.modMachine l rfl
theorem orphanBalls (c : LaneIx) : s.StationsHold E (t.orphanBalls c) := (h.orphan c).when _ ((h.orphan c).orphan _)

theorem closeLane (l : LaneIx) : s.StationsHold E (t.closeLane l) := by
  simp only [State.closeLane]
  refine setSession (modLaneAll (raiseReason (clearReason (finalise (modLaneAll (closeTurns (orphanBalls h l) l) l ?_) l) _ l) _ _ l) l ?_) l _
  · exact fun _ => rfl
  · exact fun _ => rfl

theorem closeStandby (l : LaneIx) : s.StationsHold E (t.closeStandby l) := h.when _ ((h.forgetDeck l).enter l _)
theorem closeSession (l : LaneIx) : s.StationsHold E (t.closeSession l) := (h.closeLane l).closeStandby l
theorem endSession (l : LaneIx) : s.StationsHold E (t.endSession l) := (h.closeLane l).report _

theorem openLane (l : LaneIx) (c : SessionSettings) (mode : BillingMode) (roster : List SlotView) :
    s.StationsHold E (t.openLane l c mode roster) := by
  simp only [State.openLane]
  refine handHead (modLaneAll (reportHead (setQueue (modLaneAll (clearReason (setSession (modLaneAll h l ?_) l _) _ l) l ?_) l _) l) l ?_) l
  · exact fun _ => rfl
  · exact fun _ => rfl
  · exact fun _ => rfl

theorem addBowler (l : LaneIx) (v : SlotView) : s.StationsHold E (t.addBowler l v) := by
  simp only [State.addBowler]
  have added (b : Bowler) (e : BowlerEntry) : s.StationsHold E ((t.modLane l fun x => { x with roster := x.roster ++ [b] }).modAccount l
      fun a => { a with entries := a.entries ++ [e] }) := (h.modLane l rfl).modAccount l _
  simp only [State.when]
  exact ite _ (((added _ _).setQueue _ _).handOffs _ _) (added _ _)

theorem withdrawBowler (l : LaneIx) (slot : Nat) (playing : Bool) : s.StationsHold E (t.withdrawBowler l slot playing) :=
  ite _ ((((h.removeTurn l slot).modGame l slot _ _).modBowlerOf l slot _).testBoundary l) (h.modBowlerOf l slot _)

theorem blindBowler (l : LaneIx) (slot applied : Nat) : s.StationsHold E (t.blindBowler l slot applied) :=
  (((h.removeTurn l slot).modGame l slot _ _).modBowlerOf l slot _).testBoundary l

theorem cancelPending (p : PairIx) : s.StationsHold E (t.cancelPending p) := ite _ ((h.dropPending p).retakePair p) h

/-! ### Resets: every station ABSENT (R85, R99) -/

omit h in
theorem of_initial {health : PairIx → PairHealth} {owed : Bool} (pairs : ∀ q, t.pair q = Pair.initial (health q) owed) :
    s.StationsHold E t :=
  have station (q : PairIx) : t.station q = { Station.initial with ordersOwed := owed } := congrArg Pair.station (pairs q)
  of_unpolled (fun q => by rw [station]; exact initialStation_sound) fun q => by rw [station]; rfl

omit h in
theorem poweredOn (s : State) (rate1 rate0 : Bool) : s.StationsHold E (s.poweredOn rate1 rate0) :=
  of_initial fun q => pair_powerOn rate1 rate0 q

omit h in
theorem lineReset (s : State) (rate1 rate0 : Bool) : s.StationsHold E (s.lineReset rate1 rate0) :=
  of_initial (health := fun q => (s.pair q).health) fun q => pair_lineReset rate1 rate0 s q

omit h in
theorem resetCentre (s t : State) : s.StationsHold E t.resetCentre := by
  have station (q : PairIx) : t.resetCentre.station q = ((t.each t.runningLanes State.endSession).station q).rediscover true :=
    congrArg Pair.station (pair_resetCentre t q)
  exact of_unpolled (fun q => by rw [station]; exact Station.sound_rediscover true _) fun q => by rw [station]; rfl

end State.StationsHold

/-! ### What each request does -/

section Requests

variable {E : Set PairIx} {s t : State} (h : s.StationsHold E t)

include h

theorem stationsHold_openSession (agrees : Bool) (f : OpenFields) (l : LaneIx) : s.StationsHold E (openSession agrees f l t).state := by
  unfold openSession
  split
  · exact h
  · split
    · exact h
    · split
      · exact h
      · split
        · exact h
        · dsimp only
          exact h.openLane l _ _ _

theorem stationsHold_holdLane (l : LaneIx) : s.StationsHold E (holdLane l t).state := by
  unfold holdLane
  repeat' split
  · exact h
  · exact h
  · exact h.raiseReason _ _ l

theorem stationsHold_releaseLane (l : LaneIx) : s.StationsHold E (releaseLane l t).state := by
  unfold releaseLane
  split
  · exact h.clearReason _ l
  · exact h

theorem stationsHold_addBowler (f : AddBowlerFields) (l : LaneIx) : s.StationsHold E (addBowler f l t).state := by
  unfold addBowler
  dsimp only
  split
  · exact h
  · split
    · exact h
    · dsimp only
      exact h.addBowler l _

theorem stationsHold_withdrawBowler (slot : Nat) (b : Bowler) (l : LaneIx) : s.StationsHold E (withdrawBowler slot b l t).state := by
  simp only [withdrawBowler]
  repeat' split
  · exact h
  · exact h
  · exact h.withdrawBowler l slot _

theorem stationsHold_markBlind (slot : Nat) (b : Bowler) (l : LaneIx) : s.StationsHold E (markBlind slot b l t).state := by
  simp only [markBlind]
  repeat' split
  · exact h
  · exact h
  · exact h
  · exact h.blindBowler l slot _
  · exact h.modBowlerOf l slot _

theorem stationsHold_skipTurn (l : LaneIx) : s.StationsHold E (skipTurn l t).state := by
  unfold skipTurn
  repeat' split
  · exact h
  · exact (h.setQueue l _).handOffs _ _
  · exact h

theorem stationsHold_pairMode (mode : Option PairMode) (p : PairIx) : s.StationsHold E (pairMode mode p t).state := by
  unfold pairMode
  repeat' split
  · exact h
  · exact h.cancelPending p
  · exact h
  · exact h.changeModeNow p _
  · dsimp only
    exact h.modPair p rfl rfl

theorem stationsHold_correctFrame (slot frame : Nat) (balls : List BallField) (g : Game) (l : LaneIx) :
    s.StationsHold E (correctFrame slot frame balls g l t).state := by
  have corrected := h.modGame l slot g.number (Game.correct frame balls)
  simp only [correctFrame]
  repeat' split
  · exact h
  · exact h
  · exact h
  · exact h
  · exact corrected.when _ (corrected.report _)

theorem stationsHold_certifyGame (game : Nat) (l : LaneIx) : s.StationsHold E (certifyGame game l t).state := by
  simp only [certifyGame]
  repeat' split
  · exact h
  · exact h
  · exact h
  · exact h
  · dsimp only
    exact h.modLane l rfl

theorem stationsHold_ackCheck (slot frame : Nat) (ball : Option Nat) (g : Game) (l : LaneIx) :
    s.StationsHold E (ackCheck slot frame ball g l t).state := by
  simp only [ackCheck]
  repeat' split
  · exact h
  · exact h
  · exact h.modGame l _ _ _

theorem stationsHold_addCredit (amount : Nat) (l : LaneIx) : s.StationsHold E (addCredit amount l t).state := by
  unfold addCredit
  repeat' split
  · exact h
  · exact h
  · exact h
  · exact (h.modAccount l _).evaluateAccount l

theorem stationsHold_installTariff (weekday weekend : List Band) : s.StationsHold E (installTariff weekday weekend t).state := by
  simp only [installTariff]
  split
  · exact h.setMeter _
  · exact h.setMeter _

theorem stationsHold_powerOn (l : LaneIx) : s.StationsHold E (powerOn l t).state := by
  have clear : s.StationsHold E (t.pendPowerOff false l) := h.modMachine l rfl
  unfold powerOn
  cases (t.machine l).state with
  | poweredDown | standby => exact clear.wake l
  | outOfService | linkLost => exact h
  | waking | deckEmpty | waiting | ready | ballDown | reading | cycling | jammed =>
    dsimp only
    split
    · exact clear
    · exact h

theorem stationsHold_powerOff (l : LaneIx) : s.StationsHold E (powerOff l t).state := by
  have pending : s.StationsHold E (t.pendPowerOff true l) := h.modMachine l rfl
  unfold powerOff
  cases (t.machine l).state with
  | ballDown | reading | cycling | linkLost | jammed | poweredDown | standby | outOfService => exact h
  | waking | deckEmpty | waiting | ready =>
    dsimp only
    repeat' split
    · exact h
    · exact h
    · exact h.powerDown l
    · exact pending

theorem stationsHold_clearJam (l : LaneIx) : s.StationsHold E (clearJam l t).state := by
  unfold clearJam
  split
  · exact h.startCycle l _
  · exact h

theorem stationsHold_takeOut (l : LaneIx) : s.StationsHold E (takeOut l t).state := by
  have out : s.StationsHold E (t.modMachine l fun m => { m with service := .out }) := h.modMachine l rfl
  have later : s.StationsHold E ((t.modMachine l fun m => { m with service := .out }).modMachine l fun m => { m with removal := .desk }) :=
    out.modMachine l rfl
  unfold takeOut
  split
  · exact h
  · cases (t.machine l).state with
    | poweredDown | deckEmpty | waiting | ready | standby | jammed | waking => exact out.serviceOut l
    | ballDown | reading | cycling => exact later
    | linkLost | outOfService => exact out

theorem stationsHold_bringIn (l : LaneIx) : s.StationsHold E (bringIn l t).state := by
  have back : s.StationsHold E (t.modMachine l fun m => { m with service := .in_, removal := .unordered }) := h.modMachine l rfl
  unfold bringIn
  split
  · exact h
  · exact .ite _ ((back.enter l _).wakeForHead l) back

theorem stationsHold_setHealth (f : HealthFields) (l : LaneIx) : s.StationsHold E (setHealth f l t).state :=
  have lane := h.testLane l ((t.lane l).health.store f) (attributesChanged (t.lane l).health ((t.lane l).health.store f))
  (lane.when _ (lane.testPair _ _)).removalWhen _ l

theorem stationsHold_setMachine (f : MachineFields) (p : PairIx) : s.StationsHold E (setMachine f p t).state :=
  h.modPair p (f := fun x => { x with settings := settingsApplied f }) rfl rfl

theorem stationsHold_stationReset (hold : Byte) (p : PairIx) : s.StationsHold E (stationReset hold p t).state := h.resetStation p _

theorem stationsHold_returnStatus (threshold timeout : Option Nat) (p : PairIx) :
    s.StationsHold E (returnStatus threshold timeout p t).state := by
  simp only [returnStatus]
  split
  · exact h
  · exact (h.modReturn p rfl).when _ ((h.modReturn p rfl).pauseTest p)

theorem stationsHold_clearReturnJam (balls : Nat) (p : PairIx) : s.StationsHold E (clearReturnJam balls p t).state := by
  simp only [clearReturnJam]
  repeat' split
  · exact h
  · exact h
  · exact h.clearJamOfReturn p _

end Requests
end Sys2Proof.Machine
end

section
/-! SUPPORT. Every command and every step keeps the station table sound and the law of R89. -/

namespace Sys2Proof.Machine

open State.StationsHold

/-- Every command keeps the station table: a request through its checks, any other by what its meaning does. -/
theorem stationsHold_exec (c : Instr) (s : State) : ∃ t, exec c s = .next t ∧ s.StationsHold ∅ t := by
  have start : s.StationsHold ∅ s := .refl ∅ s
  have live {f : State → State} (hf : ∀ t : State, s.StationsHold ∅ t → s.StationsHold ∅ (f t)) : s.StationsHold ∅ (State.live f s) :=
    live_preserves start start.drain hf
  have request (kind : RequestKind) {f : List Byte → State → Answer}
      (hf : ∀ (body : List Byte) (t : State), s.StationsHold ∅ t → s.StationsHold ∅ (f body t).state) :
      s.StationsHold ∅ (State.live (State.carryOut kind f) s) :=
    live fun t ht => carryOut_preserves kind ht (fun _ _ hu => hu.modLink _) fun body => hf body t ht
  have resetting (own other : Byte) {f : Bool → State → Answer}
      (hf : ∀ (force : Bool) (t : State), s.StationsHold ∅ t → s.StationsHold ∅ (f force t).state) :
      s.StationsHold ∅ (State.live (State.resetRequest own other f) s) :=
    live fun t ht => resetRequest_preserves own other ht (fun _ _ hu => hu.modLink _) fun force => hf force t ht
  have part {t : State} (ht : s.StationsHold ∅ t) : s.StationsHold ∅ (if s.held then s else t) := .ite _ start ht
  cases c with
  | powerOn rate1 rate0 => exact ⟨_, rfl, .poweredOn s rate1 rate0⟩
  | resetLine rate1 rate0 => exact ⟨_, rfl, .lineReset s rate1 rate0⟩
  | resetLineAsserted => exact ⟨_, rfl, live fun _ ht => ht.of_lanes (fun _ => rfl) fun _ => rfl⟩
  | frameReceived kind tag body check => exact ⟨_, rfl, live fun _ ht => ht.receive kind tag body check⟩
  | byteFault place => exact ⟨_, rfl, live fun _ ht => ht.badByte place⟩
  | lengthFault len => exact ⟨_, rfl, live fun _ ht => .ite _ ht ht.badLength⟩
  | gapFault tag => exact ⟨_, rfl, live fun _ ht => ht.gap tag⟩
  | huntStartByte byte => exact ⟨_, rfl, live fun _ ht => ht.huntByte byte⟩
  | transmitFrameStart => exact ⟨_, rfl, live fun _ ht => ht.modLink _⟩
  | transmitFrameEnd => exact ⟨_, rfl, live fun _ ht => ht.modLink _⟩
  | unknownKind => exact ⟨_, rfl, live fun _ ht => ht.refuseUnknown⟩
  | ping => exact ⟨_, rfl, request _ fun _ _ ht => checkLength_preserves _ ht ht⟩
  | status => exact ⟨_, rfl, request _ fun _ _ ht => checkLength_preserves _ ht (ht.modLink _)⟩
  | peek => exact ⟨_, rfl, request _ fun _ _ ht => checkLength_preserves _ ht ht⟩
  | resetCentre =>
    refine ⟨_, rfl, resetting _ _ fun _ t ht => ?_⟩
    split
    · exact ht
    · exact .resetCentre s t
  | resetLink => exact ⟨_, rfl, resetting _ _ fun _ _ ht => ht.modLink _⟩
  | setLink =>
    refine ⟨_, rfl, request _ fun _ _ ht => ?_⟩
    split
    · exact ht.modLink fun k => { k with timeout := timeoutApplied _ }
    · exact ht
  | getLink => exact ⟨_, rfl, request _ fun _ _ ht => checkLength_preserves _ ht ht⟩
  | setClock agrees fields =>
    refine ⟨_, rfl, request _ fun _ _ ht => checkLength_preserves _ ht ?_⟩
    split
    · exact ht.of_lanes (fun _ => rfl) fun _ => rfl
    · exact ht
  | getClock => exact ⟨_, rfl, request _ fun _ _ ht => checkLength_preserves _ ht ht⟩
  | setTariff agrees weekday weekend =>
    exact ⟨_, rfl, request _ fun _ _ ht => checkLength_preserves _ ht (stationsHold_installTariff ht _ _)⟩
  | getTariff => exact ⟨_, rfl, request _ fun _ _ ht => checkLength_preserves _ ht ht⟩
  | setBilling agrees fields => exact ⟨_, rfl, request _ fun _ _ ht => checkLength_preserves _ ht (ht.setMeter _)⟩
  | openSession agrees f =>
    exact ⟨_, rfl, request _ fun _ _ ht => checkLane_preserves _ ht fun l _ => stationsHold_openSession ht agrees f l⟩
  | closeSession agrees lane =>
    refine ⟨_, rfl, request _ fun _ _ ht => checkLength_preserves _ ht (checkLaneExempt_preserves _ ht fun l _ => ?_)⟩
    split
    · dsimp only
      exact ht.closeSession l
    · exact ht
  | addBowler agrees f =>
    exact ⟨_, rfl, request _ fun _ _ ht => checkLane_preserves _ ht fun l _ => checkRunning_preserves _ l ht
      (stationsHold_addBowler ht f l)⟩
  | setBowler agrees f =>
    exact ⟨_, rfl, request _ fun _ _ ht => checkLane_preserves _ ht fun l _ => checkRunning_preserves _ l ht
      (checkSlot_preserves _ l ht fun _ => ht.modBowlerOf l _ _)⟩
  | withdrawBowler agrees lane slot =>
    exact ⟨_, rfl, request _ fun _ _ ht => checkLane_preserves _ ht fun l _ => checkRunning_preserves _ l ht
      (checkSlot_preserves _ l ht fun b => stationsHold_withdrawBowler ht slot b l)⟩
  | markBlind agrees lane slot =>
    exact ⟨_, rfl, request _ fun _ _ ht => checkLane_preserves _ ht fun l _ => checkRunning_preserves _ l ht
      (checkSlot_preserves _ l ht fun b => stationsHold_markBlind ht slot b l)⟩
  | skipTurn agrees lane =>
    exact ⟨_, rfl, request _ fun _ _ ht => checkLane_preserves _ ht fun l _ => checkRunning_preserves _ l ht
      (stationsHold_skipTurn ht l)⟩
  | pairMode agrees pair mode =>
    exact ⟨_, rfl, request _ fun _ _ ht => checkLength_preserves _ ht (checkPair_preserves _ ht fun p _ =>
      stationsHold_pairMode ht mode p)⟩
  | holdLane agrees lane =>
    exact ⟨_, rfl, request _ fun _ _ ht => checkLength_preserves _ ht (checkLaneExempt_preserves _ ht fun l _ =>
      stationsHold_holdLane ht l)⟩
  | releaseLane agrees lane =>
    exact ⟨_, rfl, request _ fun _ _ ht => checkLength_preserves _ ht (checkLaneExempt_preserves _ ht fun l _ =>
      stationsHold_releaseLane ht l)⟩
  | laneStatus agrees lane =>
    exact ⟨_, rfl, request _ fun _ _ ht => checkLength_preserves _ ht (checkLaneExempt_preserves _ ht fun _ _ => ht)⟩
  | getGame agrees n =>
    refine ⟨_, rfl, request _ fun _ _ ht => checkLane_preserves _ ht fun l _ => checkHeld_preserves _ l ht
      (checkSlot_preserves _ l ht fun b => ?_)⟩
    split
    · exact ht
    · exact ht
  | correctFrame agrees n frame balls =>
    exact ⟨_, rfl, request _ fun _ _ ht => checkLane_preserves _ ht fun l _ => checkHeld_preserves _ l ht
      (checkOpenRecord_preserves _ _ l ht fun _ g => stationsHold_correctFrame ht _ _ _ g l)⟩
  | certifyGame agrees lane game =>
    exact ⟨_, rfl, request _ fun _ _ ht => checkLane_preserves _ ht fun l _ => checkHeld_preserves _ l ht
      (stationsHold_certifyGame ht game l)⟩
  | ackCheck agrees n frame ball =>
    exact ⟨_, rfl, request _ fun _ _ ht => checkLane_preserves _ ht fun l _ => checkHeld_preserves _ l ht
      (checkOpenRecord_preserves _ _ l ht fun _ g => stationsHold_ackCheck ht _ _ _ g l)⟩
  | getTeam agrees lane game =>
    refine ⟨_, rfl, request _ fun _ _ ht => checkLane_preserves _ ht fun l _ => checkHeld_preserves _ l ht ?_⟩
    unfold getTeam
    dsimp only
    split
    · exact ht
    · exact ht
  | getAccount agrees lane =>
    refine ⟨_, rfl, request _ fun _ _ ht => checkLength_preserves _ ht (checkLane_preserves _ ht fun l _ => ?_)⟩
    split
    · exact ht
    · exact ht
  | addCredit agrees lane amount =>
    refine ⟨_, rfl, request _ fun _ _ ht => checkLane_preserves _ ht fun l _ => checkLength_preserves _ ht ?_⟩
    split
    · exact stationsHold_addCredit ht amount l
    · exact ht
  | machinePowerOn agrees lane valid =>
    exact ⟨_, rfl, request _ fun _ _ ht => checkLength_preserves _ ht (checkLane_preserves _ ht fun l _ =>
      checkValid_preserves _ l ht (checkStation_preserves l ht (stationsHold_powerOn ht l)))⟩
  | machinePowerOff agrees lane valid =>
    exact ⟨_, rfl, request _ fun _ _ ht => checkLength_preserves _ ht (checkLane_preserves _ ht fun l _ =>
      checkValid_preserves _ l ht (checkStation_preserves l ht (stationsHold_powerOff ht l)))⟩
  | clearJam agrees lane =>
    exact ⟨_, rfl, request _ fun _ _ ht => checkLength_preserves _ ht (checkLane_preserves _ ht fun l _ =>
      checkStation_preserves l ht (stationsHold_clearJam ht l))⟩
  | serviceOut agrees lane valid =>
    exact ⟨_, rfl, request _ fun _ _ ht => checkLength_preserves _ ht (checkLane_preserves _ ht fun l _ =>
      checkValid_preserves _ l ht (checkStation_preserves l ht (stationsHold_takeOut ht l)))⟩
  | serviceIn agrees lane valid =>
    exact ⟨_, rfl, request _ fun _ _ ht => checkLength_preserves _ ht (checkLane_preserves _ ht fun l _ =>
      checkValid_preserves _ l ht (checkStation_preserves l ht (stationsHold_bringIn ht l)))⟩
  | setMachine agrees f =>
    exact ⟨_, rfl, request _ fun _ _ ht => checkLength_preserves _ ht (checkPair_preserves _ ht fun p _ =>
      stationsHold_setMachine ht f p)⟩
  | getHealth agrees lane =>
    exact ⟨_, rfl, request _ fun _ _ ht => checkLength_preserves _ ht (checkLane_preserves _ ht fun _ _ => ht)⟩
  | setHealth agrees f =>
    exact ⟨_, rfl, request _ fun _ _ ht => checkLane_preserves _ ht fun l _ => checkLength_preserves _ ht
      (stationsHold_setHealth ht f l)⟩
  | stationReset agrees pair hold =>
    exact ⟨_, rfl, request _ fun _ _ ht => checkLength_preserves _ ht (checkPair_preserves _ ht fun p _ =>
      stationsHold_stationReset ht hold p)⟩
  | returnStatus agrees pair threshold timeout =>
    exact ⟨_, rfl, request _ fun _ _ ht => checkPair_preserves _ ht fun p _ => checkLength_preserves _ ht
      (stationsHold_returnStatus ht threshold timeout p)⟩
  | clearReturnJam agrees pair balls =>
    exact ⟨_, rfl, request _ fun _ _ ht => checkPair_preserves _ ht fun p _ => checkLength_preserves _ ht
      (stationsHold_clearReturnJam ht balls p)⟩
  | secondEvent => exact ⟨_, rfl, .ite _ start.toSecond start.drain.second⟩
  | minuteEvent => exact ⟨_, rfl, part start.dueMinute⟩
  | playMinute lane => exact ⟨_, rfl, part (start.dueMinute.duePlay lane)⟩
  | prepaidMinute lane => exact ⟨_, rfl, part (start.dueMinute.duePrepaid lane)⟩
  | deskSilenceExpiry => exact ⟨_, rfl, part start.dueSilence⟩
  | idleTimerExpiry lane => exact ⟨_, rfl, part (start.dueIdle lane)⟩
  | onTimeElapsed lane => exact ⟨_, rfl, part (start.dueOnTime lane)⟩
  | oldestEntryExpiry pair => exact ⟨_, rfl, part (start.dueOldest pair)⟩
  | settleExpiry lane => exact ⟨_, rfl, live fun _ ht => ht.settleOut lane⟩
  | rereadSettleExpiry lane => exact ⟨_, rfl, live fun _ ht => ht.rereadOut lane⟩
  | readTimeout lane => exact ⟨_, rfl, live fun _ ht => ht.readOut lane⟩
  | cycleTimeout lane => exact ⟨_, rfl, live fun _ ht => ht.cycleOut lane⟩
  | warmUpExpiry lane => exact ⟨_, rfl, live fun _ ht => ht.warmUpOut lane⟩
  | paceTimerExpiry => exact ⟨_, rfl, live fun _ ht => ht.paceOut⟩
  | resetHoldExpiry pair => exact ⟨_, rfl, live fun _ ht => ht.holdOut pair⟩
  | sendPoll => exact ⟨_, rfl, live fun _ ht => ht.sendPoll⟩
  | sendProbe => exact ⟨_, rfl, live fun _ ht => ht.sendProbe⟩
  | sendResetPoll => exact ⟨_, rfl, live fun _ ht => ht.sendReset⟩
  | answerWindowExpiry => exact ⟨_, rfl, live fun _ ht => ht.windowOut⟩
  | helloAnswer answer => exact ⟨_, rfl, live fun _ ht => ht.helloIn answer⟩
  | statusAnswer answer => exact ⟨_, rfl, live fun _ ht => ht.statusIn answer⟩

/-- A step is a tenth passing with nothing waiting, or the front command taken off and carried out. -/
theorem stationsHold_step {s t : State} (h : step s = .next t) : s.StationsHold ∅ t := by
  unfold step at h
  split at h
  · obtain ⟨rfl⟩ := h
    exact (refl ∅ s).idleTenth
  · rename_i c rest _
    obtain ⟨u, e, hu⟩ := stationsHold_exec c { s with pending := rest }
    rw [e] at h
    obtain ⟨rfl⟩ := h
    have taken : s.StationsHold ∅ { s with pending := rest } := (refl ∅ s).of_lanes (fun _ => rfl) fun _ => rfl
    exact taken.trans hu

/-- Settles O57, by what every step leaves of each station table entry. -/
theorem stepsKeepTheStationsSound : Obligations.StepsKeepTheStationsSound := by
  unfold Obligations.StepsKeepTheStationsSound
  exact fun s t sound h p => (stationsHold_step h).sound p (sound p)

/-- Settles O58, by the DARK tests that follow every change of what R89 reads. -/
theorem stepsKeepTheDarkStations : Obligations.StepsKeepTheDarkStations := by
  unfold Obligations.StepsKeepTheDarkStations
  exact fun s t dark h p => (stationsHold_step h).dark p (Set.notMem_empty p) (dark p)

end Sys2Proof.Machine
end

section
/-! SUPPORT. The wiring order of a class-1 station, pin for pin (R98). -/

namespace Sys2Proof.Machine

/-- The pin set reorderSet builds has at position i the pin its order names there. -/
theorem getLsbD_reorderSet (order : Vector Nat 10) (set : PinSet) {i : Nat} (hi : i < 10) :
    (reorderSet order set).getLsbD i = set.getLsbD (order.toList.getD i 1 - 1) := by
  have built (n : Nat) : ((List.range n).foldl (fun s i => if set.getLsbD (order.toList.getD i 1 - 1) then s ||| (1#10 <<< i) else s)
      0#10).getLsbD i = (decide (i < n) && set.getLsbD (order.toList.getD i 1 - 1)) := by
    induction n with
    | zero => simp
    | succ n ih =>
      rw [List.range_succ, List.foldl_append, List.foldl_cons, List.foldl_nil]
      have bit : (1#10 <<< n).getLsbD i = decide (i = n) := by
        rw [BitVec.getLsbD_shiftLeft, BitVec.getLsbD_one, decide_eq_true hi, Bool.true_and, Bool.eq_iff_iff]
        simp only [Bool.and_eq_true, Bool.not_eq_true', decide_eq_false_iff_not, decide_eq_true_eq]
        omega
      by_cases e : i = n
      · subst e
        rw [decide_eq_true (Nat.lt_succ_self i), Bool.true_and]
        split
        · rename_i named
          rw [BitVec.getLsbD_or, bit, decide_eq_true rfl, Bool.or_true, named]
        · rename_i unnamed
          rw [ih, decide_eq_false (Nat.lt_irrefl i), Bool.false_and, Bool.eq_false_of_not_eq_true unnamed]
      · have below : decide (i < n + 1) = decide (i < n) := decide_eq_decide.2 (by omega)
        rw [below, ← ih]
        split
        · rw [BitVec.getLsbD_or, bit, decide_eq_false e, Bool.or_false]
        · rfl
  exact (built 10).trans (by rw [decide_eq_true hi, Bool.true_and])

/-- A reordering undone by another leaves a set as it was. -/
theorem reorderSet_reorderSet {order other : Vector Nat 10} (set : PinSet)
    (undone : ∀ i < 10, order.toList.getD i 1 - 1 < 10 ∧ other.toList.getD (order.toList.getD i 1 - 1) 1 - 1 = i) :
    reorderSet order (reorderSet other set) = set := by
  refine BitVec.eq_of_getLsbD_eq fun i hi => ?_
  obtain ⟨inside, back⟩ := undone i hi
  rw [getLsbD_reorderSet order _ hi, getLsbD_reorderSet other _ inside, back]

/-- A reordering that names every pin once leaves the number of pins. -/
theorem pinCount_reorderSet {order : Vector Nat 10} (set : PinSet)
    (perm : ((List.range 10).map fun i => order.toList.getD i 1 - 1).Perm (List.range 10)) :
    pinCount (reorderSet order set) = pinCount set := by
  rw [pinCount_eq_countP, pinCount_eq_countP, ← perm.countP_eq fun i => set.getLsbD i, List.countP_map]
  exact List.countP_congr fun i hi => by rw [getLsbD_reorderSet order set (List.mem_range.1 hi), Function.comp_apply]

/-- Settles O51, by the position each pin takes. -/
theorem wiringOrderIsUndone : Obligations.WiringOrderIsUndone := by
  unfold Obligations.WiringOrderIsUndone
  refine ⟨fun set => ⟨reorderSet_reorderSet set (by decide), reorderSet_reorderSet set (by decide),
    pinCount_reorderSet set (by decide), rfl, rfl, fun w => ⟨?_, ?_⟩⟩, fun image => ⟨rfl, fun w => ?_⟩⟩
  · refine (getLsbD_reorderSet wiringPins set w.isLt).trans (congrArg set.getLsbD ?_)
    revert w
    decide
  · refine (getLsbD_reorderSet pinWires set (Fin.isLt _)).trans (congrArg set.getLsbD ?_)
    revert w
    decide
  · fin_cases w
    all_goals simp [imageFromStation, reorderImage, pinWires]

end Sys2Proof.Machine
end

section
/-! SUPPORT. The requests that store settings (R97, R122, R151, R157). -/

namespace Sys2Proof.Machine

/-- NO_CHANGE goes before ADJUSTED for SET_BILLING, and behind it for SET_MACHINE (log 27). -/
theorem storedStatus_of_changed {α : Type} [DecidableEq α] (adjusted : Bool) (new old : α) :
    storedStatus adjusted (new ≠ old) = if new = old then .noChange else if adjusted then .adjusted else .ok := by
  by_cases e : new = old
  · simp [storedStatus, e]
  · simp [storedStatus, adjustedOr, e]

theorem settingStatus_of_changed {α : Type} [DecidableEq α] (new given old : α) :
    settingStatus (new ≠ given) (new ≠ old) = if new ≠ given then .adjusted else if new = old then .noChange else .ok := by
  by_cases e : new = old
  · simp [settingStatus, adjustedOr, e]
  · simp [settingStatus, adjustedOr, e]

theorem clockInRange_iff (f : ClockFields) : clockInRange f = true ↔ 2000 ≤ f.year ∧ f.year ≤ 2099 ∧ 1 ≤ f.month ∧ f.month ≤ 12
    ∧ 1 ≤ f.day ∧ f.day ≤ daysInMonth f.year f.month ∧ f.hour ≤ 23 ∧ f.minute ≤ 59 ∧ f.second ≤ 59 := by
  simp only [clockInRange, Bool.and_eq_true, decide_eq_true_eq, and_assoc]

/-- SET_CLOCK writes the clock where its fields are in range, and is refused elsewhere (R151). -/
theorem exec_setClock {s : State} {r : Slot} (front : s.front .setClock r) (f : ClockFields) :
    (clockInRange f = true → exec (.setClock true f) s
        = .next ((s.setClock (clockOf f)).answered r .ok (.clock (s.setClock (clockOf f)).clockView)))
    ∧ (¬clockInRange f = true → exec (.setClock true f) s = .next (s.refusedWith r .badValue))
    ∧ exec (.setClock false f) s = .next (s.refusedWith r .badLength) := by
  refine ⟨fun fits => ?_, fun out => ?_, congrArg Host.Outcome.next (State.carryOut_of_front front _)⟩
  · refine congrArg Host.Outcome.next ((State.carryOut_of_front front _).trans ?_)
    rw [checkLength_agreed, if_pos fits]
  · refine congrArg Host.Outcome.next ((State.carryOut_of_front front _).trans ?_)
    rw [checkLength_agreed, if_neg out]
    rfl

/-- SET_BILLING stores what it applies (R157). -/
theorem exec_setBilling {s : State} {r : Slot} (front : s.front .setBilling r) (f : BillingFields) :
    exec (.setBilling true f) s = .next (State.answered
      { s with meter := { s.meter with settings := billingApplied f s.meter.settings } } r
      (storedStatus (billingAdjusted f) (billingApplied f s.meter.settings ≠ s.meter.settings))
      (.billing (billingApplied f s.meter.settings))) :=
  congrArg Host.Outcome.next (State.carryOut_of_front front _)

theorem mask_billingApplied (f : BillingFields) (b : BillingSettings) (d : Fin 7) :
    (billingApplied f b).mask[d] = (f.mask[d]).getD b.mask[d] := by
  simp [billingApplied]

/-- SET_MACHINE stores what it applies for a pair whose station is present (R122). -/
theorem exec_setMachine {s : State} {r : Slot} {p : PairIx} {f : MachineFields} (front : s.front .setMachine r)
    (named : f.pair = pairNumber p) (present : (s.station p).state ≠ .absent) :
    exec (.setMachine true f) s = .next ((setMachine f p s).state.answered r (setMachine f p s).status (setMachine f p s).body) :=
  congrArg Host.Outcome.next (live_of_answer front ((checkLength_agreed _ s).trans (named ▸ checkPair_of_present present (setMachine f))))

/-- A class-1 station's settle time is the stored one rounded up to a multiple of 5 tenths, a class-2 station's the
stored one, where it is in its range (R97). -/
theorem settleInForce_of_present {s : State} {p : PairIx} (present : (s.station p).state ≠ .absent)
    (low : 10 ≤ (s.pair p).settings.settle) (high : (s.pair p).settings.settle ≤ 40) :
    if (s.station p).cls = .class1 then s.settleInForce p % 5 = 0 ∧ (s.pair p).settings.settle ≤ s.settleInForce p
        ∧ s.settleInForce p < (s.pair p).settings.settle + 5
      else s.settleInForce p = (s.pair p).settings.settle := by
  simp only [State.settleInForce, if_neg present]
  cases (s.station p).cls with
  | class1 =>
    rw [if_pos rfl]
    dsimp only
    omega
  | class2 => rfl

/-- Settles O13, by the settings each request applies. -/
theorem settingsAreStoredInRange : Obligations.SettingsAreStoredInRange := by
  unfold Obligations.SettingsAreStoredInRange
  refine ⟨fun s r f front => ?_, fun s r f front => ?_, fun s r p f front named present => ?_⟩
  · obtain ⟨fits, out, short⟩ := exec_setClock front f
    rw [clockInRange_iff] at fits out
    exact ⟨fun h => ⟨_, rfl, fits h⟩, out, short⟩
  · refine ⟨billingApplied f s.meter.settings, rfl, rfl, rfl, rfl, mask_billingApplied f _, (exec_setBilling front f).trans ?_⟩
    rw [storedStatus_of_changed]
  · let m := settingsApplied f
    let stored := s.setPair p { s.pair p with settings := m }
    have station : stored.station p = s.station p := by rw [State.station, State.pair_setPair_self]; rfl
    have pair : (stored.pair p).settings = m := by rw [State.pair_setPair_self]
    have inForce := settleInForce_of_present (s := stored) (p := p) (by rw [station]; exact present)
    rw [station, pair] at inForce
    refine ⟨m, rfl, rfl, rfl, Nat.zero_max _, Nat.zero_max _, stored.settleInForce p, inForce ?_ ?_, ?_⟩
    · exact le_max_left ..
    · exact max_le (by decide) (min_le_left ..)
    · refine (exec_setMachine front named present).trans ?_
      rw [← settingStatus_of_changed]
      rfl

end Sys2Proof.Machine
end

section
/-! SUPPORT. The timers of the bus and the exchanges sent (R85 to R90, R96). -/

namespace Sys2Proof.Machine

/-! ### Time passing on the bus -/

theorem due_advance (n : Nat) (s : State) : (s.advance n).bus.due = s.bus.due := by
  simp only [State.advance]
  split <;> rfl

theorem paceCount_advance (n : Nat) (s : State) : (s.advance n).bus.paceCount = s.bus.paceCount := by
  simp only [State.advance]
  split <;> rfl

theorem state_station_advance (n : Nat) (s : State) (p : PairIx) : ((s.advance n).station p).state = (s.station p).state := by
  obtain ⟨left, e⟩ := s.advance_pair n p
  rw [State.station, e, State.station]

/-! ### The timers -/

/-- The pace timer's expiry outside a discovery pass (R87). -/
theorem paceOut_of_not_passing {s : State} (h : s.bus.passing = false) :
    s.paceOut.bus.paceTenths = 0 ∧ s.paceOut.bus.paceCount = (if 9 ≤ s.bus.paceCount then 0 else s.bus.paceCount + 1)
      ∧ s.paceOut.bus.due = s.bus.due ++ allPairs.flatMap (fun p => (s.station p).paceDue (decide (9 ≤ s.bus.paceCount)) p)
      ∧ s.paceOut.lanes = s.lanes ∧ s.paceOut.link = s.link ∧ s.paceOut.clock = s.clock := by
  have count := paceCount_advance (Config.secondTenths - s.bus.paceTenths) s
  have due := due_advance (Config.secondTenths - s.bus.paceTenths) s
  unfold State.paceOut
  rw [if_neg (by rw [h]; exact Bool.false_ne_true)]
  refine ⟨rfl, ?_, congrArg (· ++ _) due, rfl, rfl, rfl⟩
  rw [← count]
  simp only [State.schedule, State.modBus, decide_eq_true_eq]

/-- The end of a reset hold (R96). -/
theorem holdOut_of_holding {s : State} {p : PairIx} (resetting : (s.station p).state = .resetting) (holding : (s.station p).holding = true) :
    s.holdOut p = ((s.advance (s.station p).holdRemaining).modStation p fun t => { t with holdRemaining := 0, holding := false }).schedule
      [⟨p, .probe .afterHold⟩] := by
  unfold State.holdOut
  dsimp only
  rw [if_pos (by rw [resetting, holding]; rfl)]

/-! ### The exchanges sent -/

theorem sends_of_exchange {s : State} (h : s.bus.exchange ≠ none) : s.sendPoll = s ∧ s.sendProbe = s ∧ s.sendReset = s := by
  have busy : s.bus.exchange.isSome = true := Option.isSome_iff_ne_none.2 h
  exact ⟨if_pos busy, if_pos busy, if_pos busy⟩

section Idle

variable {s : State} (idle : s.bus.exchange = none)

include idle

theorem sendProbe_of_due {p : PairIx} {reason : ProbeReason} {rest : List DueExchange} (due : s.bus.due = ⟨p, .probe reason⟩ :: rest) :
    s.sendProbe = (s.modBus Bus.popDue).openExchange p (.probe reason) (.probe p) := by
  simp only [State.sendProbe, idle, due, Option.isSome_none, Bool.false_eq_true, if_false]

theorem sendReset_of_due {p : PairIx} {hold : Nat} {rest : List DueExchange} (due : s.bus.due = ⟨p, .resetPoll hold⟩ :: rest) :
    s.sendReset = s.modBus fun b => { b.popDue with lastSent := some (.reset p hold) } := by
  simp only [State.sendReset, idle, due, Option.isSome_none, Bool.false_eq_true, if_false]

theorem sendPoll_of_due {p : PairIx} {rest : List DueExchange} (due : s.bus.due = ⟨p, .darkPoll⟩ :: rest)
    (polled : (s.station p).state.polled = true) : s.sendPoll = (s.modBus Bus.popDue).openExchange p .poll (s.pollFrame p) := by
  simp only [State.sendPoll, idle, due, polled, Option.isSome_none, Bool.false_eq_true, if_false, if_true]

theorem sendPoll_of_round {p : PairIx} (due : s.bus.due = []) (ended : s.bus.passing = false) (next : s.nextPolled s.bus.lastPolled = some p) :
    s.sendPoll = (s.openExchange p .poll (s.pollFrame p)).modBus fun b => { b with lastPolled := p } := by
  simp only [State.sendPoll, idle, due, ended, next, Option.isSome_none, Bool.false_eq_true, if_false]

end Idle

theorem attached_of_nextPolled {s : State} {p q : PairIx} (h : s.nextPolled q = some p) : (s.station p).state = .attached := by
  have found : s.inRoundRobin p = true := List.find?_some h
  simp only [State.inRoundRobin, Bool.and_eq_true, decide_eq_true_eq] at found
  exact found.1

/-- Settles O47, by what each timer makes due and each exchange sends. -/
theorem busTimersAndPolls : Obligations.BusTimersAndPolls := by
  unfold Obligations.BusTimersAndPolls
  intro s free
  have run (f : State → State) : Host.Outcome.next (State.live f s) = (Host.Outcome.next (f s) : Host.Outcome State Fault Refusal) :=
    congrArg Host.Outcome.next (State.live_of_free free f)
  refine ⟨fun ended => ⟨_, run State.paceOut, ?_⟩, fun p resetting holding => ⟨_, run (State.holdOut p), ?_⟩, fun busy => ?_,
    fun idle => ⟨fun p reason rest due => ?_, fun p hold rest due => ?_, fun p rest due polled => ?_, fun p due ended next => ?_⟩⟩
  · obtain ⟨tenths, count, due, lanes, link, clock⟩ := paceOut_of_not_passing ended
    refine ⟨tenths, count, due.trans (congrArg (s.bus.due ++ ·) (congrArg (List.flatMap · allPairs) (funext fun p => ?_))), lanes, link, clock⟩
    unfold Station.paceDue
    cases (s.station p).state with
    | absent => simp only [decide_eq_true_eq]
    | attached | dark | lost | resetting => rfl
  · rw [holdOut_of_holding resetting holding]
    have station := State.station_modStation_self (s.advance (s.station p).holdRemaining) p fun t => { t with holdRemaining := 0, holding := false }
    have state := (state_station_advance (s.station p).holdRemaining s p).trans resetting
    exact ⟨congrArg Station.holding station, congrArg Station.holdRemaining station, (congrArg Station.state station).trans state,
      congrArg (· ++ _) (due_advance _ s), rfl, rfl⟩
  · obtain ⟨poll, probe, reset⟩ := sends_of_exchange busy
    exact ⟨(run _).trans (congrArg _ poll), (run _).trans (congrArg _ probe), (run _).trans (congrArg _ reset)⟩
  · refine (run _).trans (congrArg _ ((sendProbe_of_due idle due).trans ?_))
    simp only [State.openExchange, State.modBus, Bus.popDue, due, List.tail_cons]
  · refine (run _).trans (congrArg _ ((sendReset_of_due idle due).trans ?_))
    simp only [State.modBus, Bus.popDue, due, List.tail_cons]
  · refine (run _).trans (congrArg _ ((sendPoll_of_due idle due polled).trans ?_))
    simp only [State.openExchange, State.modBus, Bus.popDue, due, List.tail_cons]
  · exact ⟨attached_of_nextPolled next, (run _).trans (congrArg _ (sendPoll_of_round idle due ended next))⟩

end Sys2Proof.Machine
end

section
/-! SUPPORT. A station's lanes lost (R94, R95, R96, R119, R145), and STATION_RESET. -/

namespace Sys2Proof.Machine

/-! ### What PSV leaves of the bus and of the return -/

theorem bus_of_outside {l : LaneIx} {s t : State} (h : t.outside l = s.outside l) : t.bus = s.bus :=
  (congrArg State.bus (rest_of_outside h)).trans rfl

theorem ret_of_outside {l : LaneIx} {s t : State} (h : t.outside l = s.outside l) (p : PairIx) : t.ret p = s.ret p :=
  (fields_of_unstationed (unstationed_of_outside h p)).2.2.1

/-! ### An operation on each lane of a list -/

/-- An operation that is taken on each lane of a list brings lane k from P to Q, where on the other lanes it keeps both. -/
theorem State.each_reaches {P Q : State → Prop} {f : LaneIx → State → State} {k : LaneIx} {ls : List LaneIx} (nodup : ls.Nodup) (mem : k ∈ ls)
    (before : ∀ l, l ≠ k → ∀ u, P u → P (f l u)) (self : ∀ u, P u → Q (f k u)) (after : ∀ l, l ≠ k → ∀ u, Q u → Q (f l u))
    {s : State} (h : P s) : Q (s.each ls f) := by
  induction ls generalizing s with
  | nil => cases mem
  | cons l ls ih =>
    obtain ⟨out, nodup⟩ := List.nodup_cons.1 nodup
    rw [each_cons]
    by_cases e : l = k
    · subst e
      exact State.each_preserves Q ls f (fun j hj u => after j (fun e => out (e ▸ hj)) u) _ (self s h)
    · exact ih nodup ((List.mem_cons.1 mem).resolve_left (Ne.symm e)) (before l e s h)

theorem nodup_fittedLanes (s : State) (p : PairIx) : (s.fittedLanes p).Nodup :=
  (List.Nodup.filter _ (by decide : [Side.a, Side.b].Nodup)).map fun i j e => by
    have side := congrArg sideOf e
    rwa [sideOf_laneOf, sideOf_laneOf] at side

/-! ### The loss of a lane (R119) -/

section LoseLane

variable (s : State) (l : LaneIx) (silent : Bool)

theorem darkTest_of_unpolled {p : PairIx} (h : (s.station p).state.polled = false) : s.darkTest p = s := by
  obtain e | ⟨e, -⟩ | ⟨e, -⟩ := darkTest_cases s p
  · exact e
  · rw [e] at h
    cases h
  · rw [e] at h
    cases h

theorem machine_enterSilent (st : MachineState) : (s.enterSilent l st).machine l = (s.machine l).enter st := by
  rw [State.enterSilent, machine_when _ _ _ _ (machine_darkTest _ _ _), State.machine_modMachine_self]

/-- A lane lost is LINK_LOST with nothing in hand. -/
theorem machine_loseLane : ((s.loseLane silent l).machine l).state = .linkLost ∧ ((s.loseLane silent l).machine l).inFlight = none := by
  simp only [State.loseLane]
  split
  · rw [machine_enterSilent, State.machine_modMachine_self]
    refine ⟨MachineRec.enter_state _ _, (MachineRec.enter_inFlight _ _).trans ?_⟩
    split <;> rfl
  · rw [machine_enter, State.machine_modMachine_self]
    refine ⟨MachineRec.enter_state _ _, (MachineRec.enter_inFlight _ _).trans ?_⟩
    split <;> rfl

/-- The loss of a lane leaves alone the station of a pair that is not polled. -/
theorem station_loseLane {p : PairIx} (h : (s.station p).state.polled = false) : (s.loseLane silent l).station p = s.station p := by
  have entered (t : State) (st : MachineState) (same : t.station p = s.station p) : (t.enterSilent l st).station p = s.station p := by
    rw [State.enterSilent, State.when_keeps (fun u : State => u.station p)]
    · exact same
    · by_cases e : pairOf l = p
      · rw [e, darkTest_of_unpolled]
        exact (congrArg (·.state.polled) same).trans h
      · rw [State.station, pair_darkTest_ne _ (Ne.symm e), State.station]
  simp only [State.loseLane]
  split
  · exact entered _ _ rfl
  · rw [State.enter, State.when_keeps (fun u : State => u.station p) _ _ _ rfl]
    exact entered _ _ rfl

end LoseLane

/-! ### The loss of a station's lanes -/

section HandLoss

variable (s : State) (p : PairIx) (silent : Bool)

/-- What each loss of a lane keeps, all of them keep. -/
theorem handLoss_keeps {β : Type} (o : State → β) (lanes : ∀ (l : LaneIx) (u : State), pairOf l = p → o (u.loseLane silent l) = o u)
    (pair : ∀ u : State, o (u.losePair p) = o u) : o (s.handLoss silent p) = o s := by
  rw [State.handLoss, pair]
  exact State.each_preserves (fun u => o u = o s) _ _ (fun l hl u hu => (lanes l u ((mem_fittedLanes s p l).1 hl).1).trans hu) s rfl

theorem elsewhere_handLoss : (s.handLoss silent p).elsewhere (some p) = s.elsewhere (some p) :=
  handLoss_keeps s p silent (State.elsewhere (some p)) (fun _ u hl => elsewhere_loseLane u hl silent) fun u => elsewhere_losePair u p

theorem bus_handLoss : (s.handLoss silent p).bus = s.bus :=
  handLoss_keeps s p silent State.bus (fun l u _ => bus_of_outside (outside_loseLane l silent u)) fun _ => rfl

theorem replies_handLoss : (s.handLoss silent p).link.replies = s.link.replies :=
  handLoss_keeps s p silent (fun u => u.link.replies) (fun l u _ => replies_of_outside (outside_loseLane l silent u)) fun _ => rfl

theorem queue_handLoss (k : LaneIx) : ((s.handLoss silent p).lane k).queue = (s.lane k).queue :=
  handLoss_keeps s p silent (fun u => (u.lane k).queue) (fun l u _ => queue_of_outside (outside_loseLane l silent u) k) fun _ => rfl

theorem ball_handLoss (k : LaneIx) : ((s.handLoss silent p).machine k).ball = (s.machine k).ball :=
  handLoss_keeps s p silent (fun u => (u.machine k).ball)
    (fun l u _ => ball_of_outside (outside_loseLane l silent u) (ball_loseLane u l silent) k) fun _ => rfl

/-- A station not polled stays as it is. -/
theorem station_handLoss {q : PairIx} (h : (s.station q).state.polled = false) : (s.handLoss silent p).station q = s.station q := by
  rw [State.handLoss, State.losePair, station_modReturn]
  exact State.each_preserves (fun u => u.station q = s.station q) _ _
    (fun l _ u hu => (station_loseLane u l silent (by rw [hu]; exact h)).trans hu) s rfl

/-- The pair is out of reach, its track left as it was (R145). -/
theorem ret_handLoss : (s.handLoss silent p).ret p = { s.ret p with outOfReach := true } := by
  rw [State.handLoss, State.losePair, State.ret, State.pair_modReturn_self]
  refine congrArg (fun r : ReturnRec => { r with outOfReach := true }) ?_
  exact State.each_preserves (fun u => u.ret p = s.ret p) _ _ (fun l _ u hu => (ret_of_outside (outside_loseLane l silent u) p).trans hu) s rfl

/-- Each fitted lane is LINK_LOST with nothing in flight (R119). -/
theorem machine_handLoss {k : LaneIx} (fitted : k ∈ s.fittedLanes p) :
    ((s.handLoss silent p).machine k).state = .linkLost ∧ ((s.handLoss silent p).machine k).inFlight = none := by
  refine State.each_reaches (P := fun _ => True) (Q := fun u => (u.machine k).state = .linkLost ∧ (u.machine k).inFlight = none)
    (nodup_fittedLanes s p) fitted (fun _ _ _ => id) (fun u _ => machine_loseLane u k silent) (fun l ne u hu => ?_) trivial
  rw [State.machine, lane_of_outside (outside_loseLane l silent u) ne.symm]
  exact hu

end HandLoss

/-! ### STATION_RESET (R96) -/

/-- The table entry RESETTING with its hold, and the RESET poll due behind what the reset leaves. -/
def State.resetting (p : PairIx) (hold : Nat) (s : State) : State :=
  (s.modBus fun b => { b with due := b.due.filter (fun d => !d.cancelled p) ++ [⟨p, .resetPoll hold⟩] }).modStation p
    fun t => { t.detach .resetting with holdRemaining := hold, holding := true }

theorem resetStation_eq (s : State) (p : PairIx) (hold : Nat) :
    s.resetStation p hold = (s.resetting p hold).when (s.station p).state.polled (State.handLoss false p) := rfl

theorem station_resetting (s : State) (p : PairIx) (hold : Nat) :
    (s.resetting p hold).station p = { (s.station p).detach .resetting with holdRemaining := hold, holding := true } :=
  State.station_modStation_self ..

/-- Whether or not a loss is handed, the entry stays as the reset set it. -/
theorem station_resetStation (s : State) (p : PairIx) (hold : Nat) :
    (s.resetStation p hold).station p = { (s.station p).detach .resetting with holdRemaining := hold, holding := true } := by
  rw [resetStation_eq, State.when_keeps (fun u : State => u.station p), station_resetting]
  exact station_handLoss _ p false (by rw [station_resetting]; rfl)

theorem due_resetStation (s : State) (p : PairIx) (hold : Nat) :
    (s.resetStation p hold).bus.due.getLast? = some ⟨p, .resetPoll hold⟩ := by
  rw [resetStation_eq, State.when_keeps State.bus _ _ _ (bus_handLoss _ p false)]
  exact List.getLast?_concat

theorem replies_resetStation (s : State) (p : PairIx) (hold : Nat) : (s.resetStation p hold).link.replies = s.link.replies := by
  rw [resetStation_eq, State.when_keeps (fun u : State => u.link.replies) _ _ _ (replies_handLoss _ p false)]
  rfl

theorem exec_stationReset {s : State} {r : Slot} {p : PairIx} (front : s.front .stationReset r) (present : (s.station p).state ≠ .absent)
    (hold : Byte) : exec (.stationReset true (pairNumber p) hold) s
      = .next ((s.resetStation p (max 1 hold.toNat)).answered r (adjustedOr (hold.toNat = 0) .ok)
          (.station p (max 1 hold.toNat) ((s.resetStation p (max 1 hold.toNat)).station p).state)) := by
  refine congrArg Host.Outcome.next ((State.carryOut_of_front front _).trans ?_)
  rw [checkLength_agreed, checkPair_of_present present]
  rfl

/-- Settles O34, by the entry the reset sets and the losses it hands. -/
theorem stationResetHoldsTheStation : Obligations.StationResetHoldsTheStation := by
  unfold Obligations.StationResetHoldsTheStation
  intro s r p hold front present
  refine ⟨_, max 1 hold.toNat, rfl, exec_stationReset front present hold, ?_⟩
  generalize applied : max 1 hold.toNat = n
  have station := station_resetStation s p n
  refine ⟨congrArg Station.state station, congrArg Station.holdRemaining station, congrArg Station.holding station,
    congrArg Station.missed station, congrArg Station.commandA station, congrArg Station.commandB station,
    congrArg Station.lastEvent station, (congrArg Station.cls station).trans rfl, (congrArg Station.fitted station).trans rfl, due_resetStation s p n,
    fun polled => ?_, fun unpolled => ?_, ?_, fun q other => ?_, fun k other => ?_⟩
  · have lost : s.resetStation p n = (s.resetting p n).handLoss false p := by rw [resetStation_eq, polled, State.when_true]
    have fitted : (s.resetting p n).fittedLanes p = s.fittedLanes p := by rw [State.fittedLanes, station_resetting]; rfl
    have ret : ((s.resetStation p n).ret p).outOfReach = true := by rw [lost, ret_handLoss]
    refine ⟨ret, fun l hl => ?_⟩
    have machine := (machine_handLoss (s.resetting p n) p false (fitted ▸ hl)).1
    rw [← lost] at machine
    exact machine
  · have kept : s.resetStation p n = s.resetting p n := by rw [resetStation_eq, unpolled, State.when_false]
    rw [kept]
    rfl
  · rw [replies_answered (replies_resetStation s p n) front.2.2, station]
    have status : adjustedOr (hold.toNat = 0) .ok = if hold = 0 then .adjusted else .ok := by
      by_cases e : hold = 0
      · simp [adjustedOr, e]
      · have nonzero : hold.toNat ≠ 0 := fun zero => e (BitVec.eq_of_toNat_eq zero)
        rw [if_neg e, adjustedOr, decide_eq_false nonzero, if_neg Bool.false_ne_true]
    rw [status]
    rfl
  · exact pair_of_elsewhere (elsewhere_resetStation s n) fun e => other (Option.some.inj e).symm
  · exact lane_of_elsewhere (elsewhere_resetStation s n) fun e => other (Option.some.inj e).symm

end Sys2Proof.Machine
end

section
/-! SUPPORT. A missed answer and the third of them (R87, R95), and a HELLO answer that attaches a station (R86, R120, R146). -/

namespace Sys2Proof.Machine

/-! ### Missed answers (R87, R95) -/

section Missed

variable {s : State} {p : PairIx} (exchange : s.bus.exchange = some ⟨p, .poll⟩) (polled : (s.station p).state.polled = true)

include exchange polled

theorem windowOut_of_poll : s.windowOut = s.closeExchange.missAnswer p := by
  have kept : (s.closeExchange.station p).state.polled = true := polled
  simp only [State.windowOut, exchange, State.missed, kept, if_true]
  rfl

/-- A missed answer below the limit raises the count alone (R87). -/
theorem windowOut_below (below : (s.station p).missed + 1 < 3) : s.windowOut
    = s.closeExchange.modStation p fun t => { t with missed := t.missed + 1 } := by
  rw [windowOut_of_poll exchange polled]
  exact if_neg (Nat.not_le_of_lt below)

/-- The third missed answer loses the station (R95). -/
theorem windowOut_third (third : 3 ≤ (s.station p).missed + 1) : s.windowOut = s.closeExchange.loseStation p := by
  rw [windowOut_of_poll exchange polled]
  exact if_pos third

end Missed

theorem station_detached (s : State) (p : PairIx) : (s.modStation p (Station.detach .lost)).station p = (s.station p).detach .lost :=
  State.station_modStation_self ..

/-- The station LOST keeps nothing it held, and the rest is the loss of its lanes and of its pair. -/
theorem station_loseStation (s : State) (p : PairIx) : (s.loseStation p).station p = (s.station p).detach .lost := by
  refine (station_handLoss (s.modStation p (Station.detach .lost)) p false ?_).trans (station_detached s p)
  rw [station_detached]
  rfl

theorem ret_loseStation (s : State) (p : PairIx) : (s.loseStation p).ret p = { s.ret p with outOfReach := true } := by
  refine (ret_handLoss (s.modStation p (Station.detach .lost)) p false).trans ?_
  rw [State.ret, State.pair_modStation_self, State.ret]

theorem elsewhere_loseStation (s : State) (p : PairIx) : (s.loseStation p).elsewhere (some p) = s.elsewhere (some p) :=
  (elsewhere_handLoss (s.modStation p (Station.detach .lost)) p false).trans (elsewhere_modStation s p _)

theorem machine_loseStation {s : State} {p : PairIx} {l : LaneIx} (fitted : l ∈ s.fittedLanes p) :
    ((s.loseStation p).machine l).state = .linkLost ∧ ((s.loseStation p).machine l).ball = (s.machine l).ball
      ∧ ((s.loseStation p).machine l).inFlight = none ∧ ((s.loseStation p).lane l).queue = (s.lane l).queue := by
  have same : (s.modStation p (Station.detach .lost)).fittedLanes p = s.fittedLanes p := by rw [State.fittedLanes, station_detached]; rfl
  obtain ⟨state, inFlight⟩ := machine_handLoss (s.modStation p (Station.detach .lost)) p false (same ▸ fitted)
  exact ⟨state, ball_handLoss _ p false l, inFlight, queue_handLoss _ p false l⟩

/-! ### A station stays polled through PSV and BRM (R89) -/

/-- Pair q's station is polled. -/
def State.polledAt (q : PairIx) (s : State) : Bool := (s.station q).state.polled

section Polled

variable (q : PairIx) (s : State)

@[simp] theorem polledAt_modLane (l : LaneIx) (f : Lane → Lane) : (s.modLane l f).polledAt q = s.polledAt q := rfl
@[simp] theorem polledAt_modMachine (l : LaneIx) (f : MachineRec → MachineRec) : (s.modMachine l f).polledAt q = s.polledAt q := rfl
@[simp] theorem polledAt_report (r : Report) : (s.report r).polledAt q = s.polledAt q := rfl

@[simp] theorem polledAt_modReturn (p : PairIx) (f : ReturnRec → ReturnRec) : (s.modReturn p f).polledAt q = s.polledAt q := by
  rw [State.polledAt, station_modReturn, State.polledAt]

theorem polledAt_modStation (p : PairIx) {f : Station → Station} (same : (f (s.station p)).state = (s.station p).state) :
    (s.modStation p f).polledAt q = s.polledAt q := by
  by_cases e : q = p
  · rw [State.polledAt, e, State.station_modStation_self, same, State.polledAt]
  · rw [State.polledAt, State.station, State.pair_modStation_ne _ _ _ _ e, State.polledAt, State.station]

theorem polledAt_when (c : Bool) {f : State → State} (h : (f s).polledAt q = s.polledAt q) : (s.when c f).polledAt q = s.polledAt q :=
  State.when_keeps (State.polledAt q) c f s h

@[simp] theorem polledAt_setLift (p : PairIx) (o : LiftOrder) : (s.setLift p o).polledAt q = s.polledAt q := polledAt_modStation q s p rfl

@[simp] theorem polledAt_setPower (l : LaneIx) (o : Power) : (s.setPower l o).polledAt q = s.polledAt q := by
  unfold State.setPower
  cases sideOf l
  · exact polledAt_modStation q s _ rfl
  · exact polledAt_modStation q s _ rfl

@[simp] theorem polledAt_handCommand (l : LaneIx) (c : BusCommand) : (s.handCommand l c).polledAt q = s.polledAt q := by
  simp only [State.handCommand]
  split
  · exact polledAt_modStation q s _ (by cases sideOf l <;> rfl)
  · rfl

/-- The DARK test moves a polled station between two states that are polled. -/
@[simp] theorem polledAt_darkTest (p : PairIx) : (s.darkTest p).polledAt q = s.polledAt q := by
  by_cases e : q = p
  · subst e
    obtain e | ⟨old, -, e⟩ | ⟨old, -, e⟩ := darkTest_cases s q
    · rw [e]
    · rw [e, State.polledAt, station_setStation, State.polledAt, old]
      rfl
    · rw [e, State.polledAt, station_setStation, State.polledAt, old]
      rfl
  · rw [State.polledAt, State.station, pair_darkTest_ne _ e, State.polledAt, State.station]

variable (l : LaneIx)

@[simp] theorem polledAt_enter (st : MachineState) : (s.enter l st).polledAt q = s.polledAt q := by
  rw [State.enter, polledAt_when _ _ _ (polledAt_report ..), State.enterSilent, polledAt_when _ _ _ (polledAt_darkTest ..), polledAt_modMachine]

@[simp] theorem polledAt_issueCycle (c : Cycle) (turn : Option Turn) (need : Option Need) :
    (s.issueCycle l c turn need).polledAt q = s.polledAt q := by simp [State.issueCycle]

@[simp] theorem polledAt_issueRead (again : Bool) : (s.issueRead l again).polledAt q = s.polledAt q := by simp [State.issueRead]
@[simp] theorem polledAt_holdCycle (c : Cycle) (served : Bool) : (s.holdCycle l c served).polledAt q = s.polledAt q := by simp [State.holdCycle]
@[simp] theorem polledAt_makeReady : (s.makeReady l).polledAt q = s.polledAt q := by simp [State.makeReady]
@[simp] theorem polledAt_makeEmpty : (s.makeEmpty l).polledAt q = s.polledAt q := by simp [State.makeEmpty]
@[simp] theorem polledAt_cutPower : (s.cutPower l).polledAt q = s.polledAt q := by simp [State.cutPower]
@[simp] theorem polledAt_forgetDeck : (s.forgetDeck l).polledAt q = s.polledAt q := rfl
@[simp] theorem polledAt_serviceOut : (s.serviceOut l).polledAt q = s.polledAt q := by simp [State.serviceOut]
@[simp] theorem polledAt_powerDown : (s.powerDown l).polledAt q = s.polledAt q := by simp [State.powerDown]
@[simp] theorem polledAt_sendPowerOn : (s.sendPowerOn l).polledAt q = s.polledAt q := by simp [State.sendPowerOn]
@[simp] theorem polledAt_wake : (s.wake l).polledAt q = s.polledAt q := by simp [State.wake, State.startTimer]
@[simp] theorem polledAt_wakeForHead : (s.wakeForHead l).polledAt q = s.polledAt q := polledAt_when q s _ (polledAt_wake q s l)

@[simp] theorem polledAt_rest : (s.rest l).polledAt q = s.polledAt q := by
  simp only [State.rest]
  repeat' split
  · rfl
  · exact polledAt_serviceOut q s l
  · exact polledAt_powerDown q s l
  · rfl

@[simp] theorem polledAt_startCycle (c : Cycle) : (s.startCycle l c).polledAt q = s.polledAt q := by
  unfold State.startCycle
  split
  · exact polledAt_holdCycle ..
  · exact polledAt_issueCycle ..

@[simp] theorem polledAt_serve (c : Cycle) : (s.serve l c).polledAt q = s.polledAt q := by
  unfold State.serve
  split
  · exact polledAt_holdCycle ..
  · exact polledAt_makeReady ..

@[simp] theorem polledAt_follow (d : Derived) : (s.follow l d).polledAt q = s.polledAt q := by
  unfold State.follow
  cases d with
  | start c => exact (polledAt_rest ..).trans (polledAt_startCycle ..)
  | serve c => exact (polledAt_rest ..).trans (polledAt_serve ..)
  | deckEmpty => exact (polledAt_rest ..).trans (polledAt_makeEmpty ..)
  | ready => exact (polledAt_rest ..).trans (polledAt_makeReady ..)

@[simp] theorem polledAt_derive : (s.derive l).polledAt q = s.polledAt q := polledAt_follow ..

@[simp] theorem polledAt_release : (s.release l).polledAt q = s.polledAt q := by
  unfold State.release
  repeat' split
  · rfl
  · simp
  · exact polledAt_issueCycle ..
  · rfl

@[simp] theorem polledAt_clearReason (r : Reason) : (s.clearReason r l).polledAt q = s.polledAt q := by
  unfold State.clearReason
  split
  · exact polledAt_release ..
  · rfl

theorem polledAt_returnLane (power : Power) : (s.returnLane l power).polledAt q = s.polledAt q := by
  have dropped : (s.dropInHand l).polledAt q = s.polledAt q := rfl
  simp only [State.returnLane]
  generalize s.dropInHand l = u at dropped
  rw [← dropped]
  have powered := polledAt_when q u (decide (power = .off)) (polledAt_sendPowerOn q u l)
  repeat' split
  · rw [polledAt_enter, polledAt_issueRead, polledAt_modMachine, powered]
  · rw [polledAt_when _ _ _ (polledAt_serviceOut ..), polledAt_enter, polledAt_forgetDeck, powered]
  · exact polledAt_serviceOut ..
  · simp
  · exact polledAt_wake ..
  · simp

end Polled

end Sys2Proof.Machine
end

section
/-! SUPPORT. A HELLO answer that attaches a station (R86, R120, R146). -/

namespace Sys2Proof.Machine

/-! ### What the attachment of a station leaves as its HELLO answer set it -/

/-- The fields of a station table entry that no operation of PSV or BRM changes. -/
def Station.entry (t : Station) : StationClass × Fitted × Nat × Bool × Option Byte :=
  (t.cls, t.fitted, t.missed, t.ordersOwed, t.lastEvent)

/-- From s to t pair p's station stays polled or not, its entry and the bus stand, no queue moves, and nothing elsewhere
changes. -/
structure State.PairKeeps (p : PairIx) (s t : State) : Prop where
  polled : t.polledAt p = s.polledAt p
  entry : (t.station p).entry = (s.station p).entry
  bus : t.bus = s.bus
  queues : ∀ k, (t.lane k).queue = (s.lane k).queue
  elsewhere : t.elsewhere (some p) = s.elsewhere (some p)

theorem outside_darkTest_pair (s : State) (p : PairIx) : (s.darkTest p).outside (laneA p) = s.outside (laneA p) := by
  have own : pairOf (laneA p) = p := pairOf_laneOf p .a
  have kept := outside_darkTest (laneA p) s
  rwa [own] at kept

theorem entry_of_outside {l : LaneIx} {s t : State} (h : t.outside l = s.outside l) (p : PairIx) :
    (t.station p).entry = (s.station p).entry := by
  by_cases e : p = pairOf l
  · rw [e, State.station, pair_self_of_outside h]
    rfl
  · rw [State.station, pair_of_outside h e, State.station]

theorem polledAt_raiseReason (q : PairIx) (s : State) (r : Reason) (time : DateTime) (l : LaneIx) :
    (s.raiseReason r time l).polledAt q = s.polledAt q := by
  unfold State.raiseReason
  split <;> rfl

namespace State.PairKeeps

variable {p : PairIx} {s t u : State}

theorem refl (p : PairIx) (s : State) : s.PairKeeps p s := ⟨rfl, rfl, rfl, fun _ => rfl, rfl⟩

variable (h : s.PairKeeps p t)

include h

theorem trans (h' : t.PairKeeps p u) : s.PairKeeps p u where
  polled := h'.polled.trans h.polled
  entry := h'.entry.trans h.entry
  bus := h'.bus.trans h.bus
  queues k := (h'.queues k).trans (h.queues k)
  elsewhere := h'.elsewhere.trans h.elsewhere

theorem of_outside {l : LaneIx} (own : pairOf l = p) (outside : u.outside l = t.outside l) (polled : u.polledAt p = t.polledAt p) :
    s.PairKeeps p u :=
  h.trans ⟨polled, entry_of_outside outside p, bus_of_outside outside, queue_of_outside outside,
    elsewhere_of_outside own outside⟩

theorem report (r : Report) : s.PairKeeps p (t.report r) := h.trans ⟨rfl, rfl, rfl, fun _ => rfl, rfl⟩

theorem modReturn (f : ReturnRec → ReturnRec) : s.PairKeeps p (t.modReturn p f) :=
  h.trans ⟨polledAt_modReturn .., by rw [station_modReturn], rfl, fun _ => rfl, elsewhere_modReturn ..⟩

theorem when (c : Bool) {f : State → State} (hf : s.PairKeeps p (f t)) : s.PairKeeps p (t.when c f) :=
  State.when_preserves (s.PairKeeps p) c f t h fun _ _ => hf

theorem setLift (o : LiftOrder) : s.PairKeeps p (t.setLift p o) :=
  h.trans ⟨polledAt_setLift .., by rw [State.setLift, State.station_modStation_self]; rfl, rfl, fun _ => rfl, elsewhere_setLift ..⟩

theorem darkTest : s.PairKeeps p (t.darkTest p) :=
  h.of_outside (pairOf_laneOf p .a) (outside_darkTest_pair t p) (polledAt_darkTest ..)

theorem modMachine {l : LaneIx} (own : pairOf l = p) (f : MachineRec → MachineRec) : s.PairKeeps p (t.modMachine l f) :=
  h.of_outside own (outside_modMachine l f t) rfl

theorem enter {l : LaneIx} (own : pairOf l = p) (st : MachineState) : s.PairKeeps p (t.enter l st) :=
  h.of_outside own (outside_enter l st t) (polledAt_enter ..)

theorem raiseReason (r : Reason) (time : DateTime) {l : LaneIx} (own : pairOf l = p) : s.PairKeeps p (t.raiseReason r time l) :=
  h.of_outside own (outside_raiseReason l r time t) (polledAt_raiseReason ..)

theorem raiseBoth (r : Reason) : s.PairKeeps p (t.raiseBoth r p) :=
  (h.raiseReason r _ (pairOf_laneOf p .a)).raiseReason r _ (pairOf_laneOf p .b)

theorem clearReason (r : Reason) {l : LaneIx} (own : pairOf l = p) : s.PairKeeps p (t.clearReason r l) :=
  h.of_outside own (outside_clearReason l r t) (polledAt_clearReason ..)

theorem clearBoth (r : Reason) : s.PairKeeps p (t.clearBoth r p) :=
  (h.clearReason r (pairOf_laneOf p .a)).clearReason r (pairOf_laneOf p .b)

theorem pauseTest : s.PairKeeps p (t.pauseTest p) := by
  simp only [State.pauseTest]
  repeat' split
  · exact h.setLift _
  · exact h
  · exact h
  · exact (h.setLift _).when _ ((h.setLift _).modReturn _)

theorem seedReturn (rack : Nat) : s.PairKeeps p (t.seedReturn p rack) := by
  have off := ((h.when (!(t.ret p).track.isEmpty) (h.report (.unaccounted p (t.writtenOff p)))).modReturn
    fun x => { x with track := [] }).clearBoth .returnBacklog
  have tested := ((off.when (t.ret p).jamStanding (off.clearBoth .returnJam)).modReturn
    fun x => { x with jamStanding := false, rack := min x.rackMax rack, outOfReach := false, oldest := 0 }).pauseTest
  exact tested.when _ tested.darkTest

theorem returnLane {l : LaneIx} (own : pairOf l = p) (power : Power) : s.PairKeeps p (t.returnLane l power) :=
  h.of_outside own (outside_returnLane l power t) (polledAt_returnLane ..)

end State.PairKeeps

/-! ### The return record seeded (R146) -/

theorem ret_darkTest (s : State) (p q : PairIx) : (s.darkTest p).ret q = s.ret q :=
  ret_of_outside (outside_darkTest_pair s p) q

theorem ret_clearBoth (s : State) (r : Reason) (p q : PairIx) : (s.clearBoth r p).ret q = s.ret q :=
  (ret_of_outside (outside_clearReason (laneB p) r _) q).trans (ret_of_outside (outside_clearReason (laneA p) r s) q)

theorem ret_modReturn (s : State) (p : PairIx) (f : ReturnRec → ReturnRec) : (s.modReturn p f).ret p = f (s.ret p) := by
  rw [State.ret, State.pair_modReturn_self, State.ret]

/-- A return record without its oldest count, which the pause test restarts. -/
def ReturnRec.ageless (t : ReturnRec) : ReturnRec := { t with oldest := 0 }

/-- The pause test changes of the record its oldest count alone. -/
theorem ret_pauseTest (s : State) (p : PairIx) : ((s.pauseTest p).ret p).ageless = (s.ret p).ageless := by
  have lifted (o : LiftOrder) : (s.setLift p o).ret p = s.ret p := by rw [State.ret, State.setLift, State.pair_modStation_self, State.ret]
  simp only [State.pauseTest]
  repeat' split
  · rw [lifted]
  · rfl
  · rfl
  · rw [State.when_keeps (fun u : State => (u.ret p).ageless), lifted]
    rw [ret_modReturn, lifted]
    rfl

theorem ret_seedReturn (s : State) (p : PairIx) (rack : Nat) : ((s.seedReturn p rack).ret p).ageless
    = { s.ret p with track := [], jamStanding := false, rack := min (s.ret p).rackMax rack, outOfReach := false, oldest := 0 } := by
  have told := State.when_keeps (fun u : State => u.ret p) (!(s.ret p).track.isEmpty) (State.report (.unaccounted p (s.writtenOff p))) s rfl
  simp only [State.seedReturn]
  rw [State.when_keeps (fun u : State => u.ret p) _ _ _ (ret_darkTest _ p p), ret_pauseTest, ret_modReturn,
    State.when_keeps (fun u : State => u.ret p) _ _ _ (ret_clearBoth _ .returnJam p p), State.writeOff, ret_clearBoth, ret_modReturn, told]
  rfl

/-! ### The machines of the pair meanwhile -/

theorem machine_clearReason {s : State} (r : Reason) (l k : LaneIx) (h : (s.machine k).state ≠ .waiting) :
    (s.clearReason r l).machine k = s.machine k := by
  by_cases e : k = l
  · subst e
    unfold State.clearReason
    split
    · have kept : (s.modLane k fun x => { x with gate := x.gate.put r none }).machine k = s.machine k := machine_modLane s k _ rfl
      rw [release_of_not_waiting (by rw [kept]; exact h), kept]
    · rfl
  · rw [State.machine, lane_of_outside (outside_clearReason l r s) e, State.machine]

theorem machine_clearBoth {s : State} (r : Reason) (p : PairIx) (k : LaneIx) (h : (s.machine k).state ≠ .waiting) :
    (s.clearBoth r p).machine k = s.machine k := by
  have cleared := machine_clearReason r (laneA p) k h
  exact (machine_clearReason r (laneB p) k (by rw [cleared]; exact h)).trans cleared

theorem machine_pauseTest (s : State) (p : PairIx) (k : LaneIx) : (s.pauseTest p).machine k = s.machine k := by
  simp only [State.pauseTest]
  repeat' split
  · rfl
  · rfl
  · rfl
  · exact machine_when _ _ _ k rfl

/-- The reasons cleared release no lane but one WAITING. -/
theorem machine_seedReturn {s : State} (p : PairIx) (rack : Nat) (k : LaneIx) (h : (s.machine k).state ≠ .waiting) :
    (s.seedReturn p rack).machine k = s.machine k := by
  have told : (s.when (!(s.ret p).track.isEmpty) (State.report (.unaccounted p (s.writtenOff p)))).machine k = s.machine k :=
    machine_when _ _ _ k rfl
  simp only [State.seedReturn]
  generalize State.when (!(s.ret p).track.isEmpty) _ s = u at told
  have empty : (u.modReturn p fun x => { x with track := [] }).machine k = s.machine k := told
  have off : (u.writeOff p).machine k = s.machine k := (machine_clearBoth .returnBacklog p k (by rw [empty]; exact h)).trans empty
  have unjammed : ((u.writeOff p).when (s.ret p).jamStanding (State.clearBoth .returnJam p)).machine k = s.machine k :=
    (machine_when _ _ _ k (machine_clearBoth .returnJam p k (by rw [off]; exact h))).trans off
  rw [machine_when _ _ _ k (machine_darkTest _ _ _), machine_pauseTest]
  exact unjammed

end Sys2Proof.Machine
end

section
/-! SUPPORT. The state of a station attached, and the return of its lanes (R86, R87, R95, R120). -/

namespace Sys2Proof.Machine

/-- What the HELLO answer a of pair p has attached: its class, its fitted lanes and its rack count, with nothing missed, the
track empty, no jam standing and the pair in reach; nothing elsewhere changes. -/
structure State.Attached (p : PairIx) (a : HelloAnswer) (s t : State) : Prop where
  polled : (t.station p).state.polled = true
  cls : (t.station p).cls = a.cls
  fitted : (t.station p).fitted = a.fitted
  missed : (t.station p).missed = 0
  track : (t.ret p).track = []
  jam : (t.ret p).jamStanding = false
  reach : (t.ret p).outOfReach = false
  rack : (t.ret p).rack = min ((s.ret p).threshold + 2) a.rackCount.toNat
  idle : t.bus.exchange = none
  lanes : ∀ k : LaneIx, pairOf k ≠ p → t.lane k = s.lane k
  pairs : ∀ q : PairIx, q ≠ p → t.pair q = s.pair q

/-- The entry written, its DARK test made and the return record seeded. -/
def State.seeded (p : PairIx) (a : HelloAnswer) (pass : Bool) (s : State) : State :=
  ((s.modStation p (Station.attach a pass)).darkTest p).seedReturn p a.rackCount.toNat

section Seeded

variable (s : State) (p : PairIx) (a : HelloAnswer) (pass : Bool)

theorem station_written : (s.modStation p (Station.attach a pass)).station p = (s.station p).attach a pass := State.station_modStation_self ..

theorem seeded_keeps : (s.modStation p (Station.attach a pass)).PairKeeps p (s.seeded p a pass) :=
  (State.PairKeeps.refl p _).darkTest.seedReturn _

theorem ret_seeded : ((s.seeded p a pass).ret p).ageless = { s.ret p with
    track := [], jamStanding := false, rack := min (s.ret p).rackMax a.rackCount.toNat, outOfReach := false, oldest := 0 } := by
  have written : ((s.modStation p (Station.attach a pass)).darkTest p).ret p = s.ret p := by
    rw [ret_darkTest, State.ret, State.pair_modStation_self, State.ret]
  rw [State.seeded, ret_seedReturn, written]

variable {s p a pass}

/-- What keeps the entry as seeded, and the return record but for its oldest count, has the station attached. -/
theorem State.PairKeeps.attached {t : State} (keeps : (s.seeded p a pass).PairKeeps p t)
    (ret : (t.ret p).ageless = ((s.seeded p a pass).ret p).ageless) (idle : s.bus.exchange = none) : s.Attached p a t := by
  obtain ⟨polled, entry, bus, -, elsewhere⟩ := (seeded_keeps s p a pass).trans keeps
  rw [ret_seeded] at ret
  rw [station_written] at entry
  have written : (s.modStation p (Station.attach a pass)).polledAt p = true := by rw [State.polledAt, station_written]; rfl
  have same := elsewhere.trans (elsewhere_modStation s p _)
  exact {
    polled := polled.trans written
    cls := congrArg (·.1) entry
    fitted := congrArg (·.2.1) entry
    missed := congrArg (·.2.2.1) entry
    track := congrArg ReturnRec.track ret
    jam := congrArg ReturnRec.jamStanding ret
    reach := congrArg ReturnRec.outOfReach ret
    rack := congrArg ReturnRec.rack ret
    idle := (congrArg Bus.exchange bus).trans idle
    lanes := fun _ other => lane_of_elsewhere same fun e => other (Option.some.inj e).symm
    pairs := fun _ other => pair_of_elsewhere same fun e => other (Option.some.inj e).symm }

theorem State.Attached.report {t : State} (h : s.Attached p a t) (r : Report) : s.Attached p a (t.report r) :=
  ⟨h.polled, h.cls, h.fitted, h.missed, h.track, h.jam, h.reach, h.rack, h.idle, h.lanes, h.pairs⟩

end Seeded

/-! ### An attachment in the discovery pass (R85, R86) -/

section Hello

variable {s : State} {p : PairIx} {a : HelloAnswer} (address : a.address = pairNumber p)

include address

theorem helloIn_of_probe {reason : ProbeReason} (exchange : s.bus.exchange = some ⟨p, .probe reason⟩) (within : reason ≠ .discovery ∨ p ≠ 7) :
    s.helloIn a = s.closeExchange.hello ⟨p, .probe reason⟩ a := by
  have stays : (decide (ExchangeKind.probe reason = .probe .discovery) && decide (p = 7)) = false := by
    obtain other | other := within
    · rw [decide_eq_false fun e => other (ExchangeKind.probe.inj e), Bool.false_and]
    · rw [decide_eq_false other, Bool.and_false]
  simp only [State.helloIn, exchange, address, if_true, State.passOver, stays, State.when_false]

theorem helloIn_in_pass (exchange : s.bus.exchange = some ⟨p, .probe .discovery⟩) (within : p ≠ 7) (absent : (s.station p).state = .absent) :
    s.helloIn a = s.closeExchange.seeded p a true := by
  rw [helloIn_of_probe address exchange (.inr within)]
  exact if_pos absent

/-! ### The return of a station that was LOST (R87, R120) -/

/-- The fitted lanes returned with the power states the answer reports. -/
def State.returned (p : PairIx) (a : HelloAnswer) (s : State) : State :=
  s.each (s.fittedLanes p) fun l u => u.returnLane l (reportedPower a (sideOf l))

omit address in
theorem returned_keeps (s : State) (p : PairIx) (a : HelloAnswer) : s.PairKeeps p (s.returned p a) :=
  State.each_preserves (s.PairKeeps p) _ _ (fun _ hl _ hu => hu.returnLane ((mem_fittedLanes s p _).1 hl).1 _) s (.refl p s)

omit address in
theorem ret_returned (s : State) (p : PairIx) (a : HelloAnswer) : (s.returned p a).ret p = s.ret p :=
  State.each_preserves (fun u => u.ret p = s.ret p) _ _ (fun l _ u hu => (ret_of_outside (outside_returnLane l _ u) p).trans hu) s rfl

/-- A LOST station's return owes no removal orders where its entry owes none (R134). -/
theorem helloIn_of_lost (exchange : s.bus.exchange = some ⟨p, .probe .reprobe⟩) (lost : (s.station p).state = .lost)
    (orders : (s.station p).ordersOwed = false) :
    s.helloIn a = ((s.closeExchange.seeded p a false).returned p a).report (.stationBack p .return_ a.cls a.fitted) := by
  have kept : (s.closeExchange.station p).state = .lost := lost
  have entry := ((seeded_keeps s.closeExchange p a false).trans (returned_keeps _ p a)).entry
  rw [station_written] at entry
  have none_owed : (((s.closeExchange.seeded p a false).returned p a).station p).ordersOwed = false :=
    (congrArg (·.2.2.2.1) entry).trans orders
  have late : ((s.closeExchange.seeded p a false).returned p a).lateOrders p = (s.closeExchange.seeded p a false).returned p a := by
    rw [State.lateOrders, none_owed, State.when_false]
  rw [helloIn_of_probe address exchange (.inl nofun)]
  simp only [State.hello, kept]
  exact congrArg (State.report (.stationBack p .return_ a.cls a.fitted)) late

end Hello

/-! ### A lane returned with its power OFF (R120) -/

theorem wakeForHead_of_no_head {s : State} {l : LaneIx} (h : s.headTurn l = none) : s.wakeForHead l = s := by
  rw [State.wakeForHead, h]
  rfl

/-- A lane with no ball, no jam standing and in service, whose power the answer reports OFF, goes to POWERED_DOWN. -/
theorem returnLane_off {s : State} {l : LaneIx} (ball : (s.machine l).ball = none) (jam : (s.machine l).jamStanding = false)
    (service : (s.machine l).service = .in_) : s.returnLane l .off
      = ((((s.dropInHand l).modMachine l fun m => { m with warmed := false }).forgetDeck l).enter l .poweredDown).wakeForHead l := by
  have hand : (s.dropInHand l).machine l = { s.machine l with inFlight := none, timer := none, pendingCycle := none } :=
    State.machine_modMachine_self ..
  simp only [State.returnLane, hand, ball, jam, service, Bool.false_eq_true, if_false, reduceCtorEq]

@[simp] theorem MachineRec.enter_deck (st : MachineState) (m : MachineRec) : (m.enter st).deck = m.deck := by
  unfold MachineRec.enter
  split <;> rfl

@[simp] theorem MachineRec.enter_warmed (st : MachineState) (m : MachineRec) : (m.enter st).warmed = m.warmed := by
  unfold MachineRec.enter
  split <;> rfl

/-- Where no turn wakes it, it stays there, its deck unknown and its machine cold. -/
theorem machine_returnLane_off {s : State} {l : LaneIx} (head : s.headTurn l = none) (ball : (s.machine l).ball = none)
    (jam : (s.machine l).jamStanding = false) (service : (s.machine l).service = .in_) :
    ((s.returnLane l .off).machine l).state = .poweredDown ∧ ((s.returnLane l .off).machine l).deck = .unknown
      ∧ ((s.returnLane l .off).machine l).warmed = false := by
  have down := returnLane_off ball jam service
  rw [wakeForHead_of_no_head] at down
  · rw [down, machine_enter, MachineRec.enter_state, MachineRec.enter_deck, MachineRec.enter_warmed, State.forgetDeck,
      State.machine_modMachine_self, State.machine_modMachine_self]
    exact ⟨rfl, rfl, rfl⟩
  · have same : ((((s.dropInHand l).modMachine l fun m => { m with warmed := false }).forgetDeck l).enter l .poweredDown).outside l
        = s.outside l := by simp [State.forgetDeck, State.dropInHand]
    exact (congrArg List.head? (queue_of_outside same l)).trans head

/-- A fitted lane that was LINK_LOST with nothing in hand, its power reported OFF, is POWERED_DOWN when its station is back. -/
theorem machine_returned_off {s : State} {p : PairIx} {a : HelloAnswer} {k : LaneIx} (fitted : k ∈ s.fittedLanes p)
    (power : reportedPower a (sideOf k) = .off) (head : s.headTurn k = none) (ball : (s.machine k).ball = none)
    (jam : (s.machine k).jamStanding = false) (service : (s.machine k).service = .in_) :
    ((s.returned p a).machine k).state = .poweredDown ∧ ((s.returned p a).machine k).deck = .unknown
      ∧ ((s.returned p a).machine k).warmed = false := by
  have away {l : LaneIx} (ne : l ≠ k) (u : State) (o : Power) : (u.returnLane l o).machine k = u.machine k := by
    rw [State.machine, lane_of_outside (outside_returnLane l o u) ne.symm, State.machine]
  refine State.each_reaches (P := fun u => u.machine k = s.machine k ∧ u.headTurn k = none)
    (Q := fun u => (u.machine k).state = .poweredDown ∧ (u.machine k).deck = .unknown ∧ (u.machine k).warmed = false)
    (nodup_fittedLanes s p) fitted (fun l ne u hu => ⟨(away ne u _).trans hu.1, ?_⟩) (fun u hu => ?_) (fun l ne u hu => ?_) ⟨rfl, head⟩
  · exact (congrArg List.head? (queue_of_outside (outside_returnLane l _ u) k)).trans hu.2
  · obtain ⟨machine, idle⟩ := hu
    rw [power]
    exact machine_returnLane_off idle (by rw [machine, ball]) (by rw [machine, jam]) (by rw [machine, service])
  · rw [away ne]
    exact hu

/-- The lanes of a pair have the machines they had while its station was written and its return record seeded. -/
theorem machine_seeded {s : State} {p : PairIx} {a : HelloAnswer} {pass : Bool} {k : LaneIx} (h : (s.machine k).state = .linkLost) :
    (s.seeded p a pass).machine k = s.machine k := by
  have written : ((s.modStation p (Station.attach a pass)).darkTest p).machine k = s.machine k := machine_darkTest ..
  rw [State.seeded, machine_seedReturn _ _ _ (by rw [written, h]; nofun), written]

/-- The same of a lane that the answer has fitted, from the state before its station was back. -/
theorem machine_back_off {s : State} {p : PairIx} {a : HelloAnswer} {side : Side} (fits : fittedHas a.fitted side = true)
    (power : reportedPower a side = .off) (head : s.headTurn (laneOf p side) = none) (linkLost : (s.machine (laneOf p side)).state = .linkLost)
    (ball : (s.machine (laneOf p side)).ball = none) (jam : (s.machine (laneOf p side)).jamStanding = false)
    (service : (s.machine (laneOf p side)).service = .in_) :
    let t := (s.seeded p a false).returned p a
    (t.machine (laneOf p side)).state = .poweredDown ∧ (t.machine (laneOf p side)).deck = .unknown
      ∧ (t.machine (laneOf p side)).warmed = false := by
  have keeps := seeded_keeps s p a false
  have machine := machine_seeded (p := p) (a := a) (pass := false) linkLost
  have entry := keeps.entry
  rw [station_written] at entry
  have fitted : ((s.seeded p a false).station p).fitted = a.fitted := congrArg (·.2.1) entry
  have member : laneOf p side ∈ (s.seeded p a false).fittedLanes p :=
    (mem_fittedLanes _ p _).2 ⟨pairOf_laneOf p side, by rw [sideOf_laneOf, fitted, fits]⟩
  exact machine_returned_off member (by rw [sideOf_laneOf, power]) ((congrArg List.head? (keeps.queues _)).trans head) (by rw [machine, ball])
    (by rw [machine, jam]) (by rw [machine, service])

/-- Settles O48, by the missed polls counted and the entry a HELLO answer writes. -/
theorem answersMissedAndHello : Obligations.AnswersMissedAndHello := by
  unfold Obligations.AnswersMissedAndHello
  intro s p free
  have run (f : State → State) : Host.Outcome.next (State.live f s) = (Host.Outcome.next (f s) : Host.Outcome State Fault Refusal) :=
    congrArg Host.Outcome.next (State.live_of_free free f)
  refine ⟨fun exchange polled => ⟨fun below _ => ⟨_, rfl, ?_⟩, fun third => ⟨s.closeExchange.loseStation p, ?_, ?_⟩⟩,
    fun a address => ⟨fun exchange within absent => ⟨s.closeExchange.seeded p a true, ?_, ?_⟩, fun exchange lost orders => ⟨_, run _, ?_, ?_⟩⟩⟩
  · exact (run State.windowOut).trans (congrArg _ ((windowOut_below exchange polled below).trans rfl))
  · exact (run State.windowOut).trans (congrArg _ (windowOut_third exchange polled third))
  · have station := station_loseStation s.closeExchange p
    have ret := ret_loseStation s.closeExchange p
    have same := elsewhere_loseStation s.closeExchange p
    exact ⟨congrArg Station.state station, congrArg Station.missed station, congrArg Station.commandA station,
      congrArg Station.commandB station, congrArg Station.lastEvent station, congrArg ReturnRec.outOfReach ret,
      (congrArg ReturnRec.track ret).trans rfl, fun l hl => machine_loseStation (s := s.closeExchange) hl,
      fun k other => lane_of_elsewhere same fun e => other (Option.some.inj e).symm,
      fun q other => pair_of_elsewhere same fun e => other (Option.some.inj e).symm⟩
  · exact (run (State.helloIn a)).trans (congrArg _ (helloIn_in_pass address exchange within absent))
  · obtain ⟨polled, cls, fitted, missed, track, jam, reach, rack, idle, lanes, pairs⟩ :=
      (State.PairKeeps.refl p (s.closeExchange.seeded p a true)).attached rfl rfl
    exact ⟨polled, cls, fitted, missed, track, jam, reach, rack, idle, lanes, pairs⟩
  all_goals rw [helloIn_of_lost address exchange lost orders]
  · obtain ⟨polled, cls, fitted, missed, track, jam, reach, rack, idle, lanes, pairs⟩ :=
      ((returned_keeps (s.closeExchange.seeded p a false) p a).attached (congrArg ReturnRec.ageless (ret_returned _ p a)) rfl).report
        (.stationBack p .return_ a.cls a.fitted)
    exact ⟨polled, cls, fitted, missed, track, jam, reach, rack, idle, lanes, pairs⟩
  · intro side fits power head linkLost ball jam service
    simp only [machine_report]
    exact machine_back_off (s := s.closeExchange) fits power head linkLost ball jam service

end Sys2Proof.Machine
end

section
/-! SUPPORT. A lane moved on by R108 with no removal and no power-off pending, and an outcome taken (R108, R125). -/

namespace Sys2Proof.Machine

/-! ### The report queue with room (R176, R177) -/

/-- From the link k to k' at most n reports more; where there is room for them, none fewer. -/
structure Link.Grew (n : Nat) (k k' : Link) : Prop where
  length : k'.reports.length ≤ k.reports.length + n
  keeps : k.reports.length + n ≤ 48 → ∀ x ∈ k.reports, x ∈ k'.reports

theorem Link.Grew.refl (k : Link) : k.Grew 0 k := ⟨Nat.le_refl _, fun _ _ => id⟩

theorem Link.Grew.trans {m n : Nat} {k k' k'' : Link} (h : k.Grew m k') (h' : k'.Grew n k'') : k.Grew (m + n) k'' where
  length := by
    have := h.length
    have := h'.length
    omega
  keeps room x hx := h'.keeps (by have := h.length; omega) x (h.keeps (by omega) x hx)

theorem Link.Grew.mono {m n : Nat} {k k' : Link} (h : k.Grew m k') (le : m ≤ n) : k.Grew n k' :=
  ⟨h.length.trans (Nat.add_le_add_left le _), fun room => h.keeps (by omega)⟩

section Grew

variable (s : State) (l : LaneIx)

theorem grew_report (r : Report) : s.link.Grew 1 (s.report r).link where
  length := by
    show (Link.queue r s.link).reports.length ≤ _
    unfold Link.queue
    split
    · simp [insertReport_length]
    · split
      · exact Nat.le_succ _
      · split
        · simp only [Link.lose_reports, insertReport_length, List.length_dropLast]
          omega
        · exact Nat.le_succ _
  keeps room x hx := by
    show x ∈ (Link.queue r s.link).reports
    rw [Link.queue, if_pos (by simp only [Config.reportCapacity]; omega)]
    exact (mem_insertReport _ _ _).2 (.inr hx)

theorem grew_when (c : Bool) {f : State → State} {n : Nat} (h : s.link.Grew n (f s).link) : s.link.Grew n (s.when c f).link := by
  obtain e | e := State.when_cases c f s <;> rw [e]
  · exact h
  · exact (Link.Grew.refl _).mono (Nat.zero_le n)

theorem grew_reports (rs : List Report) : s.link.Grew rs.length (s.each rs State.report).link := by
  induction rs generalizing s with
  | nil => exact Link.Grew.refl _
  | cons r rs ih => exact ((grew_report s r).trans (ih (s.report r))).mono (by simp [Nat.add_comm])

theorem grew_enter (st : MachineState) : s.link.Grew 1 (s.enter l st).link := by
  rw [State.enter, ← link_enterSilent s l st]
  exact grew_when _ _ (grew_report _ _)

theorem grew_outcome (o : CycleOutcome) : s.link.Grew 4 (s.outcome l o).link := by
  refine (grew_reports (s.modLane l _) _).mono (((List.length_filterMap_le _ _).trans (List.length_filter_le _ _)).trans ?_)
  exact List.length_filter_le (α := Attribute) _ laneAttributes

end Grew

/-! ### A lane's record through the operations of R108 and R109 -/

section Lane

variable (s : State) (l : LaneIx)

theorem lane_enter (st : MachineState) : (s.enter l st).lane l = { s.lane l with machine := (s.machine l).enter st } := by
  rw [State.enter, State.when_keeps (fun u : State => u.lane l) _ _ _ rfl, State.enterSilent,
    State.when_keeps (fun u : State => u.lane l) _ _ _ (lane_darkTest ..), State.lane_modMachine_self]
  rfl

theorem lane_handCommand (c : BusCommand) (k : LaneIx) : (s.handCommand l c).lane k = s.lane k := by
  simp only [State.handCommand]
  split <;> rfl

@[simp] theorem MachineRec.enter_rerack (st : MachineState) (m : MachineRec) : (m.enter st).rerack = m.rerack := by
  unfold MachineRec.enter
  split <;> rfl

@[simp] theorem MachineRec.enter_jamStanding (st : MachineState) (m : MachineRec) : (m.enter st).jamStanding = m.jamStanding := by
  unfold MachineRec.enter
  split <;> rfl

@[simp] theorem MachineRec.enter_onTime (st : MachineState) (m : MachineRec) : (m.enter st).onTime = m.onTime := by
  unfold MachineRec.enter
  split <;> rfl

@[simp] theorem MachineRec.enter_powerOffPending (st : MachineState) (m : MachineRec) :
    (m.enter st).powerOffPending = m.powerOffPending := by
  unfold MachineRec.enter
  split <;> rfl

end Lane

/-! ### What R108 derives, taken -/

/-- The fields of a machine that no outcome of R108 changes. -/
def MachineRec.stands (m : MachineRec) : Deck × Bool × Bool × Nat × Removal × Bool :=
  (m.deck, m.jamStanding, m.warmed, m.onTime, m.removal, m.powerOffPending)

/-- From s to t lane l takes an outcome that R108 derives: of its record only the machine moves, and at most one report is
queued. -/
structure State.Follows (s t : State) (l : LaneIx) (d : Derived) : Prop where
  lane : t.lane l = { s.lane l with machine := t.machine l }
  stands : (t.machine l).stands = (s.machine l).stands
  took : s.took t l d
  grew : s.link.Grew 1 t.link

section Follows

variable {s : State} {l : LaneIx}

/-- A machine record changed and then a state entered. -/
theorem follows_of_enter {t v : State} {d : Derived} {m : MachineRec} {st : MachineState} (state : t = v.enter l st)
    (lane : v.lane l = { s.lane l with machine := m }) (stands : m.stands = (s.machine l).stands) (link : v.link = s.link)
    (took : t.machine l = m.enter st → s.took t l d) : s.Follows t l d := by
  have record : t.lane l = { s.lane l with machine := m.enter st } := by
    rw [state, lane_enter, State.machine, lane]
  have machine : t.machine l = m.enter st := congrArg Lane.machine record
  refine ⟨by rw [machine, record], ?_, took machine, link ▸ state ▸ grew_enter v l st⟩
  rw [machine, ← stands]
  simp only [MachineRec.stands, MachineRec.enter_deck, MachineRec.enter_jamStanding, MachineRec.enter_warmed, MachineRec.enter_onTime,
    MachineRec.enter_removal, MachineRec.enter_powerOffPending]

theorem holdCycle_follows (c : Cycle) (served : Bool) {d : Derived} (took : ∀ t : State, (t.machine l).state = .waiting →
    (t.machine l).pendingCycle = some ⟨c, served, s.headTurn l, s.headNeed l⟩ → s.took t l d) : s.Follows (s.holdCycle l c served) l d :=
  follows_of_enter rfl (State.lane_modMachine_self ..) rfl rfl fun machine => took _ (by rw [machine, MachineRec.enter_state])
    (by rw [machine, MachineRec.enter_pendingCycle])

theorem makeReady_follows {d : Derived} (took : ∀ t : State, (t.machine l).state = .ready → (t.machine l).pendingCycle = none → s.took t l d) :
    s.Follows (s.makeReady l) l d :=
  follows_of_enter rfl (State.lane_modMachine_self ..) rfl rfl fun machine => took _ (by rw [machine, MachineRec.enter_state])
    (by rw [machine, MachineRec.enter_pendingCycle])

theorem makeEmpty_follows : s.Follows (s.makeEmpty l) l .deckEmpty :=
  follows_of_enter rfl (State.lane_modMachine_self ..) rfl rfl fun machine => ⟨by rw [machine, MachineRec.enter_state],
    by rw [machine, MachineRec.enter_pendingCycle]⟩

theorem issueCycle_follows (c : Cycle) (clear : (s.gate l).blocks c = false) :
    s.Follows (s.issueCycle l c (s.headTurn l) (s.headNeed l)) l (.start c) := by
  obtain ⟨state, pending, inFlight⟩ := machine_issueCycle s l c (s.headTurn l) (s.headNeed l)
  refine follows_of_enter rfl ((lane_handCommand ..).trans (State.lane_modMachine_self ..)) rfl (link_handCommand ..) fun _ => ?_
  show if (s.gate l).blocks c = true then _ else _
  rw [clear]
  exact ⟨state, inFlight, pending⟩

/-- With no removal and no power-off pending a lane at rest stays there (R115, R118). -/
theorem rest_of_unordered (removal : (s.machine l).removal = .unordered) (pending : (s.machine l).powerOffPending = false) :
    s.rest l = s := by
  simp [State.rest, removal, pending]

theorem startCycle_follows (c : Cycle) : s.Follows (s.startCycle l c) l (.start c) := by
  unfold State.startCycle
  split
  · rename_i blocked
    exact holdCycle_follows c false fun t state held => (if_pos blocked).mpr ⟨state, held⟩
  · exact issueCycle_follows c (Bool.eq_false_of_not_eq_true ‹_›)

theorem serve_follows (c : Cycle) : s.Follows (s.serve l c) l (.serve c) := by
  unfold State.serve
  split
  · rename_i blocked
    exact holdCycle_follows c true fun t state held => (if_pos blocked).mpr ⟨state, held⟩
  · rename_i clear
    exact makeReady_follows fun t state none_held => (if_neg clear).mpr ⟨state, none_held⟩

/-- The lane at rest after an outcome stays there. -/
theorem State.Follows.rest {t : State} {d : Derived} (h : s.Follows t l d) (removal : (s.machine l).removal = .unordered)
    (pending : (s.machine l).powerOffPending = false) : s.Follows (t.rest l) l d := by
  obtain ⟨-, -, -, -, removal', pending'⟩ : _ ∧ _ ∧ _ ∧ _ ∧ _ ∧ _ := by simpa only [MachineRec.stands, Prod.mk.injEq] using h.stands
  rw [rest_of_unordered (removal'.trans removal) (pending'.trans pending)]
  exact h

theorem follow_follows (removal : (s.machine l).removal = .unordered) (pending : (s.machine l).powerOffPending = false) (d : Derived) :
    s.Follows (s.follow l d) l d := by
  unfold State.follow
  cases d with
  | start c => exact (startCycle_follows c).rest removal pending
  | serve c => exact (serve_follows c).rest removal pending
  | deckEmpty => exact makeEmpty_follows.rest removal pending
  | ready => exact (makeReady_follows (d := .ready) fun _ state none_held => ⟨state, none_held⟩).rest removal pending

end Follows

end Sys2Proof.Machine
end

section
/-! SUPPORT. CYCLE_DONE and MACHINE_JAM, answered to a poll (R93, R107 to R111, R125). -/

namespace Sys2Proof.Machine

/-! ### The count of cycles (R125) -/

theorem cycles_testAll (attrs : List Attribute) (h : LaneHealth) : (h.testAll attrs).cycles.value = h.cycles.value := by
  have step (h : LaneHealth) (a : Attribute) : (match h.attr a with | none => h | some x => h.put a x.test).cycles.value = h.cycles.value := by
    cases a <;> rfl
  induction attrs generalizing h with
  | nil => rfl
  | cons a attrs ih => exact (ih _).trans (step h a)

theorem cycles_closeWindow (h : LaneHealth) : h.closeWindow.cycles = h.cycles := by
  unfold LaneHealth.closeWindow
  split <;> rfl

theorem cycles_take (o : CycleOutcome) (h : LaneHealth) : (h.take o).cycles.value = min 16777215 (h.cycles.value + 1) := by
  simp only [LaneHealth.take, cycles_closeWindow]
  split <;> rfl

/-! ### An outcome taken -/

section Outcome

variable (s : State) (l : LaneIx) (o : CycleOutcome)

/-- Of the lane an outcome changes the health record alone, and counts one cycle in it. -/
theorem lane_outcome : (s.outcome l o).lane l = { s.lane l with health := ((s.outcome l o).lane l).health }
    ∧ ((s.outcome l o).lane l).health.cycles.value = min 16777215 ((s.lane l).health.cycles.value + 1) := by
  have lane : (s.outcome l o).lane l
      = { s.lane l with health := ((s.lane l).health.take o).testAll (valuesChanged (s.lane l).health ((s.lane l).health.take o)) } :=
    (State.each_keeps (fun u : State => u.lane l) _ State.report (fun _ _ _ => rfl) _).trans (State.lane_modLane_self ..)
  exact ⟨by rw [lane], by rw [lane, cycles_testAll, cycles_take]⟩

theorem machine_outcome : (s.outcome l o).machine l = s.machine l := by rw [State.machine, (lane_outcome s l o).1, State.machine]

theorem outcomeOrders_of_report (policy : (s.lane l).health.policy = .report) : s.outcomeOrders l o = false := by
  simp [State.outcomeOrders, ordersRemoval, policy]

end Outcome

/-- The head's need depends on the queues and the rosters. -/
theorem headNeed_of_outside {l : LaneIx} {s t : State} (h : t.outside l = s.outside l) (k : LaneIx) : t.headNeed k = s.headNeed k := by
  have game (u : Turn) : t.standingNeed u = s.standingNeed u := by
    simp only [State.standingNeed, State.gameOf, State.bowler, roster_of_outside h]
  rw [State.headNeed, State.headNeed, State.headTurn, State.headTurn, queue_of_outside h, funext game]

/-- An outcome of R108 is taken alike from a state that differs in the lane's machine and health alone. -/
theorem took_of_outside {l : LaneIx} {s v t : State} (h : v.outside l = s.outside l) (gate : v.gate l = s.gate l) {d : Derived}
    (took : v.took t l d) : s.took t l d := by
  have head : v.headTurn l = s.headTurn l := congrArg List.head? (queue_of_outside h l)
  unfold State.took at took ⊢
  rwa [gate, head, headNeed_of_outside h l] at took

/-! ### CYCLE_DONE (R110) -/

/-- The lane as a completed cycle leaves it, its outcome taken and its fields set, before it is moved on. -/
def State.completed (l : LaneIx) (c : Cycle) (set : PinSet) (o : CycleOutcome) (s : State) : State :=
  (((s.modMachine l fun m => { m with inFlight := none, deck := deckOf set }).when (set ≠ c.commanded)
    (State.report (.respotMiss l c.commanded set))).outcome l o).modMachine l (MachineRec.complete c)

section Completed

variable (s : State) (l : LaneIx) (c : Cycle) (set : PinSet) (o : CycleOutcome)

theorem outside_completed : (s.completed l c set o).outside l = s.outside l := by
  rw [State.completed, outside_modMachine, outside_outcome, outside_when _ _ _ _ (outside_report ..), outside_modMachine]

theorem gate_completed : (s.completed l c set o).gate l = s.gate l := by
  simp [State.completed, gate_when]

theorem machine_completed : (s.completed l c set o).machine l
    = ({ s.machine l with inFlight := none, deck := deckOf set } : MachineRec).complete c := by
  rw [State.completed, State.machine_modMachine_self, machine_outcome, machine_when _ _ _ _ (machine_report ..),
    State.machine_modMachine_self]

theorem cycles_completed : ((s.completed l c set o).lane l).health.cycles.value = min 16777215 ((s.lane l).health.cycles.value + 1) := by
  rw [State.completed, State.lane_modMachine_self]
  refine (lane_outcome _ l o).2.trans ?_
  rw [State.when_keeps (fun u : State => u.lane l) _ _ _ rfl, State.lane_modMachine_self]

/-- A set other than the one commanded is reported, where the queue has room for it and what follows. -/
theorem respotMiss_completed (miss : set ≠ c.commanded) (room : s.link.reports.length < 40) :
    .respotMiss l c.commanded set ∈ (s.completed l c set o).link.reports ∧ (s.completed l c set o).link.reports.length ≤ 44 := by
  have ended : (s.modMachine l fun m => { m with inFlight := none, deck := deckOf set }).when (set ≠ c.commanded)
      (State.report (.respotMiss l c.commanded set))
      = (s.modMachine l fun m => { m with inFlight := none, deck := deckOf set }).report (.respotMiss l c.commanded set) :=
    if_pos (decide_eq_true miss)
  have told := grew_report (s.modMachine l fun m => { m with inFlight := none, deck := deckOf set }) (.respotMiss l c.commanded set)
  have taken := grew_outcome ((s.modMachine l fun m => { m with inFlight := none, deck := deckOf set }).report
    (.respotMiss l c.commanded set)) l o
  have length : _ ≤ s.link.reports.length + 1 := told.length
  have length' := taken.length
  rw [State.completed, ended]
  refine ⟨taken.keeps (by omega) _ (mem_queue _ ?_), length'.trans (by omega)⟩
  exact Nat.lt_of_lt_of_le room (by decide)

end Completed

theorem MachineRec.complete_of_cycle (c : Cycle) (m : MachineRec) : (m.complete c).removal = m.removal
    ∧ (m.complete c).powerOffPending = m.powerOffPending ∧ (m.complete c).deck = m.deck ∧ (m.complete c).inFlight = m.inFlight := by
  unfold MachineRec.complete
  split <;> exact ⟨rfl, rfl, rfl, rfl⟩

/-- The rerack mark of a cycle that is no RECOVER (R110 step 4). -/
theorem MachineRec.complete_rerack {c : Cycle} (other : c ≠ .recover) (m : MachineRec) :
    (m.complete c).rerack = if c = .fullRack .rerack then .set else m.rerack := by
  cases c with
  | recover => exact absurd rfl other
  | respot t => rfl
  | sweep => rfl
  | fullRack k => cases k <;> rfl

section CycleDone

variable {s : State} {l : LaneIx} {c : Cycle} {start : Reading} {length : Nat} {turn : Option Turn} {need : Option Need}

/-- A completed cycle of a lane with no removal ordered moves the lane on (R110). -/
theorem cycleDone_of_cycling (set : PinSet) (state : (s.machine l).state = .cycling)
    (inFlight : (s.machine l).inFlight = some ⟨.cycle c, start, length, turn, need⟩) (removal : (s.machine l).removal = .unordered)
    (policy : (s.lane l).health.policy = .report) : s.cycleDone l set
      = (s.completed l c set ⟨some c, true, min length (s.elapsed start), set ≠ c.commanded⟩).moveOn l c turn need := by
  simp only [State.cycleDone, state, inFlight, removal, outcomeOrders_of_report s l _ policy, State.when_false, reduceCtorEq, if_false]
  rfl

variable (removal : (s.machine l).removal = .unordered) (pending : (s.machine l).powerOffPending = false)

include removal pending

theorem derive_follows : s.Follows (s.derive l) l (derived (s.headNeed l) (s.machine l).deck (s.machine l).rerack) :=
  follow_follows removal pending _

/-- A rack or respot for the head and the need it was issued for serves them (R110). -/
theorem moveOn_served (sweep : c ≠ .sweep) (recover : c ≠ .recover) (head : s.headTurn l ≠ none) (same : s.headTurn l = turn)
    (needs : s.headNeed l = need) : s.moveOn l c turn need = s.makeReady l := by
  have serves : ((s.headTurn l).isSome && decide (turn = s.headTurn l) && decide (need = s.headNeed l)) = true := by
    rw [Option.isSome_iff_ne_none.2 head, decide_eq_true same.symm, decide_eq_true needs.symm]
    rfl
  have rested : (s.makeReady l).rest l = s.makeReady l := rest_of_unordered (by simp [State.makeReady, MachineRec.enter_removal, removal])
    (by simp [State.makeReady, pending])
  unfold State.moveOn
  cases c with
  | recover => exact absurd rfl recover
  | sweep => exact absurd rfl sweep
  | fullRack _ | respot _ => exact (if_pos serves).trans rested

omit removal pending in
/-- For another head or need, or for none, the lane's cycle is derived again (R110). -/
theorem moveOn_derives (sweep : c ≠ .sweep) (recover : c ≠ .recover)
    (other : s.headTurn l = none ∨ s.headTurn l ≠ turn ∨ s.headNeed l ≠ need) : s.moveOn l c turn need = s.derive l := by
  have serves : ((s.headTurn l).isSome && decide (turn = s.headTurn l) && decide (need = s.headNeed l)) = false := by
    obtain e | e | e := other
    · rw [e]
      rfl
    · rw [decide_eq_false e.symm, Bool.and_false, Bool.false_and]
    · rw [decide_eq_false e.symm, Bool.and_false]
  unfold State.moveOn
  cases c with
  | recover => exact absurd rfl recover
  | sweep => exact absurd rfl sweep
  | fullRack _ | respot _ => exact if_neg (by rw [serves]; exact Bool.false_ne_true)

omit removal pending in
theorem moveOn_sweep_head (head : s.headTurn l ≠ none) : s.moveOn l .sweep turn need = s.derive l :=
  if_pos (Option.isSome_iff_ne_none.2 head)

theorem moveOn_sweep_idle (head : s.headTurn l = none) : s.moveOn l .sweep turn need = s.makeEmpty l := by
  have rested : (s.makeEmpty l).rest l = s.makeEmpty l := rest_of_unordered (by simp [State.makeEmpty, MachineRec.enter_removal, removal])
    (by simp [State.makeEmpty, pending])
  exact (if_neg (by rw [head]; exact Bool.false_ne_true)).trans rested

/-- However it is moved on, the lane takes an outcome of R108. -/
theorem moveOn_follows : ∃ d, s.Follows (s.moveOn l c turn need) l d := by
  unfold State.moveOn
  split
  · exact ⟨_, derive_follows removal pending⟩
  · split
    · exact ⟨_, derive_follows removal pending⟩
    · exact ⟨_, makeEmpty_follows.rest removal pending⟩
  · split
    · exact ⟨.ready, (makeReady_follows (d := .ready) fun _ state idle => ⟨state, idle⟩).rest removal pending⟩
    · exact ⟨_, derive_follows removal pending⟩

end CycleDone

end Sys2Proof.Machine
end

section
/-! SUPPORT. The two events of O46, handed to PSV (R93). -/

namespace Sys2Proof.Machine

/-! ### MACHINE_JAM (R111) -/

section Jam

variable {s : State} {l : LaneIx}

@[simp] theorem MachineRec.enter_timer (st : MachineState) (m : MachineRec) : (m.enter st).timer = m.timer := by
  unfold MachineRec.enter
  split <;> rfl

/-- No state entered arms a foul. -/
theorem MachineRec.enter_unarmed (st : MachineState) {m : MachineRec} (unarmed : m.armedFoul = false) : (m.enter st).armedFoul = false := by
  unfold MachineRec.enter
  split
  · exact unarmed
  · rw [unarmed]
    rfl

/-- The lane JAMMED and the outcome taken, before the report of R111. -/
def State.jamTaken (l : LaneIx) (s : State) : State :=
  ((s.modMachine l MachineRec.jam).enter l .jammed).outcome l ⟨(s.machine l).cycleInFlight, false, 0, false⟩

/-- A jam with no removal ordered and none to order reports itself last (R111). -/
theorem machineJam_of_canJam (source : JamSource) (can : (s.machine l).state.canJam = true) (removal : (s.machine l).removal = .unordered)
    (policy : (s.lane l).health.policy = .report) : s.machineJam l source
      = (s.jamTaken l).report (.machineJam l (.station source) ((s.machine l).inFlight.map (·.op)) (s.machine l).ball.isSome) := by
  simp only [State.machineJam, can, if_true, State.jam, removal, outcomeOrders_of_report s l _ policy, State.when_false]
  rfl

/-- In the other states it is discarded (R111). -/
theorem machineJam_of_still (source : JamSource)
    (still : (s.machine l).state ∈ [.poweredDown, .standby, .jammed, .linkLost, .outOfService]) : s.machineJam l source = s := by
  have cannot : (s.machine l).state.canJam = false := by
    revert still
    cases (s.machine l).state <;> decide
  rw [State.machineJam, cannot, if_neg Bool.false_ne_true]

theorem canJam_of_mem {st : MachineState} (h : st ∈ [.waking, .deckEmpty, .waiting, .ready, .ballDown, .reading, .cycling]) :
    st.canJam = true := by
  revert h
  cases st <;> decide

theorem machine_jamTaken : (s.jamTaken l).machine l = (s.machine l).jam.enter .jammed := by
  rw [State.jamTaken, machine_outcome, machine_enter, State.machine_modMachine_self]

/-- The machine record of a lane that enters JAMMED (R111). -/
theorem MachineRec.jam_enter (m : MachineRec) : (m.jam.enter .jammed).state = .jammed ∧ (m.jam.enter .jammed).inFlight = none
    ∧ (m.jam.enter .jammed).timer = none ∧ (m.jam.enter .jammed).pendingCycle = none ∧ (m.jam.enter .jammed).ball = none
    ∧ (m.jam.enter .jammed).armedFoul = false ∧ (m.jam.enter .jammed).deck = .unknown ∧ (m.jam.enter .jammed).jamStanding = true
    ∧ (m.jam.enter .jammed).warmed = m.warmed :=
  ⟨enter_state _ _, enter_inFlight _ _, enter_timer _ _, enter_pendingCycle _ _, enter_ball _ _, enter_unarmed _ rfl, enter_deck _ _,
    enter_jamStanding _ _, enter_warmed _ _⟩

theorem cycles_jamTaken : ((s.jamTaken l).lane l).health.cycles.value = min 16777215 ((s.lane l).health.cycles.value + 1) := by
  refine (lane_outcome _ l _).2.trans ?_
  rw [lane_enter, State.lane_modMachine_self]

/-- The lane's machine and the count of its cycles after a jam. -/
theorem machineJam_taken (source : JamSource) (can : (s.machine l).state.canJam = true) (removal : (s.machine l).removal = .unordered)
    (policy : (s.lane l).health.policy = .report) : (s.machineJam l source).machine l = (s.machine l).jam.enter .jammed
      ∧ ((s.machineJam l source).lane l).health.cycles.value = min 16777215 ((s.lane l).health.cycles.value + 1) := by
  rw [machineJam_of_canJam source can removal policy, machine_report, State.lane_report]
  exact ⟨machine_jamTaken, cycles_jamTaken⟩

/-- With room for it and for the alerts before it, the jam is reported. -/
theorem machineJam_reported (source : JamSource) (can : (s.machine l).state.canJam = true) (removal : (s.machine l).removal = .unordered)
    (policy : (s.lane l).health.policy = .report) (room : s.link.reports.length < 40) :
    .machineJam l (.station source) ((s.machine l).inFlight.map (·.op)) (s.machine l).ball.isSome ∈ (s.machineJam l source).link.reports := by
  have length := ((grew_enter (s.modMachine l MachineRec.jam) l .jammed).trans
    (grew_outcome _ l ⟨(s.machine l).cycleInFlight, false, 0, false⟩)).length
  rw [machineJam_of_canJam source can removal policy]
  exact mem_queue _ (Nat.lt_of_le_of_lt length (Nat.add_lt_add_right room 5 |>.trans (by decide)))

end Jam

/-! ### A completed cycle, and the lane moved on -/

section Completed

variable {s : State} {l : LaneIx} (c : Cycle) (set : PinSet) (o : CycleOutcome) (removal : (s.machine l).removal = .unordered)
  (pending : (s.machine l).powerOffPending = false)

include removal pending

theorem completed_unordered : ((s.completed l c set o).machine l).removal = .unordered
    ∧ ((s.completed l c set o).machine l).powerOffPending = false := by
  obtain ⟨removal', pending', -⟩ := MachineRec.complete_of_cycle c { s.machine l with inFlight := none, deck := deckOf set }
  rw [machine_completed]
  exact ⟨removal'.trans removal, pending'.trans pending⟩

/-- What a lane derives again, it derives by the deck that the cycle left and the rerack mark it set. -/
theorem took_derive_completed {mark : RerackMark}
    (marked : (({ s.machine l with inFlight := none, deck := deckOf set } : MachineRec).complete c).rerack = mark) :
    s.took ((s.completed l c set o).derive l) l (derived (s.headNeed l) (deckOf set) mark) := by
  obtain ⟨removed, unpended⟩ := completed_unordered c set o removal pending
  obtain ⟨-, -, deck, -⟩ := MachineRec.complete_of_cycle c { s.machine l with inFlight := none, deck := deckOf set }
  have took := (derive_follows removed unpended).took
  rw [headNeed_of_outside (outside_completed s l c set o) l, machine_completed, deck, marked] at took
  exact took_of_outside (outside_completed s l c set o) (gate_completed s l c set o) took

/-- Moved on, the lane keeps its deck, the count of its cycles and the miss reported. -/
theorem moveOn_completed (turn : Option Turn) (need : Option Need) :
    let t := (s.completed l c set o).moveOn l c turn need
    (t.machine l).stands = (({ s.machine l with inFlight := none, deck := deckOf set } : MachineRec).complete c).stands
      ∧ (t.lane l).health.cycles.value = min 16777215 ((s.lane l).health.cycles.value + 1)
      ∧ (set ≠ c.commanded → s.link.reports.length < 40 → .respotMiss l c.commanded set ∈ t.link.reports) := by
  obtain ⟨removed, unpended⟩ := completed_unordered c set o removal pending
  obtain ⟨d, lane, stands, -, grew⟩ := moveOn_follows (c := c) (turn := turn) (need := need) removed unpended
  refine ⟨stands.trans (congrArg _ (machine_completed s l c set o)), ?_, fun miss room => ?_⟩
  · rw [lane]
    exact cycles_completed s l c set o
  · obtain ⟨reported, length⟩ := respotMiss_completed s l c set o miss room
    exact grew.keeps (by omega) _ reported

/-- Served by the cycle, the head has its lane READY with nothing in hand. -/
theorem moveOn_completed_served {turn : Option Turn} {need : Option Need} (sweep : c ≠ .sweep) (recover : c ≠ .recover)
    (given : turn ≠ none) (head : s.headTurn l = turn) (needs : s.headNeed l = need) :
    let t := (s.completed l c set o).moveOn l c turn need
    (t.machine l).state = .ready ∧ (t.machine l).inFlight = none ∧ (t.machine l).pendingCycle = none
      ∧ (t.machine l).rerack = (if c = .fullRack .rerack then .set else (s.machine l).rerack) := by
  obtain ⟨removed, unpended⟩ := completed_unordered c set o removal pending
  have outside := outside_completed s l c set o
  have head' : (s.completed l c set o).headTurn l = turn := (congrArg List.head? (queue_of_outside outside l)).trans head
  have needs' := (headNeed_of_outside outside l).trans needs
  obtain ⟨-, -, -, inFlight⟩ := MachineRec.complete_of_cycle c { s.machine l with inFlight := none, deck := deckOf set }
  have rerack := MachineRec.complete_rerack recover { s.machine l with inFlight := none, deck := deckOf set }
  rw [moveOn_served removed unpended sweep recover (head' ▸ given) head' needs']
  simp only [State.makeReady, machine_enter, State.machine_modMachine_self, MachineRec.enter_state, MachineRec.enter_inFlight,
    MachineRec.enter_pendingCycle, MachineRec.enter_rerack, machine_completed, inFlight, rerack, and_self]

/-- A sweep with no head leaves the lane DECK_EMPTY with nothing in hand. -/
theorem moveOn_completed_idle (turn : Option Turn) (need : Option Need) (idle : s.headTurn l = none) :
    let t := (s.completed l .sweep set o).moveOn l .sweep turn need
    (t.machine l).state = .deckEmpty ∧ (t.machine l).pendingCycle = none ∧ (t.machine l).inFlight = none := by
  obtain ⟨removed, unpended⟩ := completed_unordered .sweep set o removal pending
  have idle' : (s.completed l .sweep set o).headTurn l = none :=
    (congrArg List.head? (queue_of_outside (outside_completed s l .sweep set o) l)).trans idle
  rw [moveOn_sweep_idle removed unpended idle']
  simp only [State.makeEmpty, machine_enter, State.machine_modMachine_self, MachineRec.enter_state, MachineRec.enter_inFlight,
    MachineRec.enter_pendingCycle, machine_completed]
  exact ⟨trivial, trivial, rfl⟩

end Completed

/-! ### The events handed -/

/-- A completion of the lane's command reaches PSV in pin numbers (R93, R98). -/
theorem exec_of_cycleDone {s : State} {p : PairIx} {side : Side} {n seq : Byte} {pins : PinSet} {a : StatusAnswer}
    (hears : s.hears p a n (.cycleDone side seq pins)) (fits : fittedHas (s.station p).fitted side = true)
    (command : ((s.station p).command side).map (·.seq) = some seq.toNat) : exec (.statusAnswer a) s
      = .next ((s.heard p a n).cycleDone (laneOf p side) (setFromStation (s.station p).cls pins)) := by
  have fresh : ((s.heard p a n).station p).stale side seq = false := by
    rw [Station.stale, command_heard, command]
    simp
  rw [exec_of_hears hears fun side' e => Option.some.inj e ▸ fits]
  simp only [State.handEvent, fresh, Bool.false_eq_true, if_false]
  rw [station_heard]
  rfl

theorem lastEvent_heard (s : State) (p : PairIx) (a : StatusAnswer) (n : Byte) : ((s.heard p a n).station p).lastEvent = some n := by
  rw [station_heard]

/-- Settles O46, by the lane's record as a completed cycle leaves it and the outcome of R108 it then takes. -/
theorem cyclesDoneAndJamsAreTaken : Obligations.CyclesDoneAndJamsAreTaken := by
  unfold Obligations.CyclesDoneAndJamsAreTaken
  refine ⟨?_, ?_⟩
  · intro s p side n seq pins a c start length turn need hears fits command l set deck mark state inFlight removal pending policy
    let u := s.heard p a n
    let o : CycleOutcome := ⟨some c, true, min length (u.elapsed start), set ≠ c.commanded⟩
    have handed := exec_of_cycleDone hears fits command
    have done : u.cycleDone l set = (u.completed l c set o).moveOn l c turn need := cycleDone_of_cycling (s := u) set state inFlight removal policy
    have outside : (u.cycleDone l set).outside l = u.outside l := outside_cycleDone l set u
    have gate : (u.cycleDone l set).gate l = u.gate l := gate_cycleDone u l l set
    obtain ⟨stands, cycles, missed⟩ := moveOn_completed (s := u) c set o removal pending turn need
    have head : (u.completed l c set o).headTurn l = s.headTurn l := congrArg List.head? (queue_of_outside (outside_completed u l c set o) l)
    have needs : (u.completed l c set o).headNeed l = s.headNeed l := headNeed_of_outside (outside_completed u l c set o) l
    rw [← done] at stands cycles missed
    have derives {mark : RerackMark} (e : (u.completed l c set o).moveOn l c turn need = (u.completed l c set o).derive l)
        (marked : (({ s.machine l with inFlight := none, deck := deck } : MachineRec).complete c).rerack = mark) :
        s.took (u.cycleDone l set) l (derived (s.headNeed l) deck mark) :=
      (done.trans e) ▸ took_derive_completed (s := u) c set o removal pending marked
    obtain ⟨deck', jam, warmed, onTime, -⟩ : _ ∧ _ ∧ _ ∧ _ ∧ _ := by simpa only [MachineRec.stands, Prod.mk.injEq] using stands
    refine ⟨_, handed, ?_, (queue_of_outside outside l :), cycles, gate, fun k other => (lane_of_outside outside other :), missed,
      fun sweep recover => ⟨fun given same need' => ?_, fun other => ?_⟩, fun sweep => ⟨fun idle => ?_, fun standing => ?_⟩, fun recover => ?_⟩
    · exact deck'.trans (MachineRec.complete_of_cycle c _).2.2.1
    · exact done ▸ moveOn_completed_served (s := u) c set o removal pending sweep recover given same need'
    · exact derives (moveOn_derives sweep recover (by rw [head, needs]; exact other)) (MachineRec.complete_rerack recover _)
    · subst sweep
      exact done ▸ moveOn_completed_idle (s := u) set o removal pending turn need idle
    · subst sweep
      exact derives (moveOn_sweep_head (by rw [head]; exact standing)) (MachineRec.complete_rerack (c := .sweep) nofun _)
    · subst recover
      exact ⟨jam, warmed, onTime, derives rfl rfl⟩
  · intro s p side n source a hears fits l
    let u := s.heard p a n
    have handed : exec (.statusAnswer a) s = .next (u.machineJam l source) := exec_of_hears hears fun side' e => Option.some.inj e ▸ fits
    have outside : (u.machineJam l source).outside l = u.outside l := outside_machineJam l source u
    refine ⟨_, handed, (lastEvent_of_outside outside p).trans (lastEvent_heard s p a n), fun still => ?_, fun moving removal policy => ?_⟩
    · have stays : u.machineJam l source = u := machineJam_of_still (s := u) source still
      rw [stays]
      exact ⟨rfl, rfl⟩
    · obtain ⟨machine, cycles⟩ := machineJam_taken (s := u) source (canJam_of_mem moving) removal policy
      obtain ⟨state, inFlight, timer, held, ball, foul, deck, jam, warmed⟩ := machine ▸ MachineRec.jam_enter (u.machine l)
      exact ⟨state, inFlight, timer, held, ball, foul, deck, jam, warmed, cycles,
        machineJam_reported (s := u) source (canJam_of_mem moving) removal policy, queue_of_outside outside l, roster_of_outside outside l,
        gate_machineJam u l l source, fun k other => (lane_of_outside outside other :)⟩

end Sys2Proof.Machine
end

section
/-! SUPPORT. BALL_AT_DECK and FOUL, answered to a poll (R93, R102, R103, R137, R138). -/

namespace Sys2Proof.Machine

/-! ### The answer heard -/

section Heard

variable (s : State) (p : PairIx) (a : StatusAnswer) (n : Byte)

theorem elsewhere_heard : (s.heard p a n).elsewhere (some p) = s.elsewhere (some p) := by
  simp [State.heard, State.closeExchange]

theorem missed_heard : ((s.heard p a n).station p).missed = 0 := by
  rw [station_heard]
  rfl

/-- What pair p's station is sent as its settle time depends on neither its echoes nor its events. -/
theorem settleInForce_heard : (s.heard p a n).settleInForce p = s.settleInForce p := by
  have settings : ((s.heard p a n).pair p).settings = (s.pair p).settings := by
    rw [State.heard, State.pair_modStation_self, State.pair_modStation_self]
    rfl
  simp only [State.settleInForce, settings, station_heard]
  rfl

theorem ret_heard : (s.heard p a n).ret p = s.ret p := by
  rw [State.ret, State.heard, State.pair_modStation_self, State.pair_modStation_self]
  rfl

theorem health_heard : ((s.heard p a n).pair p).health = (s.pair p).health := by
  rw [State.heard, State.pair_modStation_self, State.pair_modStation_self]
  rfl

end Heard

/-! ### A ball entered on the track (R137, R138) -/

section TrackAppend

variable {s : State} (l : LaneIx) (kind : BallKind)

/-- The entry that a ball at lane l's deck makes. -/
def State.newEntry (l : LaneIx) (kind : BallKind) (s : State) : TrackEntry :=
  ⟨(s.ret (pairOf l)).nextSeq, sideOf l, s.returnClock, kind⟩

/-- The track with the entry behind it. -/
def State.trackEntered (l : LaneIx) (kind : BallKind) (s : State) : State :=
  s.modReturn (pairOf l) fun t => { t with
    track := t.track ++ [s.newEntry l kind], nextSeq := t.nextSeq + 1, oldest := if t.track.isEmpty then 0 else t.oldest }

theorem trackAppend_of_room (room : (s.ret (pairOf l)).track.length < 8) : s.trackAppend l kind
    = ((s.trackEntered l kind).when ((s.ret (pairOf l)).track.length + 1 = Config.backlogLevel)
        (State.raiseBoth .returnBacklog (pairOf l))).when (s.ret (pairOf l)).track.isEmpty (State.darkTest (pairOf l)) := by
  simp only [State.trackAppend]
  exact if_neg (Nat.not_le_of_lt room)

theorem ret_raiseBoth (s : State) (r : Reason) (p q : PairIx) : (s.raiseBoth r p).ret q = s.ret q :=
  (ret_of_outside (outside_raiseReason (laneB p) r _ _) q).trans (ret_of_outside (outside_raiseReason (laneA p) r _ s) q)

theorem machine_raiseReason (s : State) (r : Reason) (time : DateTime) (l k : LaneIx) : (s.raiseReason r time l).machine k = s.machine k := by
  unfold State.raiseReason
  split
  · rfl
  · exact field_modLane Lane.machine rfl k

theorem machine_raiseBoth (s : State) (r : Reason) (p : PairIx) (k : LaneIx) : (s.raiseBoth r p).machine k = s.machine k :=
  (machine_raiseReason ..).trans (machine_raiseReason ..)

variable (room : (s.ret (pairOf l)).track.length < 8)

include room

theorem ret_trackAppend : ((s.trackAppend l kind).ret (pairOf l)).track = (s.ret (pairOf l)).track ++ [s.newEntry l kind]
    ∧ ((s.trackAppend l kind).ret (pairOf l)).nextSeq = (s.ret (pairOf l)).nextSeq + 1
    ∧ ((s.trackAppend l kind).ret (pairOf l)).rack = (s.ret (pairOf l)).rack := by
  rw [trackAppend_of_room l kind room, State.when_keeps (fun u : State => u.ret (pairOf l)) _ _ _ (ret_darkTest ..),
    State.when_keeps (fun u : State => u.ret (pairOf l)) _ _ _ (ret_raiseBoth ..), State.trackEntered, ret_modReturn]
  exact ⟨rfl, rfl, rfl⟩

theorem machine_trackAppend (k : LaneIx) : (s.trackAppend l kind).machine k = s.machine k := by
  rw [trackAppend_of_room l kind room, machine_when _ _ _ k (machine_darkTest ..), machine_when _ _ _ k (machine_raiseBoth ..)]
  rfl

theorem State.PairKeeps.trackAppend {t : State} (h : t.PairKeeps (pairOf l) s) : t.PairKeeps (pairOf l) (s.trackAppend l kind) := by
  have entered : t.PairKeeps (pairOf l) (s.trackEntered l kind) := h.modReturn _
  have raised := entered.when ((s.ret (pairOf l)).track.length + 1 = Config.backlogLevel) (entered.raiseBoth .returnBacklog)
  rw [trackAppend_of_room l kind room]
  exact raised.when _ raised.darkTest

end TrackAppend

/-! ### BALL_AT_DECK (R102) -/

section BallAtDeck

variable {s : State} {l : LaneIx}

/-- The lane with its ball pending and the settle started, before the ball is entered on the track. -/
def State.ballOpened (l : LaneIx) (turn : Turn) (s : State) : State :=
  ((s.modMachine l fun m =>
    { m with ball := some ⟨turn, m.armedFoul, 0, m.rerack = .set, false, false⟩, armedFoul := false, rerack := .unmarked }).startTimer l
      .settle (s.settleInForce (pairOf l))).enter l .ballDown

theorem ballAtDeck_of_ready {turn : Turn} (ready : (s.machine l).state = .ready) (head : s.headTurn l = some turn) :
    s.ballAtDeck l = (s.ballOpened l turn).trackAppend l .scored := by
  simp only [State.ballAtDeck, ready, head]
  rfl

/-- Anywhere else the ball is a stray one, entered on the track and reported. -/
theorem ballAtDeck_stray (stray : (s.machine l).state ≠ .ready ∨ s.headTurn l = none) :
    ∃ r, s.ballAtDeck l = (s.trackAppend l .stray).report r := by
  simp only [State.ballAtDeck]
  split
  · rename_i ready head
    exact absurd stray (by simp [ready, head])
  · exact ⟨_, rfl⟩
  · exact ⟨_, rfl⟩

theorem machine_ballOpened (turn : Turn) : ((s.ballOpened l turn).machine l).state = .ballDown
    ∧ ((s.ballOpened l turn).machine l).ball = some ⟨turn, (s.machine l).armedFoul, 0, decide ((s.machine l).rerack = .set), false, false⟩
    ∧ ((s.ballOpened l turn).machine l).timer = some ⟨.settle, s.returnClock, s.settleInForce (pairOf l)⟩
    ∧ ((s.ballOpened l turn).machine l).armedFoul = false ∧ ((s.ballOpened l turn).machine l).rerack = .unmarked := by
  rw [State.ballOpened, machine_enter, State.startTimer, State.machine_modMachine_self, State.machine_modMachine_self]
  exact ⟨MachineRec.enter_state _ _, MachineRec.enter_ball _ _, MachineRec.enter_timer _ _, MachineRec.enter_unarmed _ rfl,
    MachineRec.enter_rerack _ _⟩

theorem ballOpened_outside (turn : Turn) : (s.ballOpened l turn).outside l = s.outside l := by
  simp [State.ballOpened, State.startTimer]

theorem ballOpened_keeps (turn : Turn) : s.PairKeeps (pairOf l) (s.ballOpened l turn) :=
  (((State.PairKeeps.refl _ s).modMachine rfl _).modMachine rfl _).enter rfl _

/-- A ball opened leaves the return record and the return clock alone, and so the entry it makes. -/
theorem newEntry_ballOpened (turn : Turn) (kind : BallKind) : (s.ballOpened l turn).newEntry l kind = s.newEntry l kind := by
  have clock : (s.ballOpened l turn).returnClock = s.returnClock := congrArg Elsewhere.returnClock (ballOpened_keeps turn).elsewhere
  rw [State.newEntry, ret_of_outside (ballOpened_outside turn), clock, State.newEntry]

/-- A ball on a READY lane with a head turn opens its record, starts the settle, and is entered scored (R102). -/
theorem ballAtDeck_scored {turn : Turn} (ready : (s.machine l).state = .ready) (head : s.headTurn l = some turn)
    (room : (s.ret (pairOf l)).track.length < 8) : (s.ballAtDeck l).machine l = (s.ballOpened l turn).machine l
      ∧ ((s.ballAtDeck l).ret (pairOf l)).track = (s.ret (pairOf l)).track ++ [s.newEntry l .scored] := by
  have ret := ret_of_outside (ballOpened_outside (s := s) (l := l) turn) (pairOf l)
  have room' : ((s.ballOpened l turn).ret (pairOf l)).track.length < 8 := by rwa [ret]
  rw [ballAtDeck_of_ready ready head, (ret_trackAppend l .scored room').1, ret, newEntry_ballOpened]
  exact ⟨machine_trackAppend l .scored room' l, rfl⟩

theorem ballAtDeck_unscored (stray : (s.machine l).state ≠ .ready ∨ s.headTurn l = none) (room : (s.ret (pairOf l)).track.length < 8) :
    (s.ballAtDeck l).machine l = s.machine l
      ∧ ((s.ballAtDeck l).ret (pairOf l)).track = (s.ret (pairOf l)).track ++ [s.newEntry l .stray] := by
  obtain ⟨r, e⟩ := ballAtDeck_stray stray
  rw [e]
  exact ⟨machine_trackAppend l .stray room l, (ret_trackAppend l .stray room).1⟩

/-- Scored or stray, a ball takes the next sequence, leaves the rack and stays in its pair. -/
theorem ballAtDeck_keeps (room : (s.ret (pairOf l)).track.length < 8) : s.PairKeeps (pairOf l) (s.ballAtDeck l)
    ∧ ((s.ballAtDeck l).ret (pairOf l)).nextSeq = (s.ret (pairOf l)).nextSeq + 1
    ∧ ((s.ballAtDeck l).ret (pairOf l)).rack = (s.ret (pairOf l)).rack := by
  by_cases stray : (s.machine l).state ≠ .ready ∨ s.headTurn l = none
  · obtain ⟨r, e⟩ := ballAtDeck_stray stray
    rw [e]
    exact ⟨((State.PairKeeps.refl _ s).trackAppend l .stray room).report r, (ret_trackAppend l .stray room).2⟩
  · obtain ⟨ready, head⟩ := not_or.1 stray
    obtain ⟨turn, head⟩ := Option.ne_none_iff_exists'.1 head
    have ret := ret_of_outside (ballOpened_outside (s := s) (l := l) turn) (pairOf l)
    have room' : ((s.ballOpened l turn).ret (pairOf l)).track.length < 8 := by rwa [ret]
    have appended := (ret_trackAppend l .scored room').2
    rw [ret] at appended
    rw [ballAtDeck_of_ready (not_not.1 ready) head]
    exact ⟨(ballOpened_keeps turn).trackAppend l .scored room', appended⟩

end BallAtDeck

/-! ### FOUL (R103) -/

section Foul

variable {s : State} {l : LaneIx}

theorem foul_of_ready (ready : (s.machine l).state = .ready) (head : s.headTurn l ≠ none) :
    s.foul l = s.modMachine l fun m => { m with armedFoul := true } := by
  obtain ⟨turn, head⟩ := Option.ne_none_iff_exists'.1 head
  simp only [State.foul, ready, head]

theorem foul_of_ballDown (down : (s.machine l).state = .ballDown) :
    s.foul l = s.modMachine l fun m => { m with ball := m.ball.map fun b => { b with foul := true } } := by
  simp only [State.foul, down]

theorem foul_late (up : (s.machine l).state ≠ .ballDown) (late : (s.machine l).state ≠ .ready ∨ s.headTurn l = none) :
    s.foul l = s.report (.lateFoul l (s.machine l).state) := by
  unfold State.foul
  split
  · rename_i ready head
    exact absurd late (by simp [ready, head])
  · exact absurd ‹_› up
  · rfl

/-- A foul changes of the lane its machine alone. -/
theorem lane_foul (s : State) (l : LaneIx) : (s.foul l).lane l = { s.lane l with machine := (s.foul l).machine l } := by
  unfold State.foul
  split
  · rw [State.machine_modMachine_self, State.lane_modMachine_self, State.machine]
  · rw [State.machine_modMachine_self, State.lane_modMachine_self, State.machine]
  · rfl

end Foul

end Sys2Proof.Machine
end

section
/-! SUPPORT. BALL_AT_RACK, answered to a poll (R93, R128, R139, R141, R142). -/

namespace Sys2Proof.Machine

/-! ### The rack count and the pause test (R139, R141) -/

section Rack

variable (s : State) (p : PairIx)

/-- The rack holds as many balls as it may. -/
abbrev State.rackFull : Prop := (s.ret p).threshold + 2 < (s.ret p).rack + 1

/-- The rack count after one more ball, held at F + 2 (R139). -/
def ReturnRec.raised (t : ReturnRec) : Nat := if t.threshold + 2 < t.rack + 1 then t.threshold + 2 else t.rack + 1

theorem rackUp_of_full (full : s.rackFull p) : s.rackUp p
    = (s.modReturn p fun t => { t with rack := t.rackMax }).report (.rackOverflow p ((s.ret p).threshold + 2) (s.ret p).threshold) :=
  if_neg (Nat.not_le_of_lt full)

theorem rackUp_of_room (room : ¬s.rackFull p) : s.rackUp p = s.modReturn p fun t => { t with rack := t.rack + 1 } :=
  if_pos (Nat.le_of_not_lt room)

theorem ret_rackUp : (s.rackUp p).ret p = { s.ret p with rack := (s.ret p).raised } := by
  rw [ReturnRec.raised]
  by_cases full : s.rackFull p
  · rw [rackUp_of_full s p full]
    simp only [if_pos full]
    exact ret_modReturn s p fun t => { t with rack := t.rackMax }
  · rw [rackUp_of_room s p full]
    simp only [if_neg full]
    exact ret_modReturn s p _

theorem link_rackUp : (s.rackUp p).link = if (s.ret p).threshold + 2 < (s.ret p).rack + 1
    then Link.queue (.rackOverflow p ((s.ret p).threshold + 2) (s.ret p).threshold) s.link else s.link := by
  by_cases full : s.rackFull p
  · rw [if_pos full, rackUp_of_full s p full]
    rfl
  · rw [if_neg full, rackUp_of_room s p full]
    rfl

/-- The pause test orders the lift by the rack count (R141). -/
theorem lift_pauseTest : ((s.pauseTest p).station p).lift = if (s.ret p).threshold ≤ (s.ret p).rack then .pause else .run := by
  have lifted (o : LiftOrder) : ((s.setLift p o).station p).lift = o := by rw [State.setLift, State.station_modStation_self]
  simp only [State.pauseTest]
  split
  · split
    · exact lifted .pause
    · assumption
  · split
    · assumption
    · rw [State.when_keeps (fun u : State => (u.station p).lift) _ _ _ (by rw [station_modReturn]), lifted]

/-- What a change of the pair's return record and of its lift order leave, a ball at the rack and the pause test leave. -/
theorem rackUp_keeps {β : Type} (o : State → β) (records : ∀ (u : State) (f : ReturnRec → ReturnRec), o (u.modReturn p f) = o u)
    (reports : ∀ (u : State) (r : Report), o (u.report r) = o u) : o (s.rackUp p) = o s := by
  by_cases full : s.rackFull p
  · rw [rackUp_of_full s p full, reports, records]
  · rw [rackUp_of_room s p full, records]

theorem pauseTest_keeps {β : Type} (o : State → β) (records : ∀ (u : State) (f : ReturnRec → ReturnRec), o (u.modReturn p f) = o u)
    (lifts : ∀ (u : State) (l : LiftOrder), o (u.setLift p l) = o u) : o (s.pauseTest p) = o s := by
  simp only [State.pauseTest]
  repeat' split
  · exact lifts _ _
  · rfl
  · rfl
  · rw [State.when_keeps o _ _ _ (records _ _), lifts]

theorem health_modReturn (f : ReturnRec → ReturnRec) : ((s.modReturn p f).pair p).health = (s.pair p).health := by
  rw [State.pair_modReturn_self]

theorem health_setLift (l : LiftOrder) : ((s.setLift p l).pair p).health = (s.pair p).health := by
  rw [State.setLift, State.pair_modStation_self]

end Rack

/-! ### A delivery (R128, R139) -/

section Travel

variable (s : State) (p : PairIx) (n : Nat)

/-- RETURN_TIME moved by a travel time (R126, R128). -/
def PairHealth.moved (n : Nat) (h : PairHealth) : PairHealth :=
  ⟨({ h.returnTime with value := average h.sampled h.returnTime.value (min 65535 n) } : Attr).test, true⟩

theorem pair_travel : (s.travel p n).pair p = { s.pair p with health := (s.pair p).health.moved n } := by
  simp only [State.travel, State.testPair]
  rw [State.when_keeps (fun u : State => u.pair p) _ _ _ rfl, State.pair_modPair_self]
  rfl

theorem lanes_travel : (s.travel p n).lanes = s.lanes := by
  simp only [State.travel, State.testPair]
  rw [State.when_keeps State.lanes _ _ _ rfl]
  rfl

theorem told_travel : (s.travel p n).link.told 1 s.link := by
  simp only [State.travel, State.testPair]
  exact told_when _ _ (told_report _ (by simp [Report.rank, Report.cls, ReportClass.rank, Attribute.reportClass]))

theorem elsewhere_travel : (s.travel p n).elsewhere (some p) = s.elsewhere (some p) := by
  simp only [State.travel, State.testPair]
  rw [State.when_keeps (State.elsewhere (some p)) _ _ _ rfl]
  exact elsewhere_modPair s p _

end Travel

/-- A ball of the track delivered, up to the pause test. -/
def State.delivered (p : PairIx) (e : TrackEntry) (rest : List TrackEntry) (s : State) : State :=
  (((s.modReturn p fun t => { t with track := rest }).rackUp p).travel p (s.elapsed e.entry)).pauseTest p

section Delivered

variable (s : State) (p : PairIx) (e : TrackEntry) (rest : List TrackEntry)

theorem lanes_delivered : (s.delivered p e rest).lanes = s.lanes := by
  rw [State.delivered, pauseTest_keeps _ p State.lanes (fun _ _ => rfl) fun _ _ => rfl, lanes_travel,
    rackUp_keeps _ p State.lanes (fun _ _ => rfl) fun _ _ => rfl]
  rfl

theorem lane_delivered (k : LaneIx) : (s.delivered p e rest).lane k = s.lane k := by
  rw [State.lane, lanes_delivered]
  rfl

theorem lastEvent_delivered : ((s.delivered p e rest).station p).lastEvent = (s.station p).lastEvent := by
  rw [State.delivered, pauseTest_keeps _ p (fun u : State => (u.station p).lastEvent) (fun _ _ => by rw [station_modReturn])
    fun _ _ => by rw [State.setLift, State.station_modStation_self], State.station, pair_travel]
  exact (rackUp_keeps _ p (fun u : State => (u.station p).lastEvent) (fun _ _ => by rw [station_modReturn]) fun _ _ => rfl).trans
    (by rw [station_modReturn])

theorem elsewhere_delivered : (s.delivered p e rest).elsewhere (some p) = s.elsewhere (some p) := by
  rw [State.delivered, elsewhere_pauseTest, elsewhere_travel,
    rackUp_keeps _ p (State.elsewhere (some p)) (fun u f => elsewhere_modReturn u p f) fun _ _ => rfl, elsewhere_modReturn]

/-- The record before the pause test. -/
theorem ret_raised : (((s.modReturn p fun t => { t with track := rest }).rackUp p).travel p (s.elapsed e.entry)).ret p
    = { s.ret p with track := rest, rack := (s.ret p).raised } := by
  have same := ret_rackUp (s.modReturn p fun t => { t with track := rest }) p
  rw [ret_modReturn] at same
  rw [State.ret, pair_travel]
  exact same

theorem ret_delivered : ((s.delivered p e rest).ret p).ageless
    = { s.ret p with track := rest, oldest := 0, rack := (s.ret p).raised } := by
  rw [State.delivered, ret_pauseTest, ret_raised]
  rfl

theorem lift_delivered : ((s.delivered p e rest).station p).lift
    = if (s.ret p).threshold ≤ (s.ret p).raised then .pause else .run := by
  rw [State.delivered, lift_pauseTest, ret_raised]

theorem health_delivered : ((s.delivered p e rest).pair p).health = (s.pair p).health.moved (s.elapsed e.entry) := by
  rw [State.delivered, pauseTest_keeps _ p (fun u : State => (u.pair p).health) (fun u f => health_modReturn u p f)
    fun u l => health_setLift u p l, pair_travel,
    rackUp_keeps _ p (fun u : State => (u.pair p).health) (fun u f => health_modReturn u p f) fun _ _ => rfl, health_modReturn]

/-- A full rack is reported, where the queue has room. -/
theorem rackOverflow_delivered (full : s.rackFull p) (room : s.link.reports.length < 48) :
    .rackOverflow p ((s.ret p).threshold + 2) (s.ret p).threshold ∈ (s.delivered p e rest).link.reports := by
  have ret : (s.modReturn p fun t => { t with track := rest }).ret p = { s.ret p with track := rest } := ret_modReturn ..
  have link := link_rackUp (s.modReturn p fun t => { t with track := rest }) p
  simp only [ret, if_pos full] at link
  have told := (told_travel ((s.modReturn p fun t => { t with track := rest }).rackUp p) p (s.elapsed e.entry)).1
  rw [State.delivered, pauseTest_keeps _ p State.link (fun _ _ => rfl) fun _ _ => rfl]
  refine told _ ?_ (by simp [Report.rank, Report.cls, ReportClass.rank])
  rw [link]
  exact mem_queue _ room

end Delivered

/-! ### What comes after the pause test -/

section BallAtRack

variable {s : State} {p : PairIx} {e : TrackEntry} {rest : List TrackEntry}

theorem ballAtRack_nil (empty : (s.ret p).track = []) : s.ballAtRack p
    = ((s.rackUp p).pauseTest p).report (.unexpectedBall p (((s.rackUp p).pauseTest p).ret p).rack) := by
  simp only [State.ballAtRack, empty]

variable (track : (s.ret p).track = e :: rest)

include track

theorem ballAtRack_cons : s.ballAtRack p = if rest.isEmpty
    then ((s.delivered p e rest).when (rest.length + 1 = Config.backlogLevel) (State.clearBoth .returnBacklog p)).darkTest p
    else ((s.delivered p e rest).when (rest.length + 1 = Config.backlogLevel) (State.clearBoth .returnBacklog p)).modReturn p
      fun t => { t with oldest := 0 } := by
  simp only [State.ballAtRack, track]
  rfl

/-- What PSV's operations on the pair's lanes leave, and a restart of the oldest count, a delivery leaves after its pause test. -/
theorem ballAtRack_keeps {β : Type} (o : State → β) (outside : ∀ (l : LaneIx) (u v : State), pairOf l = p → v.outside l = u.outside l → o v = o u)
    (oldest : ∀ u : State, o (u.modReturn p fun t => { t with oldest := 0 }) = o u) : o (s.ballAtRack p) = o (s.delivered p e rest) := by
  have cleared (u : State) : o (u.clearBoth .returnBacklog p) = o u :=
    (outside _ _ _ (pairOf_laneOf p .b) (outside_clearReason ..)).trans (outside _ _ _ (pairOf_laneOf p .a) (outside_clearReason ..))
  rw [ballAtRack_cons track]
  split
  · rw [outside _ _ _ (pairOf_laneOf p .a) (outside_darkTest_pair _ p), State.when_keeps o _ _ _ (cleared _)]
  · rw [oldest, State.when_keeps o _ _ _ (cleared _)]

/-- Entries left restart the oldest count (R142). -/
theorem oldest_ballAtRack (more : rest ≠ []) : ((s.ballAtRack p).ret p).oldest = 0 := by
  rw [ballAtRack_cons track, if_neg (by simpa using more), ret_modReturn]

/-- But at the backlog's end no lane changes. -/
theorem lane_ballAtRack (k : LaneIx) (level : rest.length + 1 ≠ 7) : (s.ballAtRack p).lane k = s.lane k := by
  have same : (s.delivered p e rest).lane k = s.lane k := lane_delivered s p e rest k
  rw [ballAtRack_cons track, decide_eq_false level, State.when_false]
  split
  · rw [lane_darkTest, same]
  · rw [State.lane_modReturn, same]

/-- At the backlog's end both lanes lose the reason. -/
theorem lane_ballAtRack_level (k : LaneIx) (level : rest.length + 1 = 7) :
    (s.ballAtRack p).lane k = ((s.delivered p e rest).clearBoth .returnBacklog p).lane k := by
  have more : ¬rest.isEmpty = true := fun h => by
    rw [List.isEmpty_iff.1 h] at level
    cases level
  rw [ballAtRack_cons track, if_neg more, decide_eq_true level, State.when_true, State.lane_modReturn]

theorem told_ballAtRack : ∀ x ∈ (s.delivered p e rest).link.reports, x.rank ≤ 1 → x ∈ (s.ballAtRack p).link.reports := by
  have cleared (u : State) : (u.clearBoth .returnBacklog p).link.told 4 u.link :=
    (told_clearReason (u.clearReason .returnBacklog (laneA p)) (laneB p) .returnBacklog).trans (told_clearReason u (laneA p) .returnBacklog)
  have kept := (told_when (s.delivered p e rest) (rest.length + 1 = Config.backlogLevel) (cleared (s.delivered p e rest))).1
  rw [ballAtRack_cons track]
  split
  · rw [link_darkTest]
    exact kept
  · exact kept

end BallAtRack

/-! ### The reason of a backlog cleared on a pair's lane (R15) -/

section Cleared

variable {s : State} {p : PairIx} {k : LaneIx} (own : pairOf k = p)

include own

/-- Each lane of the pair is cleared from its own record. -/
theorem clearBoth_at (r : Reason) : ∃ u : State, u.lane k = s.lane k ∧ (s.clearBoth r p).lane k = (u.clearReason r k).lane k := by
  obtain rfl | rfl := (pairOf_eq_lanes k p).1 own
  · exact ⟨s, rfl, lane_of_outside (outside_clearReason ..) (laneA_ne_laneB p)⟩
  · exact ⟨s.clearReason r (laneA p), lane_of_outside (outside_clearReason ..) (laneA_ne_laneB p).symm, rfl⟩

omit own in
theorem gate_clearBacklog (u : State) (k : LaneIx) : (u.clearReason .returnBacklog k).gate k = { u.gate k with returnBacklog := none } := by
  rw [gate_clearReason]
  split
  · rfl
  · rename_i absent
    have clear : (u.gate k).returnBacklog = none := by simpa [Gate.has, Gate.raisedAt] using absent
    rw [← clear]

/-- A cycle held that nothing blocks any more is issued (R15). -/
theorem clearBoth_issues {c : PendingCycle} (raised : (s.gate k).returnBacklog ≠ none) (waiting : (s.machine k).state = .waiting)
    (pending : (s.machine k).pendingCycle = some c) (served : c.served = false)
    (clear : ((s.clearBoth .returnBacklog p).gate k).blocks c.cycle = false) :
    ((s.clearBoth .returnBacklog p).machine k).state = .cycling
      ∧ ((s.clearBoth .returnBacklog p).machine k).cycleInFlight = some c.cycle := by
  obtain ⟨u, same, lane⟩ := clearBoth_at (s := s) own .returnBacklog
  have gate : u.gate k = s.gate k := congrArg Lane.gate same
  have machine : u.machine k = s.machine k := congrArg Lane.machine same
  have cleared : u.clearReason .returnBacklog k = (u.modLane k fun x => { x with gate := x.gate.put .returnBacklog none }).release k :=
    if_pos (by simpa [Gate.has, Gate.raisedAt, gate, Option.isSome_iff_ne_none] using raised)
  have unheld : (u.modLane k fun x => { x with gate := x.gate.put .returnBacklog none }).machine k = s.machine k :=
    (machine_modLane u k _ rfl).trans machine
  rw [State.machine, lane, cleared]
  rw [State.gate, lane, cleared] at clear
  have blocks := (congrArg (Gate.blocks · c.cycle) (gate_release (u.modLane k fun x => { x with gate := x.gate.put .returnBacklog none }) k k)).symm.trans clear
  obtain ⟨state, -, inFlight⟩ := machine_issueCycle (u.modLane k fun x => { x with gate := x.gate.put .returnBacklog none }) k c.cycle c.turn c.need
  rw [← release_of_clear (by rw [unheld, waiting]) (by rw [unheld, pending]) blocks served] at state inFlight
  exact ⟨state, inFlight⟩

end Cleared

end Sys2Proof.Machine
end

section
/-! SUPPORT. O42, from the lemmas about the three events (R93). -/

namespace Sys2Proof.Machine

/-! ### What a ball at the rack changes (R128, R139, R141) -/

section Rack

variable (s : State) (p : PairIx)

/-- With the track empty or not, the rack count is raised and the lift ordered by it. -/
theorem ballAtRack_raises :
    ((s.ballAtRack p).ret p).ageless = { s.ret p with track := (s.ret p).track.tail, oldest := 0, rack := (s.ret p).raised }
    ∧ ((s.ballAtRack p).station p).lift = (if (s.ret p).threshold ≤ (s.ret p).raised then .pause else .run)
    ∧ ((s.ballAtRack p).station p).lastEvent = (s.station p).lastEvent
    ∧ (s.ballAtRack p).elsewhere (some p) = s.elsewhere (some p) := by
  cases track : (s.ret p).track with
  | nil =>
    have lastEvent : (((s.rackUp p).pauseTest p).station p).lastEvent = (s.station p).lastEvent :=
      (pauseTest_keeps _ p (fun u : State => (u.station p).lastEvent) (fun _ _ => by rw [station_modReturn])
        fun _ _ => by rw [State.setLift, State.station_modStation_self]).trans
      (rackUp_keeps _ p (fun u : State => (u.station p).lastEvent) (fun _ _ => by rw [station_modReturn]) fun _ _ => rfl)
    have elsewhere : ((s.rackUp p).pauseTest p).elsewhere (some p) = s.elsewhere (some p) := (elsewhere_pauseTest ..).trans
      (rackUp_keeps _ p (State.elsewhere (some p)) (fun u f => elsewhere_modReturn u p f) fun _ _ => rfl)
    have record := ret_pauseTest (s.rackUp p) p
    have lift := lift_pauseTest (s.rackUp p) p
    rw [ret_rackUp] at record lift
    rw [ballAtRack_nil track]
    exact ⟨record.trans (by rw [ReturnRec.ageless, track, List.tail_nil]), lift, lastEvent, elsewhere⟩
  | cons e rest =>
    refine ⟨?_, ?_, ?_, ?_⟩
    · exact (ballAtRack_keeps track (fun u : State => (u.ret p).ageless) (fun _ _ _ _ h => by rw [ret_of_outside h])
        fun u => by rw [ret_modReturn]; rfl).trans (ret_delivered s p e rest)
    · exact (ballAtRack_keeps track (fun u : State => (u.station p).lift)
        (fun _ _ _ own h => by subst own; rw [State.station, pair_self_of_outside h])
        fun u => by rw [station_modReturn]).trans (lift_delivered s p e rest)
    · exact (ballAtRack_keeps track (fun u : State => (u.station p).lastEvent) (fun _ _ _ _ h => lastEvent_of_outside h p)
        fun u => by rw [station_modReturn]).trans (lastEvent_delivered s p e rest)
    · exact (ballAtRack_keeps track (State.elsewhere (some p)) (fun _ _ _ own h => elsewhere_of_outside own h)
        fun u => elsewhere_modReturn u p _).trans (elsewhere_delivered s p e rest)

variable {s p}

/-- No lane changes but at the backlog's end. -/
theorem lane_ballAtRack_of_ne (k : LaneIx) (level : (s.ret p).track.length ≠ 7) : (s.ballAtRack p).lane k = s.lane k := by
  cases track : (s.ret p).track with
  | nil =>
    rw [ballAtRack_nil track, State.lane_report]
    exact (pauseTest_keeps _ p (fun u : State => u.lane k) (fun u f => State.lane_modReturn u p f k) fun _ _ => rfl).trans
      (rackUp_keeps _ p (fun u : State => u.lane k) (fun u f => State.lane_modReturn u p f k) fun _ _ => rfl)
  | cons e rest => exact lane_ballAtRack track k fun h => level (by rw [track, List.length_cons, h])

/-- An unexpected ball is reported with the rack count it made, and travels no time. -/
theorem ballAtRack_unexpected (empty : (s.ret p).track = []) :
    (s.ballAtRack p).link = Link.queue (.unexpectedBall p (s.ret p).raised) (s.rackUp p).link
    ∧ ((s.ballAtRack p).pair p).health = (s.pair p).health := by
  have rack : (((s.rackUp p).pauseTest p).ret p).rack = (s.ret p).raised :=
    (congrArg ReturnRec.rack (ret_pauseTest (s.rackUp p) p)).trans (congrArg ReturnRec.rack (ret_rackUp s p))
  have link : ((s.rackUp p).pauseTest p).link = (s.rackUp p).link := pauseTest_keeps _ p State.link (fun _ _ => rfl) fun _ _ => rfl
  have health : (((s.rackUp p).pauseTest p).pair p).health = (s.pair p).health :=
    (pauseTest_keeps _ p (fun u : State => (u.pair p).health) (fun u f => health_modReturn u p f) fun u l => health_setLift u p l).trans
      (rackUp_keeps _ p (fun u : State => (u.pair p).health) (fun u f => health_modReturn u p f) fun _ _ => rfl)
  rw [ballAtRack_nil empty, rack, ← link]
  exact ⟨rfl, health⟩

/-- A ball of the track moves RETURN_TIME by its travel. -/
theorem health_ballAtRack {e : TrackEntry} {rest : List TrackEntry} (track : (s.ret p).track = e :: rest) :
    ((s.ballAtRack p).pair p).health = (s.pair p).health.moved (s.elapsed e.entry) :=
  (ballAtRack_keeps track (fun u : State => (u.pair p).health)
    (fun _ _ _ _ h => (congrArg Pair.health (unstationed_of_outside h p) :)) fun u => health_modReturn u p _).trans
    (health_delivered s p e rest)

/-- The sixth entry left ends the backlog of both lanes (R15). -/
theorem lane_ballAtRack_cleared (level : (s.ret p).track.length = 7) : ∃ u : State, (∀ k, u.lane k = s.lane k)
    ∧ ∀ k, (s.ballAtRack p).lane k = (u.clearBoth .returnBacklog p).lane k := by
  cases track : (s.ret p).track with
  | nil => simp [track] at level
  | cons e rest =>
    have left : rest.length + 1 = 7 := by rwa [track, List.length_cons] at level
    exact ⟨s.delivered p e rest, lane_delivered s p e rest, fun k => lane_ballAtRack_level track k left⟩

/-- Each of them is then without the reason, and changes its machine only where that releases a held cycle. -/
theorem ballAtRack_releases {k : LaneIx} (own : pairOf k = p) (level : (s.ret p).track.length = 7) :
    (s.ballAtRack p).gate k = { s.gate k with returnBacklog := none } ∧ ((s.ballAtRack p).lane k).queue = (s.lane k).queue
    ∧ ((s.machine k).state ≠ .waiting → (s.ballAtRack p).machine k = s.machine k)
    ∧ ∀ c, (s.gate k).returnBacklog ≠ none → (s.machine k).state = .waiting → (s.machine k).pendingCycle = some c →
        c.served = false → ((s.ballAtRack p).gate k).blocks c.cycle = false →
        ((s.ballAtRack p).machine k).state = .cycling ∧ ((s.ballAtRack p).machine k).cycleInFlight = some c.cycle := by
  obtain ⟨v, same, cleared⟩ := lane_ballAtRack_cleared level
  obtain ⟨w, lane, own'⟩ := clearBoth_at (s := v) own .returnBacklog
  have machine : v.machine k = s.machine k := congrArg Lane.machine (same k)
  have gate : v.gate k = s.gate k := congrArg Lane.gate (same k)
  have machine' : (s.ballAtRack p).machine k = (v.clearBoth .returnBacklog p).machine k := congrArg Lane.machine (cleared k)
  have gate' : (s.ballAtRack p).gate k = (v.clearBoth .returnBacklog p).gate k := congrArg Lane.gate (cleared k)
  have gateW : (v.clearBoth .returnBacklog p).gate k = { w.gate k with returnBacklog := none } :=
    (congrArg Lane.gate own').trans (gate_clearBacklog w k)
  have unmoved : w.gate k = v.gate k := congrArg Lane.gate lane
  rw [machine', gate', cleared k, ← machine, ← gate, ← same k]
  exact ⟨gateW.trans (by rw [unmoved]), ((State.PairKeeps.refl p v).clearBoth .returnBacklog).queues k,
    machine_clearBoth .returnBacklog p k, fun c => clearBoth_issues own⟩

end Rack

/-- Settles O42, each event by what its operation of PSV or BRM keeps and by its own cases: the lane READY with a head turn or
not, the lane in BALL_DOWN or not, the track empty or not. -/
theorem ballsAndFoulsAreTaken : Obligations.BallsAndFoulsAreTaken := by
  unfold Obligations.BallsAndFoulsAreTaken
  refine ⟨?_, ?_, ?_⟩
  · intro s p side n a hears fits room l entered
    let u := s.heard p a n
    have handed : exec (.statusAnswer a) s = .next (u.ballAtDeck l) := exec_of_hears hears fun side' e => Option.some.inj e ▸ fits
    have own : pairOf l = p := pairOf_laneOf p side
    have ret : u.ret (pairOf l) = s.ret p := by rw [own]; exact ret_heard s p a n
    have room' : (u.ret (pairOf l)).track.length < 8 := by rwa [ret]
    have entry (kind : BallKind) : u.newEntry l kind = ⟨(s.ret p).nextSeq, side, s.returnClock, kind⟩ := by
      rw [State.newEntry, ret, show sideOf l = side from sideOf_laneOf p side]
      rfl
    have settle : u.settleInForce (pairOf l) = s.settleInForce p := by rw [own]; exact settleInForce_heard s p a n
    obtain ⟨kept, nextSeq, rack⟩ := ballAtDeck_keeps room'
    rw [own] at kept
    have stands := kept.entry
    simp only [Station.entry, Prod.mk.injEq] at stands
    obtain ⟨-, -, missed, -, lastEvent⟩ := stands
    have elsewhere := kept.elsewhere.trans (elsewhere_heard s p a n)
    rw [ret, own] at nextSeq rack
    refine ⟨_, handed, lastEvent.trans (lastEvent_heard s p a n), missed.trans (missed_heard s p a n), congrArg Bus.exchange kept.bus,
      nextSeq, rack, fun turn ready head => ?_, fun stray => ?_, kept.queues l, fun k away => lane_of_elsewhere elsewhere fun e =>
        away (Option.some.inj e).symm, fun q away => pair_of_elsewhere elsewhere fun e => away (Option.some.inj e).symm⟩
    · obtain ⟨machine, track⟩ := ballAtDeck_scored (s := u) ready head room'
      obtain ⟨state, ball, timer, armed, rerack⟩ := machine_ballOpened (s := u) (l := l) turn
      rw [ret, own, entry] at track
      rw [settle] at timer
      rw [machine]
      exact ⟨state, ball, timer, armed, rerack, track⟩
    · obtain ⟨machine, track⟩ := ballAtDeck_unscored (s := u) stray room'
      rw [ret, own, entry] at track
      exact ⟨machine, track⟩
  · intro s p side n a hears fits l
    let u := s.heard p a n
    have handed : exec (.statusAnswer a) s = .next (u.foul l) := exec_of_hears hears fun side' e => Option.some.inj e ▸ fits
    have outside : (u.foul l).outside l = u.outside l := outside_foul l u
    refine ⟨_, handed, (lastEvent_of_outside outside p).trans (lastEvent_heard s p a n), (lane_foul u l :),
      fun k other => (lane_of_outside outside other :), fun ready head => ?_, fun down => ?_, fun up late => ?_⟩
    · rw [foul_of_ready (s := u) ready head, State.machine_modMachine_self]
      exact ⟨rfl, rfl⟩
    · rw [foul_of_ballDown (s := u) down, State.machine_modMachine_self]
      exact ⟨rfl, rfl⟩
    · rw [foul_late (s := u) up late]
      exact ⟨rfl, rfl⟩
  · intro s p n a hears most full told
    let u := s.heard p a n
    have handed : exec (.statusAnswer a) s = .next (u.ballAtRack p) := exec_of_hears hears fun _ e => nomatch e
    have ret : u.ret p = s.ret p := ret_heard s p a n
    have entries : (u.ret p).track = (s.ret p).track := congrArg ReturnRec.track ret
    have health : (u.pair p).health = (s.pair p).health := health_heard s p a n
    obtain ⟨record, lift, lastEvent, away⟩ := ballAtRack_raises u p
    rw [ret] at record lift
    have elsewhere := away.trans (elsewhere_heard s p a n)
    have rack : ((u.ballAtRack p).ret p).rack = (s.ret p).raised := (congrArg ReturnRec.rack record :)
    refine ⟨_, handed, lastEvent.trans (lastEvent_heard s p a n), rack, (congrArg ReturnRec.track record :), lift.trans (by rw [rack]),
      (congrArg ReturnRec.jamStanding record :), fun q other => pair_of_elsewhere elsewhere fun e => other (Option.some.inj e).symm,
      fun k where' => ?_, fun empty => ?_, fun e rest track => ⟨fun old new before after => ?_, fun exceeds room => ?_, fun more => ?_⟩,
      fun level k own => ?_⟩
    · obtain other | level := where'
      · exact lane_of_elsewhere elsewhere fun e => other (Option.some.inj e).symm
      · exact (lane_ballAtRack_of_ne (s := u) k (by rwa [ret]) :)
    · obtain ⟨link, still⟩ := ballAtRack_unexpected (s := u) (entries.trans empty)
      rw [link_rackUp, ret] at link
      rw [rack]
      exact ⟨link, still.trans health⟩
    · rw [health_ballAtRack (s := u) (entries.trans track), health, ← before] at after
      subst after
      exact ⟨rfl, rfl, rfl, rfl⟩
    · have told' := rackOverflow_delivered u p e rest (by rwa [State.rackFull, ret]) room
      rw [ret] at told'
      exact told_ballAtRack (s := u) (entries.trans track) _ told' (by simp [Report.rank, Report.cls, ReportClass.rank])
    · exact oldest_ballAtRack (s := u) (entries.trans track) more
    · exact (ballAtRack_releases (s := u) own (by rwa [ret]) :)

end Sys2Proof.Machine
end

section
/-! SUPPORT. One machine record: what its soundness reads, the states that may be entered with nothing in hand, and each
operation of the Pinsetter Supervisor on a lane that leaves the lane's own record sound (R100, R101, R103). -/

namespace Sys2Proof.Machine

namespace MachineRec

variable {m m' : MachineRec}

/-- What the soundness of a machine record reads of it. -/
def gist (m : MachineRec) : MachineState × Bool × Bool × Bool × Bool × Bool :=
  (m.state, m.pendingCycle.isSome, m.cycleInFlight.isSome, m.inFlight.isSome, m.ball.isSome, m.armedFoul)

theorem sound_congr (same : m'.gist = m.gist) (h : m.sound) : m'.sound := by
  simp only [gist, Prod.mk.injEq] at same
  obtain ⟨state, pending, cycle, inFlight, ball, armed⟩ := same
  rwa [sound, state, pending, cycle, inFlight, ball, armed]

theorem cycleInFlight_of_none (h : m.inFlight = none) : m.cycleInFlight = none := by rw [cycleInFlight, h]

/-- The machine holds no ball and runs no command, and a foul is armed on it only in READY. -/
structure Clear (m : MachineRec) : Prop where
  ball : m.ball = none
  inFlight : m.inFlight = none
  armed : m.armedFoul = true → m.state = .ready

/-- A sound machine is clear but where a ball or a command may be in hand. -/
theorem sound.clear (h : m.sound) (state : m.state ∉ [.ballDown, .reading, .cycling, .linkLost]) : m.Clear := by
  obtain ⟨-, -, inFlight, -, ball, armed⟩ := h
  simp only [List.mem_cons, List.not_mem_nil, or_false, not_or] at state
  obtain ⟨down, reading, cycling, lost⟩ := state
  refine ⟨Option.not_isSome_iff_eq_none.1 fun e => ?_, Option.not_isSome_iff_eq_none.1 fun e => ?_, armed⟩
  · exact (ball e).elim down (Or.rec reading lost)
  · exact (inFlight e).elim cycling reading

/-- Nothing is pending outside WAITING. -/
theorem sound.unpending (h : m.sound) (state : m.state ≠ .waiting) : m.pendingCycle = none :=
  Option.not_isSome_iff_eq_none.1 fun e => state (h.1.1 e)

/-- A state entered with what it asks for in hand. -/
theorem sound_enter {st : MachineState} (pending : m.pendingCycle.isSome = true ↔ st = .waiting)
    (cycle : m.cycleInFlight.isSome = true ↔ st = .cycling) (inFlight : m.inFlight.isSome = true → st = .cycling ∨ st = .reading)
    (down : st = .ballDown ∨ st = .reading → m.ball.isSome = true)
    (ball : m.ball.isSome = true → st = .ballDown ∨ st = .reading ∨ st = .linkLost)
    (armed : m.armedFoul = true → m.state = .ready) : (m.enter st).sound := by
  have cycle' : (m.enter st).cycleInFlight = m.cycleInFlight := by simp only [cycleInFlight, enter_inFlight]
  have armed' : (m.enter st).armedFoul = true → st = .ready := by
    unfold enter
    split
    · rename_i same
      exact fun e => same ▸ armed e
    · intro e
      obtain ⟨foul, left⟩ := Bool.and_eq_true_iff.1 e
      exact absurd (armed foul) (of_decide_eq_true left)
  rw [sound, enter_state, enter_pendingCycle, cycle', enter_inFlight, enter_ball]
  exact ⟨pending, cycle, inFlight, down, ball, armed'⟩

/-- With nothing in hand a machine may enter any state but those of a ball and of a cycle in flight. -/
theorem Clear.enter (h : m.Clear) {st : MachineState} (pending : m.pendingCycle.isSome = true ↔ st = .waiting)
    (state : st ∉ [.ballDown, .reading, .cycling]) : (m.enter st).sound := by
  simp only [List.mem_cons, List.not_mem_nil, or_false, not_or] at state
  obtain ⟨down, reading, cycling⟩ := state
  refine sound_enter pending ?_ ?_ (fun e => absurd e (not_or.2 ⟨down, reading⟩)) ?_ h.armed
  · rw [cycleInFlight_of_none h.inFlight]
    exact iff_of_false Bool.false_ne_true cycling
  · rw [h.inFlight]
    exact nofun
  · rw [h.ball]
    exact nofun

/-- With nothing in hand or pending a machine may enter any state that asks for neither. -/
theorem Clear.settle {st : MachineState} (state : st ∉ [.waiting, .ballDown, .reading, .cycling]) (pending : m.pendingCycle = none)
    (h : m.Clear) : (m.enter st).sound := by
  simp only [List.mem_cons, List.not_mem_nil, or_false, not_or] at state
  exact h.enter (by simp [pending, state]) (by simp [state])

end MachineRec

/-! ### The lane's own record -/

section Own

variable {s : State} {l : LaneIx}

@[simp] theorem machine_cutPower (s : State) (l : LaneIx) : (s.cutPower l).machine l
    = { s.machine l with warmed := false, pendingCycle := none, inFlight := none, timer := none } := by
  rw [State.cutPower, machine_setPower, State.machine_modMachine_self]

@[simp] theorem machine_forgetDeck (s : State) (l : LaneIx) : (s.forgetDeck l).machine l = { s.machine l with deck := .unknown } :=
  State.machine_modMachine_self ..

theorem machine_serviceOut (s : State) (l : LaneIx) : (s.serviceOut l).machine l = ({ s.machine l with
    warmed := false, pendingCycle := none, inFlight := none, timer := none, deck := .unknown, removal := .unordered
    powerOffPending := false, armedFoul := false, jamStanding := false } : MachineRec).enter .outOfService := by
  rw [State.serviceOut, machine_enter, State.machine_modMachine_self, machine_forgetDeck, machine_cutPower]

theorem machine_powerDown (s : State) (l : LaneIx) : (s.powerDown l).machine l = ({ s.machine l with
    warmed := false, pendingCycle := none, inFlight := none, timer := none, deck := .unknown
    powerOffPending := false } : MachineRec).enter .poweredDown := by
  rw [State.powerDown, machine_enter, State.machine_modMachine_self, machine_forgetDeck, machine_cutPower]

theorem machine_wake (s : State) (l : LaneIx) : (s.wake l).machine l = ({ s.machine l with
    warmed := false, timer := some ⟨.warmUp, s.returnClock, (s.pair (pairOf l)).settings.warmUp⟩ } : MachineRec).enter .waking := by
  rw [State.wake, machine_enter, State.startTimer, State.machine_modMachine_self, State.sendPowerOn, State.machine_modMachine_self,
    machine_setPower]
  rfl

theorem machineSound_holdCycle (h : (s.machine l).Clear) (c : Cycle) (served : Bool) : ((s.holdCycle l c served).machine l).sound := by
  rw [State.holdCycle, machine_enter, State.machine_modMachine_self]
  refine MachineRec.Clear.enter ?_ ?_ (by decide)
  · exact ⟨h.ball, h.inFlight, h.armed⟩
  · exact iff_of_true rfl rfl

theorem machineSound_makeReady (h : (s.machine l).Clear) : ((s.makeReady l).machine l).sound := by
  rw [State.makeReady, machine_enter, State.machine_modMachine_self]
  refine MachineRec.Clear.settle (by decide) rfl ?_
  exact ⟨h.ball, h.inFlight, h.armed⟩

theorem machineSound_makeEmpty (h : (s.machine l).Clear) : ((s.makeEmpty l).machine l).sound := by
  rw [State.makeEmpty, machine_enter, State.machine_modMachine_self]
  refine MachineRec.Clear.settle (by decide) rfl ?_
  exact ⟨h.ball, h.inFlight, h.armed⟩

theorem machineSound_issueCycle (h : (s.machine l).Clear) (c : Cycle) (turn : Option Turn) (need : Option Need) :
    ((s.issueCycle l c turn need).machine l).sound := by
  rw [State.issueCycle, machine_enter, machine_handCommand, State.machine_modMachine_self]
  exact MachineRec.sound_enter (by simp) (iff_of_true rfl rfl) (fun _ => .inl rfl) (by simp) (by simp [h.ball]) h.armed

theorem machineSound_startCycle (h : (s.machine l).Clear) (c : Cycle) : ((s.startCycle l c).machine l).sound := by
  unfold State.startCycle
  split
  · exact machineSound_holdCycle h c _
  · exact machineSound_issueCycle h c _ _

theorem machineSound_serve (h : (s.machine l).Clear) (c : Cycle) : ((s.serve l c).machine l).sound := by
  unfold State.serve
  split
  · exact machineSound_holdCycle h c _
  · exact machineSound_makeReady h

theorem machineSound_serviceOut (ball : (s.machine l).ball = none) : ((s.serviceOut l).machine l).sound := by
  rw [machine_serviceOut]
  refine MachineRec.Clear.settle (by decide) rfl ?_
  exact ⟨ball, rfl, nofun⟩

theorem machineSound_powerDown (h : (s.machine l).Clear) : ((s.powerDown l).machine l).sound := by
  rw [machine_powerDown]
  refine MachineRec.Clear.settle (by decide) rfl ?_
  exact ⟨h.ball, rfl, h.armed⟩

theorem machineSound_idlePowerOff (h : (s.machine l).Clear) : ((s.idlePowerOff l).machine l).sound := by
  unfold State.idlePowerOff
  split
  · rw [machine_enter, machine_cutPower]
    refine MachineRec.Clear.settle (by decide) rfl ?_
    exact ⟨h.ball, rfl, h.armed⟩
  · rw [machine_enter, machine_forgetDeck, machine_cutPower]
    refine MachineRec.Clear.settle (by decide) rfl ?_
    exact ⟨h.ball, rfl, h.armed⟩

theorem machineSound_wake (h : (s.machine l).Clear) (pending : (s.machine l).pendingCycle = none) : ((s.wake l).machine l).sound := by
  rw [machine_wake]
  refine MachineRec.Clear.settle (by decide) pending ?_
  exact ⟨h.ball, h.inFlight, h.armed⟩

/-- A machine asleep is sound whether or not a head wakes it. -/
theorem machineSound_wakeForHead (h : (s.machine l).sound) (asleep : (s.machine l).state = .poweredDown ∨ (s.machine l).state = .standby) :
    ((s.wakeForHead l).machine l).sound := by
  have clear := h.clear (by rcases asleep with e | e <;> rw [e] <;> decide)
  have pending := h.unpending (by rcases asleep with e | e <;> rw [e] <;> decide)
  exact State.when_preserves (fun t => (t.machine l).sound) _ _ s h fun _ _ => machineSound_wake clear pending

/-- POWERED_DOWN is entered with nothing in hand, and left again for a head. -/
theorem machineSound_sleep {m : MachineRec} (same : s.machine l = m) (h : m.Clear) (pending : m.pendingCycle = none) :
    (((s.enter l .poweredDown).wakeForHead l).machine l).sound := by
  have entered : ((s.enter l .poweredDown).machine l).sound := by
    rw [machine_enter, same]
    exact h.enter (by simp [pending]) (by decide)
  exact machineSound_wakeForHead entered (.inl (by rw [machine_enter, MachineRec.enter_state]))

theorem machineSound_rest (h : (s.machine l).sound) : ((s.rest l).machine l).sound := by
  simp only [State.rest]
  split
  · exact h
  · rename_i resting
    have clear : (s.machine l).Clear := h.clear fun busy => resting <| by
      revert busy
      cases (s.machine l).state <;> decide
    repeat' split
    · exact machineSound_serviceOut clear.ball
    · exact machineSound_powerDown clear
    · exact h

theorem machineSound_follow (h : (s.machine l).Clear) (d : Derived) : ((s.follow l d).machine l).sound := by
  unfold State.follow
  cases d with
  | start c => exact machineSound_rest (machineSound_startCycle h c)
  | serve c => exact machineSound_rest (machineSound_serve h c)
  | deckEmpty => exact machineSound_rest (machineSound_makeEmpty h)
  | ready => exact machineSound_rest (machineSound_makeReady h)

theorem machineSound_derive (h : (s.machine l).Clear) : ((s.derive l).machine l).sound := machineSound_follow h _

theorem machineSound_afterBall (h : (s.machine l).Clear) (pending : (s.machine l).pendingCycle = none) (need : Need) (orphan onReturn : Bool) :
    ((s.afterBall l need orphan onReturn).machine l).sound := by
  simp only [State.afterBall]
  repeat' split
  · exact machineSound_serviceOut h.ball
  · refine machineSound_sleep (m := { s.machine l with warmed := false, deck := .unknown }) ?_ ⟨h.ball, h.inFlight, h.armed⟩ pending
    rw [machine_setPower, machine_forgetDeck, State.machine_modMachine_self]
  · exact machineSound_rest (machineSound_startCycle h _)

theorem machineSound_headTold (h : (s.machine l).sound) : ((s.headTold l).machine l).sound := by
  unfold State.headTold
  split
  · exact machineSound_wakeForHead h (.inr ‹_›)
  · exact machineSound_wakeForHead h (.inl ‹_›)
  · rename_i e
    exact machineSound_derive (h.clear (by rw [e]; decide))
  · rename_i e
    exact machineSound_derive (h.clear (by rw [e]; decide))
  · rename_i e
    have clear := h.clear (by rw [e]; decide)
    refine machineSound_derive ?_
    rw [State.machine_modMachine_self]
    exact ⟨clear.ball, clear.inFlight, nofun⟩
  · exact h

theorem machineSound_release (h : (s.machine l).sound) : ((s.release l).machine l).sound := by
  unfold State.release
  split
  · rename_i e _
    have clear := h.clear (by rw [e]; decide)
    repeat' split
    · exact h
    · exact machineSound_rest (machineSound_makeReady clear)
    · exact machineSound_issueCycle clear _ _ _
  · exact h

theorem machineSound_removalOrder (h : (s.machine l).sound) : ((s.removalOrder l).machine l).sound := by
  have out : ((s.modMachine l fun m => { m with service := .out }).machine l).sound := by
    rw [State.machine_modMachine_self]
    exact MachineRec.sound_congr rfl h
  have later : (((s.modMachine l fun m => { m with service := .out }).modMachine l fun m => { m with removal := .health }).machine l).sound := by
    rw [State.machine_modMachine_self]
    exact MachineRec.sound_congr rfl out
  have gone (state : (s.machine l).state ∉ [.ballDown, .reading, .cycling, .linkLost]) :
      (((s.modMachine l fun m => { m with service := .out }).serviceOut l).machine l).sound :=
    machineSound_serviceOut (by rw [State.machine_modMachine_self]; exact (h.clear state).ball)
  have idle (state : (s.machine l).state ∉ [.ballDown, .reading, .cycling, .linkLost]) :
      ((if s.headIdle l then (s.modMachine l fun m => { m with service := .out }).serviceOut l
        else (s.modMachine l fun m => { m with service := .out }).modMachine l fun m => { m with removal := .health }).machine l).sound := by
    split
    · exact gone state
    · exact later
  simp only [State.removalOrder]
  split
  · exact h
  · cases e : (s.machine l).state with
    | poweredDown | deckEmpty | waiting | ready | standby | waking => exact idle (by rw [e]; decide)
    | jammed => exact gone (by rw [e]; decide)
    | linkLost => exact out
    | ballDown | reading | cycling => exact later
    | outOfService => exact h

/-- The report of a jam (R111). -/
def State.jamReport (s : State) (l : LaneIx) (cause : JamCause) : Report :=
  .machineJam l cause ((s.machine l).inFlight.map (·.op)) (s.machine l).ball.isSome

/-- A jam is taken and reported, and then come a pending removal and the order of HMN (R111). -/
theorem jam_eq (s : State) (l : LaneIx) (cause : JamCause) : s.jam l cause
    = (((s.jamTaken l).report (s.jamReport l cause)).when ((s.machine l).removal ≠ .unordered) (State.serviceOut l)).when
      (s.outcomeOrders l ⟨(s.machine l).cycleInFlight, false, 0, false⟩) (State.removalOrder l) := rfl

/-- A jam leaves nothing in hand, whatever was (R111). -/
theorem machineSound_jam (s : State) (l : LaneIx) (cause : JamCause) : ((s.jam l cause).machine l).sound := by
  have jammed : ((s.jamTaken l).machine l).sound := by
    rw [machine_jamTaken]
    refine MachineRec.Clear.settle (by decide) rfl ?_
    exact ⟨rfl, rfl, nofun⟩
  have ball : ((s.jamTaken l).machine l).ball = none := by
    rw [machine_jamTaken, MachineRec.enter_ball, MachineRec.jam]
  rw [jam_eq]
  generalize s.jamTaken l = t at jammed ball
  have told := State.when_preserves (fun u => (u.machine l).sound) ((s.machine l).removal ≠ .unordered) (State.serviceOut l)
    (t.report (s.jamReport l cause)) jammed fun _ _ => machineSound_serviceOut ball
  exact State.when_preserves (fun u => (u.machine l).sound) _ _ _ told fun _ h => machineSound_removalOrder h

theorem machineSound_machineJam (h : (s.machine l).sound) (source : JamSource) : ((s.machineJam l source).machine l).sound := by
  unfold State.machineJam
  split
  · exact machineSound_jam s l _
  · exact h

theorem machineSound_foul (h : (s.machine l).sound) : ((s.foul l).machine l).sound := by
  unfold State.foul
  split
  · rename_i ready _
    obtain ⟨pending, cycle, inFlight, down, ball, -⟩ := h
    rw [State.machine_modMachine_self]
    exact ⟨pending, cycle, inFlight, down, ball, fun _ => ready⟩
  · rw [State.machine_modMachine_self]
    exact MachineRec.sound_congr (by simp [MachineRec.gist, MachineRec.cycleInFlight]) h
  · exact h

theorem machineSound_moveOn (h : (s.machine l).Clear) (c : Cycle) (turn : Option Turn) (need : Option Need) :
    ((s.moveOn l c turn need).machine l).sound := by
  unfold State.moveOn
  repeat' split
  · exact machineSound_derive h
  · exact machineSound_derive h
  · exact machineSound_rest (machineSound_makeEmpty h)
  · exact machineSound_rest (machineSound_makeReady h)
  · exact machineSound_derive h

theorem clear_completed (h : (s.machine l).sound) (cycling : (s.machine l).state = .cycling) (c : Cycle) (set : PinSet) (o : CycleOutcome) :
    ((s.completed l c set o).machine l).Clear := by
  obtain ⟨-, -, -, -, ball, armed⟩ := h
  rw [cycling] at ball armed
  have none_down : (s.machine l).ball = none := Option.not_isSome_iff_eq_none.1 fun e => by simpa using ball e
  have unarmed : (s.machine l).armedFoul = false := Bool.eq_false_of_not_eq_true fun e => nomatch armed e
  have clear : ({ s.machine l with inFlight := none, deck := deckOf set } : MachineRec).Clear :=
    ⟨none_down, rfl, fun e => nomatch unarmed.symm.trans e⟩
  rw [machine_completed]
  unfold MachineRec.complete
  split
  · exact ⟨clear.ball, rfl, clear.armed⟩
  · exact ⟨clear.ball, rfl, clear.armed⟩
  · exact clear

theorem machineSound_cycleDone (h : (s.machine l).sound) (set : PinSet) : ((s.cycleDone l set).machine l).sound := by
  simp only [State.cycleDone]
  split
  · rename_i f cycling _
    split
    · exact h
    · rename_i c _
      have clear := clear_completed h cycling c set
      refine State.when_preserves (fun t => (t.machine l).sound) _ _ _ ?_ fun _ h => machineSound_removalOrder h
      split
      · exact machineSound_serviceOut (clear _).ball
      · exact machineSound_moveOn (clear _) c _ _
  · exact h

/-- A loss leaves nothing in hand but the ball (R119). -/
theorem machineSound_loseLane (s : State) (l : LaneIx) (silent : Bool) : ((s.loseLane silent l).machine l).sound := by
  have torn (m : MachineRec) (pending : m.pendingCycle = none) (inFlight : m.inFlight = none) (unarmed : m.armedFoul = false) :
      (m.enter .linkLost).sound := by
    refine MachineRec.sound_enter (by simp [pending]) (by simp [MachineRec.cycleInFlight_of_none inFlight]) (by simp [inFlight]) (by simp)
      (fun _ => .inr (.inr rfl)) (by simp [unarmed])
  simp only [State.loseLane]
  split
  · rw [machine_enterSilent, State.machine_modMachine_self]
    split <;> exact torn _ rfl rfl rfl
  · rw [machine_enter, State.machine_modMachine_self]
    split <;> exact torn _ rfl rfl rfl

/-- A lane returned to READING has its ball, and returned elsewhere it has nothing in hand (R120). -/
theorem machineSound_returnLane (h : (s.machine l).sound) (power : Power) : ((s.returnLane l power).machine l).sound := by
  obtain ⟨-, -, -, -, -, armed⟩ := h
  have dropped : (s.dropInHand l).machine l = { s.machine l with inFlight := none, timer := none, pendingCycle := none } :=
    State.machine_modMachine_self ..
  simp only [State.returnLane]
  generalize s.dropInHand l = t at dropped
  have same : (t.machine l).ball = (s.machine l).ball ∧ (t.machine l).inFlight = none ∧ (t.machine l).pendingCycle = none
      ∧ ((t.machine l).armedFoul = true → (t.machine l).state = .ready) := by
    rw [dropped]
    exact ⟨rfl, rfl, rfl, armed⟩
  obtain ⟨-, inFlight, pending, armed⟩ := same
  have powered : ∃ w, (t.when (power = .off) (State.sendPowerOn l)).machine l = { t.machine l with warmed := w } := by
    obtain e | e := State.when_cases (power = .off) (State.sendPowerOn l) t
    · exact ⟨false, by rw [e, State.sendPowerOn, State.machine_modMachine_self, machine_setPower]⟩
    · exact ⟨_, by rw [e]⟩
  obtain ⟨w, powered⟩ := powered
  split
  · rename_i b ball
    rw [machine_enter, State.issueRead, machine_handCommand, State.machine_modMachine_self, State.machine_modMachine_self, powered]
    refine MachineRec.sound_enter ?_ ?_ (fun _ => .inr rfl) (fun _ => ?_) (fun _ => .inr (.inl rfl)) armed
    · simp [pending]
    · exact iff_of_false Bool.false_ne_true nofun
    · simp [ball]
  · rename_i ball
    have clear : (t.machine l).Clear := ⟨ball, inFlight, armed⟩
    split
    · have jammed : (((t.when (power = .off) (State.sendPowerOn l)).forgetDeck l).enter l .jammed).machine l
          = ({ t.machine l with warmed := w, deck := .unknown } : MachineRec).enter .jammed := by
        rw [machine_enter, machine_forgetDeck, powered]
      refine State.when_preserves (fun u => (u.machine l).sound) _ _ _ ?_ fun _ _ => machineSound_serviceOut ?_
      · rw [jammed]
        refine MachineRec.Clear.settle (by decide) pending ?_
        exact ⟨ball, inFlight, armed⟩
      · rw [jammed, MachineRec.enter_ball]
        exact ball
    · split
      · exact machineSound_serviceOut ball
      · split
        · refine machineSound_sleep (m := { t.machine l with warmed := false, deck := .unknown }) ?_ ⟨ball, inFlight, armed⟩ pending
          rw [machine_forgetDeck, State.machine_modMachine_self]
        · exact machineSound_wake clear pending
        · refine machineSound_derive ?_
          rw [machine_forgetDeck]
          exact ⟨ball, inFlight, armed⟩

end Own

end Sys2Proof.Machine
end

section
/-! SUPPORT. The machine records through what the gate, the meters and the turns do: MachinesHold says that every lane's record
is sound but on the lanes of E, whose ball is finished and handed to the Scoring Engine and whose machine is yet to be moved on.
Nothing of what comes in between touches such a machine. -/

namespace Sys2Proof.Machine

/-- The machine's ball is finished, and it stands in READING with nothing in hand until it is moved on (R106). -/
structure MachineRec.Finished (m : MachineRec) : Prop where
  state : m.state = .reading
  pending : m.pendingCycle = none
  clear : m.Clear

theorem MachineRec.Finished.congr {m m' : MachineRec} (same : m'.gist = m.gist) (h : m.Finished) : m'.Finished := by
  simp only [MachineRec.gist, Prod.mk.injEq] at same
  obtain ⟨state, pending, -, inFlight, ball, armed⟩ := same
  refine ⟨state.trans h.state, ?_, ⟨?_, ?_, fun e => state.trans (h.clear.armed (armed ▸ e))⟩⟩
  · rw [← Option.isNone_iff_eq_none, ← Option.not_isSome, pending, h.pending]
    rfl
  · rw [← Option.isNone_iff_eq_none, ← Option.not_isSome, ball, h.clear.ball]
    rfl
  · rw [← Option.isNone_iff_eq_none, ← Option.not_isSome, inFlight, h.clear.inFlight]
    rfl

/-- The machines of the lanes of E have their ball finished, and every other lane's machine record is sound. -/
structure State.MachinesHold (E : Set LaneIx) (s : State) : Prop where
  sound : ∀ l, l ∉ E → (s.machine l).sound
  finished : ∀ l, l ∈ E → (s.machine l).Finished

theorem machinesSound_iff (s : State) : s.machinesSound ↔ s.MachinesHold ∅ :=
  ⟨fun h => ⟨fun l _ => h l, fun _ => False.elim⟩, fun h l => h.sound l (Set.notMem_empty l)⟩

namespace State.MachinesHold

variable {E : Set LaneIx} {t u : State}

theorem ite (c : Prop) [Decidable c] (ht : State.MachinesHold E t) (hu : State.MachinesHold E u) :
    State.MachinesHold E (if c then t else u) := by
  split
  · exact ht
  · exact hu

variable (h : State.MachinesHold E t)

include h

/-! ### The updates -/

theorem of_gist (same : ∀ k, (u.machine k).gist = (t.machine k).gist) : State.MachinesHold E u :=
  ⟨fun k out => MachineRec.sound_congr (same k) (h.sound k out), fun k mem => (h.finished k mem).congr (same k)⟩

theorem of_machine (same : ∀ k, u.machine k = t.machine k) : State.MachinesHold E u := h.of_gist fun k => congrArg _ (same k)

theorem of_lanes (same : u.lanes = t.lanes) : State.MachinesHold E u :=
  h.of_machine fun k => by rw [State.machine, State.lane, same, State.machine, State.lane]

/-- An operation of PSV on lane l that keeps its record sound, and leaves it alone while its finished ball is being scored. -/
theorem of_outside {l : LaneIx} (outside : u.outside l = t.outside l) (own : l ∉ E → (t.machine l).sound → (u.machine l).sound)
    (busy : (t.machine l).state = .reading → u.machine l = t.machine l) : State.MachinesHold E u := by
  have other (k : LaneIx) (e : k ≠ l) : u.machine k = t.machine k := congrArg Lane.machine (lane_of_outside outside e)
  refine ⟨fun k out => ?_, fun k mem => ?_⟩
  · by_cases e : k = l
    · subst e
      exact own out (h.sound k out)
    · rw [other k e]
      exact h.sound k out
  · have same : u.machine k = t.machine k := by
      by_cases e : k = l
      · subst e
        exact busy (h.finished k mem).state
      · exact other k e
    rw [same]
    exact h.finished k mem

theorem modLane (l : LaneIx) {f : Lane → Lane} (same : (f (t.lane l)).machine.gist = (t.lane l).machine.gist) :
    State.MachinesHold E (t.modLane l f) := h.of_gist (field_modLane (fun x => x.machine.gist) same)

theorem modMachine (l : LaneIx) {f : MachineRec → MachineRec} (same : (f (t.machine l)).gist = (t.machine l).gist) :
    State.MachinesHold E (t.modMachine l f) := h.modLane l same

theorem modAccount (l : LaneIx) (f : Account → Account) : State.MachinesHold E (t.modAccount l f) := h.modLane l rfl

theorem modGame (home : LaneIx) (slot number : Nat) (f : Game → Game) : State.MachinesHold E (t.modGame home slot number f) :=
  h.modLane home rfl

theorem modBowlerOf (l : LaneIx) (slot : Nat) (f : Bowler → Bowler) : State.MachinesHold E (t.modBowlerOf l slot f) := h.modLane l rfl

/-- A change of the queue sets the idle count alone of the machine (R113). -/
theorem setQueue (l : LaneIx) (q : List Turn) : State.MachinesHold E (t.setQueue l q) := h.modLane l (by split <;> rfl)

theorem modPair (p : PairIx) (f : Pair → Pair) : State.MachinesHold E (t.modPair p f) := h.of_lanes rfl
theorem modStation (p : PairIx) (f : Station → Station) : State.MachinesHold E (t.modStation p f) := h.of_lanes rfl
theorem modReturn (p : PairIx) (f : ReturnRec → ReturnRec) : State.MachinesHold E (t.modReturn p f) := h.of_lanes rfl
theorem modLink (f : Link → Link) : State.MachinesHold E (t.modLink f) := h.of_lanes rfl
theorem modBus (f : Bus → Bus) : State.MachinesHold E (t.modBus f) := h.of_lanes rfl
theorem report (r : Report) : State.MachinesHold E (t.report r) := h.of_lanes rfl
theorem darkTest (p : PairIx) : State.MachinesHold E (t.darkTest p) := h.of_machine fun k => machine_darkTest t p k
theorem setSession (l : LaneIx) (st : SessionState) : State.MachinesHold E (t.setSession l st) := (h.modLane l rfl).darkTest _

theorem when (c : Bool) {f : State → State} (hf : State.MachinesHold E (f t)) : State.MachinesHold E (t.when c f) :=
  State.when_preserves (State.MachinesHold E) c f t h fun _ _ => hf

theorem each {α : Type} (xs : List α) {f : α → State → State} (hf : ∀ x u, State.MachinesHold E u → State.MachinesHold E (f x u)) :
    State.MachinesHold E (t.each xs f) :=
  State.each_preserves (State.MachinesHold E) xs f (fun x _ => hf x) t h

/-! ### The gate -/

theorem raiseReason (r : Reason) (time : DateTime) (l : LaneIx) : State.MachinesHold E (t.raiseReason r time l) :=
  ite _ h (h.modLane l rfl)

theorem release (l : LaneIx) : State.MachinesHold E (t.release l) :=
  h.of_outside (outside_release l t) (fun _ => machineSound_release) fun reading => by
    rw [release_of_not_waiting (by rw [reading]; decide)]

theorem clearReason (r : Reason) (l : LaneIx) : State.MachinesHold E (t.clearReason r l) := ite _ ((h.modLane l rfl).release l) h

theorem headTold (l : LaneIx) : State.MachinesHold E (t.headTold l) :=
  h.of_outside (outside_headTold l t) (fun _ => machineSound_headTold) fun reading => by simp only [State.headTold, reading]

/-! ### The Billing Meter -/

theorem charge (l : LaneIx) (n : Nat) : State.MachinesHold E (t.charge l n) := by
  unfold State.charge
  repeat' split
  · exact h
  · exact h.modAccount l _
  · exact (h.modAccount l _).when _ ((h.modAccount l _).report _)

theorem chargeMinute (l : LaneIx) (rate : Nat) : State.MachinesHold E (t.chargeMinute l rate) := by
  unfold State.chargeMinute
  split
  · exact h
  · exact (h.modAccount l _).charge l _

theorem evaluateBilling (l : LaneIx) : State.MachinesHold E (t.evaluateBilling l) := by
  unfold State.evaluateBilling
  split
  · exact h.clearReason _ l
  · exact ite _ (h.raiseReason _ _ l) (h.clearReason _ l)

theorem evaluateAccount (home : LaneIx) : State.MachinesHold E (t.evaluateAccount home) :=
  h.each _ fun l _ hu => hu.when _ (hu.evaluateBilling l)

theorem allowanceOut (l : LaneIx) (a : Account) : State.MachinesHold E (t.allowanceOut l a) := (h.modAccount l _).report _

theorem firstBall (home : LaneIx) (slot game : Nat) : State.MachinesHold E (t.firstBall home slot game) := by
  have bowled := h.modAccount home (Account.modEntry slot fun e => { e with bowled := true })
  have started := bowled.modAccount home (Account.modEntry slot fun e => { e with lastCounted := game })
  have counted := started.modAccount home fun a => { a with used := min Config.countMax (a.used + 1) }
  simp only [State.firstBall]
  repeat' split
  · exact h
  · exact h
  · exact bowled
  · exact (counted.charge home _).modAccount home _
  · exact (counted.when _ (counted.allowanceOut home _)).evaluateAccount home
  all_goals exact started

/-! ### The Turn Scheduler -/

theorem reportHead (l : LaneIx) : State.MachinesHold E (t.reportHead l) := h.of_machine fun k => congrArg Lane.machine (lane_reportHead t l k)
theorem tellMeter (l : LaneIx) : State.MachinesHold E (t.tellMeter l) := (h.modLane l rfl).evaluateBilling l
theorem handHead (l : LaneIx) : State.MachinesHold E (t.handHead l) := (h.tellMeter l).headTold l
theorem headChanged (l : LaneIx) : State.MachinesHold E (t.headChanged l) := (h.reportHead l).handHead l

theorem handOffs (before : State) (ls : List LaneIx) : State.MachinesHold E (t.handOffs before ls) := h.each _ fun l _ hu => hu.headChanged l

theorem changeMode (p : PairIx) (m : PairMode) (c : ModeCause) : State.MachinesHold E (t.changeMode p m c) := (h.modPair p _).report _
theorem dropPending (p : PairIx) : State.MachinesHold E (t.dropPending p) := h.modPair p _

omit h in
/-- The machines hold through a boundary. -/
theorem keptAtBoundary (E : Set LaneIx) : State.KeptAtBoundary (State.MachinesHold E) where
  begins _ l start _ h := (h.modLane l rfl).setQueue start _
  ends _ l _ h := (h.modLane l rfl).setSession l _
  changes _ p m c h := h.changeMode p m c
  drops _ p h := h.dropPending p
  hands _ before ls h := h.handOffs before ls

theorem takeBoundary (l : LaneIx) : State.MachinesHold E (t.takeBoundary l) := (keptAtBoundary E).takeBoundary h l

theorem retakePair (p : PairIx) : State.MachinesHold E (t.retakePair p) := (h.takeBoundary _).takeBoundary _

theorem clearHold : State.MachinesHold E t.clearHold :=
  each (h.of_lanes (u := { t with hold := false }) rfl) _ fun p _ hu => hu.retakePair p

theorem testBoundary (l : LaneIx) : State.MachinesHold E (t.testBoundary l) :=
  (keptAtBoundary E).testBoundary h fun _ _ => (h.modLane l rfl).report _

theorem frameOver (l : LaneIx) : State.MachinesHold E (t.frameOver l) := by
  simp only [State.frameOver]
  split
  · exact h
  · exact ite _ (((h.setQueue l _).setQueue _ _).handOffs _ _) (((h.setQueue l _).handOffs _ _).testBoundary _)

theorem removeTurn (home : LaneIx) (slot : Nat) : State.MachinesHold E (t.removeTurn home slot) :=
  ((h.setQueue home _).setQueue _ _).handOffs _ _

theorem bringHome (l : LaneIx) : State.MachinesHold E (t.bringHome l) := ite _ h (((h.setQueue _ _).setQueue l _).modLane l rfl)

theorem changeModeNow (p : PairIx) (m : PairMode) : State.MachinesHold E (t.changeModeNow p m) := by
  have changed := h.changeMode p m .request
  cases m with
  | alternate => exact (changed.handOffs _ _).retakePair p
  | separate => exact (((changed.bringHome _).bringHome _).handOffs _ _).retakePair p

theorem closeTurns (c : LaneIx) : State.MachinesHold E (t.closeTurns c) := by
  have dropped : State.MachinesHold E (t.modLane c fun x => { x with boundary := .unmarked }) := h.modLane c rfl
  simp only [State.closeTurns]
  refine takeBoundary (handOffs ?_ _ _) _
  split
  · exact ((dropped.setQueue c _).setQueue _ _).dropPending _
  · exact (((dropped.setQueue _ _).setQueue c _).modLane _ rfl).changeMode _ _ _

/-! ### A ball handed to the Scoring Engine -/

/-- Steps 1 to 6 of R55. -/
theorem recordBall (b : BallIn) (before : Game) : State.MachinesHold E (t.recordBall b before) := by
  have recorded := h.modGame b.turn.home b.turn.slot b.turn.game (Game.addBall b)
  have noted : State.MachinesHold E (t.noted b before) :=
    have reported (r : Report) := (recorded.when (before.balls = []) (recorded.firstBall b.turn.home b.turn.slot b.turn.game)).report r
    (reported _).when _ ((reported _).report _)
  have finished (c : Bool) (after : Game) := noted.when c (f := State.finishGame b.turn after) ((noted.modGame _ _ _ _).report _)
  exact (finished _ _).when _ ((finished _ _).frameOver _)

end State.MachinesHold
end Sys2Proof.Machine
end

section
/-! SUPPORT. The machine records through the Pinsetter Supervisor, a ball, the return, the bus and the seconds. -/

namespace Sys2Proof.Machine

/-! ### The lane of a ball -/

/-- A machine in BALL_DOWN or READING holds its ball, with nothing pending. -/
theorem MachineRec.sound.holds {m : MachineRec} (h : m.sound) (state : m.state = .ballDown ∨ m.state = .reading) :
    m.ball.isSome = true ∧ m.pendingCycle = none := by
  obtain ⟨-, -, -, down, -, -⟩ := id h
  exact ⟨down state, h.unpending (by rcases state with e | e <;> rw [e] <;> decide)⟩

/-- READ_DECK issued on a machine that holds a ball. -/
def MachineRec.issue (again : Bool) (now : Reading) (b : Option PendingBall) (m : MachineRec) : MachineRec :=
  { m with ball := b, inFlight := some ⟨.readDeck again, now, Config.readTimeout, none, none⟩, timer := none }

theorem MachineRec.enter_of_state {m : MachineRec} {st : MachineState} (h : m.state = st) : m.enter st = m := if_pos h

section Own

variable {s : State} {l : LaneIx} (h : (s.machine l).sound)

theorem outside_nextRead (l : LaneIx) (s : State) : (s.nextRead l).outside l = s.outside l := by
  rw [State.nextRead, outside_issueRead, outside_modMachine]

theorem machine_issueRead (s : State) (l : LaneIx) (again : Bool) :
    (s.issueRead l again).machine l = (s.machine l).issue again s.returnClock (s.machine l).ball := by
  rw [State.issueRead, machine_handCommand, State.machine_modMachine_self]
  rfl

theorem machine_nextRead (s : State) (l : LaneIx) : (s.nextRead l).machine l
    = (s.machine l).issue false s.returnClock ((s.machine l).ball.map fun b => { b with reads := b.reads + 1 }) := by
  rw [State.nextRead, machine_issueRead, State.machine_modMachine_self]
  rfl

theorem machine_runOut (start : Reading) (n : Nat) (s : State) (l : LaneIx) : (s.runOut start n).machine l = s.machine l := rfl

/-! The timers of a lane change no other lane. -/

section Others

variable {k : LaneIx} (s : State) (e : k ≠ l)

include e

theorem lane_settleOut_ne : (s.settleOut l).lane k = s.lane k := by
  unfold State.settleOut
  split
  · exact (lane_of_outside ((outside_enter l _ _).trans (outside_nextRead l _)) e).trans rfl
  · rfl

theorem lane_rereadOut_ne : (s.rereadOut l).lane k = s.lane k := by
  unfold State.rereadOut
  split
  · exact (lane_of_outside (outside_nextRead l _) e).trans rfl
  · rfl

theorem lane_readOut_ne : (s.readOut l).lane k = s.lane k := by
  unfold State.readOut
  split
  · split
    · exact (lane_of_outside (outside_jam l _ _) e).trans rfl
    · exact (lane_of_outside (outside_issueRead l _ _) e).trans rfl
  · rfl

theorem lane_cycleOut_ne : (s.cycleOut l).lane k = s.lane k := by
  unfold State.cycleOut
  split
  · exact (lane_of_outside (outside_jam l _ _) e).trans rfl
  · rfl

theorem lane_warmUpOut_ne : (s.warmUpOut l).lane k = s.lane k := by
  unfold State.warmUpOut
  split
  · exact (lane_of_outside ((outside_derive l _).trans (outside_modMachine l _ _)) e).trans rfl
  · rfl

end Others

theorem outside_testIdle (l : LaneIx) (s : State) : (s.testIdle l).outside l = s.outside l := by
  unfold State.testIdle
  split <;> simp

theorem outside_testOnTime (l : LaneIx) (s : State) : (s.testOnTime l).outside l = s.outside l := by
  unfold State.testOnTime
  split
  · exact outside_powerDown l s
  · exact outside_testIdle l s

include h

/-- A read issued on a machine in BALL_DOWN or READING, in READING (R104, R105, R120). -/
theorem machineSound_issue (state : (s.machine l).state = .ballDown ∨ (s.machine l).state = .reading) (again : Bool) (now : Reading)
    {b : Option PendingBall} (same : b.isSome = (s.machine l).ball.isSome) :
    (((s.machine l).issue again now b).enter .reading).sound := by
  obtain ⟨ball, pending⟩ := h.holds state
  obtain ⟨-, -, -, -, -, armed⟩ := h
  refine MachineRec.sound_enter ?_ ?_ (fun _ => .inr rfl) (fun _ => ?_) (fun _ => .inr (.inl rfl)) armed
  · simp [MachineRec.issue, pending]
  · exact iff_of_false Bool.false_ne_true nofun
  · exact same.trans ball

theorem machineSound_settleOut : ((s.settleOut l).machine l).sound := by
  unfold State.settleOut
  split
  · rename_i down _
    rw [machine_enter, machine_nextRead, machine_runOut]
    exact machineSound_issue h (.inl down) _ _ (by simp)
  · exact h

theorem machineSound_rereadOut : ((s.rereadOut l).machine l).sound := by
  unfold State.rereadOut
  split
  · rename_i reading _
    rw [machine_nextRead, machine_runOut, ← MachineRec.enter_of_state (m := (s.machine l).issue ..) reading]
    exact machineSound_issue h (.inr reading) _ _ (by simp)
  · exact h

theorem machineSound_readOut : ((s.readOut l).machine l).sound := by
  unfold State.readOut
  split
  · rename_i reading _
    split
    · exact machineSound_jam _ l _
    · rw [machine_issueRead, machine_runOut, ← MachineRec.enter_of_state (m := (s.machine l).issue ..) reading]
      exact machineSound_issue h (.inr reading) _ _ rfl
  · exact h

theorem machineSound_cycleOut : ((s.cycleOut l).machine l).sound := by
  unfold State.cycleOut
  split
  · exact machineSound_jam _ l _
  · exact h

theorem machineSound_warmUpOut : ((s.warmUpOut l).machine l).sound := by
  unfold State.warmUpOut
  split
  · rename_i waking _
    have clear := h.clear (by rw [waking]; decide)
    refine machineSound_derive ?_
    rw [State.machine_modMachine_self, machine_runOut]
    exact ⟨clear.ball, clear.inFlight, clear.armed⟩
  · exact h

/-- The idle timer runs in DECK_EMPTY and READY, where nothing is in hand (R113). -/
theorem machineSound_testIdle : ((s.testIdle l).machine l).sound := by
  unfold State.testIdle
  split
  · rename_i due
    refine machineSound_idlePowerOff (h.clear fun busy => ?_)
    simp only [State.idleOffReady, Lane.idleRuns, Bool.and_eq_true, Bool.or_eq_true, decide_eq_true_eq] at due
    revert busy
    rcases due.1.1 with e | ⟨e, -⟩ <;> rw [State.machine, e] <;> decide
  · exact h

theorem machineSound_testOnTime : ((s.testOnTime l).machine l).sound := by
  unfold State.testOnTime
  split
  · rename_i due
    refine machineSound_powerDown (h.clear fun busy => ?_)
    have resting : (s.machine l).state.atRest = true := by
      simp only [State.powerOffReady, Bool.and_eq_true] at due
      exact due.1.2
    revert resting busy
    cases (s.machine l).state <;> decide
  · exact machineSound_testIdle h

end Own

/-! ### A ball finished (R106) -/

namespace State.MachinesHold

/-- The lane whose ball is closed waits for its machine to be moved on. -/
theorem closeBall {t : State} (h : State.MachinesHold ∅ t) {l : LaneIx} (reading : (t.machine l).state = .reading)
    (idle : (t.machine l).inFlight = none) : State.MachinesHold {l} (t.closeBall l) := by
  have own : (t.machine l).sound := h.sound l (Set.notMem_empty l)
  have other (k : LaneIx) (e : k ≠ l) : (t.closeBall l).machine k = t.machine k :=
    congrArg Lane.machine (lane_of_outside (outside_modMachine l _ t) e)
  refine ⟨fun k out => ?_, fun k mem => ?_⟩
  · rw [other k out]
    exact h.sound k (Set.notMem_empty k)
  · obtain rfl : k = l := mem
    obtain ⟨-, pending⟩ := own.holds (.inr reading)
    obtain ⟨-, -, -, -, -, armed⟩ := own
    rw [State.closeBall, State.machine_modMachine_self]
    exact ⟨reading, pending, rfl, idle, armed⟩

/-- Moved on, it is sound as the others are. -/
theorem afterBall {t : State} {l : LaneIx} (h : State.MachinesHold {l} t) (need : Need) (orphan onReturn : Bool) :
    State.MachinesHold ∅ (t.afterBall l need orphan onReturn) := by
  refine ⟨fun k _ => ?_, fun _ => False.elim⟩
  by_cases e : k = l
  · subst e
    have ready := h.finished k rfl
    exact machineSound_afterBall ready.clear ready.pending need orphan onReturn
  · rw [State.machine, lane_of_outside (outside_afterBall l need orphan onReturn t) e]
    exact h.sound k e

variable {t u : State} (h : State.MachinesHold ∅ t)

include h

theorem own (l : LaneIx) : (t.machine l).sound := h.sound l (Set.notMem_empty l)

theorem finishBall {l : LaneIx} (reading : (t.machine l).state = .reading) (idle : (t.machine l).inFlight = none) (image : PinSet) :
    State.MachinesHold ∅ (t.finishBall l image) := by
  have closed := h.closeBall reading idle
  simp only [State.finishBall]
  repeat' split
  · exact h
  · exact (closed.report _).afterBall _ _ _
  · exact closed.afterBall _ _ _
  · exact (closed.recordBall _ _).afterBall _ _ _

/-! ### The ball return -/

theorem raiseBoth (r : Reason) (p : PairIx) : State.MachinesHold ∅ (t.raiseBoth r p) := (h.raiseReason r _ _).raiseReason r _ _
theorem clearBoth (r : Reason) (p : PairIx) : State.MachinesHold ∅ (t.clearBoth r p) := (h.clearReason r _).clearReason r _
theorem pauseTest (p : PairIx) : State.MachinesHold ∅ (t.pauseTest p) := h.of_machine (machine_pauseTest t p)

theorem trackAppend (l : LaneIx) (kind : BallKind) : State.MachinesHold ∅ (t.trackAppend l kind) := by
  have added (f : ReturnRec → ReturnRec) (c : Bool) := (h.modReturn (pairOf l) f).when c ((h.modReturn _ f).raiseBoth .returnBacklog (pairOf l))
  exact ite _ (h.report _) ((added _ _).when _ ((added _ _).darkTest _))

theorem rackUp (p : PairIx) : State.MachinesHold ∅ (t.rackUp p) := ite _ (h.modReturn p _) ((h.modReturn p _).report _)

theorem testPair (p : PairIx) (health : PairHealth) : State.MachinesHold ∅ (t.testPair p health) :=
  (h.modPair p _).when _ ((h.modPair p _).report _)

theorem ballAtRack (p : PairIx) : State.MachinesHold ∅ (t.ballAtRack p) := by
  unfold State.ballAtRack
  split
  · exact ((h.rackUp p).pauseTest p).report _
  · rename_i rest _
    have tested (health : PairHealth) := (((h.modReturn p fun x => { x with track := rest }).rackUp p).testPair p health).pauseTest p
    have cleared (health : PairHealth) (c : Bool) := (tested health).when c ((tested health).clearBoth .returnBacklog p)
    exact ite _ ((cleared _ _).darkTest p) ((cleared _ _).modReturn p _)

theorem ballTaken (p : PairIx) : State.MachinesHold ∅ (t.ballTaken p) := ite _ h ((h.modReturn p _).pauseTest p)

theorem declareReturnJam (p : PairIx) : State.MachinesHold ∅ (t.declareReturnJam p) := ((h.modReturn p _).raiseBoth _ p).report _

theorem writeOff (p : PairIx) : State.MachinesHold ∅ (t.writeOff p) := (h.modReturn p _).clearBoth _ p

theorem seedReturn (p : PairIx) (rack : Nat) : State.MachinesHold ∅ (t.seedReturn p rack) := by
  have off (c : Bool) (r : Report) := (h.when c (f := State.report r) (h.report r)).writeOff p
  have seeded (c c' : Bool) (r : Report) (f : ReturnRec → ReturnRec) :=
    (((off c r).when c' ((off c r).clearBoth .returnJam p)).modReturn p f).pauseTest p
  exact (seeded _ _ _ _).when _ ((seeded _ _ _ _).darkTest p)

theorem clearJamOfReturn (p : PairIx) (rack : Nat) : State.MachinesHold ∅ (t.clearJamOfReturn p rack) := by
  have cleared (f : ReturnRec → ReturnRec) := (((h.writeOff p).modReturn p f).clearBoth .returnJam p).pauseTest p
  exact (cleared _).when _ ((cleared _).darkTest p)

/-! ### The operations of PSV on a lane -/

/-- A change of one lane that keeps its machine record sound. -/
theorem of_lane (l : LaneIx) (other : ∀ k, k ≠ l → u.lane k = t.lane k) (own : (t.machine l).sound → (u.machine l).sound) :
    State.MachinesHold ∅ u := by
  refine ⟨fun k _ => ?_, fun _ => False.elim⟩
  by_cases e : k = l
  · subst e
    exact own (h.own k)
  · rw [State.machine, other k e]
    exact h.own k

/-- An operation of PSV that keeps its lane's record sound. -/
theorem supervise {l : LaneIx} (outside : u.outside l = t.outside l) (own : (t.machine l).sound → (u.machine l).sound) :
    State.MachinesHold ∅ u := h.of_lane l (fun _ => lane_of_outside outside) own

theorem deckImage (l : LaneIx) (image : Vector PinState 10) : State.MachinesHold ∅ (t.deckImage l image) := by
  have answered (reading : (t.machine l).state = .reading) : State.MachinesHold ∅ (t.modMachine l fun m => { m with inFlight := none }) := by
    refine h.supervise (outside_modMachine l _ t) fun own => ?_
    obtain ⟨pending, -, -, down, ball, armed⟩ := own
    rw [State.machine_modMachine_self]
    exact ⟨pending, iff_of_false nofun (by rw [reading]; decide), nofun, down, ball, armed⟩
  simp only [State.deckImage]
  split
  · rename_i f b reading _ _
    split
    · exact h
    · split
      · exact (answered reading).modMachine l rfl
      · refine ((answered reading).modMachine l rfl).finishBall ?_ ?_ _
        · rw [State.machine_modMachine_self, State.machine_modMachine_self]
          exact reading
        · rw [State.machine_modMachine_self, State.machine_modMachine_self]
  · exact h

theorem foul (l : LaneIx) : State.MachinesHold ∅ (t.foul l) := h.supervise (outside_foul l t) machineSound_foul

theorem cycleDone (l : LaneIx) (set : PinSet) : State.MachinesHold ∅ (t.cycleDone l set) :=
  h.supervise (outside_cycleDone l set t) fun own => machineSound_cycleDone own set

theorem machineJam (l : LaneIx) (source : JamSource) : State.MachinesHold ∅ (t.machineJam l source) :=
  h.supervise (outside_machineJam l source t) fun own => machineSound_machineJam own source

theorem removalOrder (l : LaneIx) : State.MachinesHold ∅ (t.removalOrder l) :=
  h.supervise (outside_removalOrder l t) machineSound_removalOrder

theorem loseLane (silent : Bool) (l : LaneIx) : State.MachinesHold ∅ (t.loseLane silent l) :=
  h.supervise (outside_loseLane l silent t) fun _ => machineSound_loseLane t l silent

theorem returnLane (l : LaneIx) (power : Power) : State.MachinesHold ∅ (t.returnLane l power) :=
  h.supervise (outside_returnLane l power t) fun own => machineSound_returnLane own power

theorem settleOut (l : LaneIx) : State.MachinesHold ∅ (t.settleOut l) := h.of_lane l (fun _ => lane_settleOut_ne t) machineSound_settleOut
theorem rereadOut (l : LaneIx) : State.MachinesHold ∅ (t.rereadOut l) := h.of_lane l (fun _ => lane_rereadOut_ne t) machineSound_rereadOut
theorem readOut (l : LaneIx) : State.MachinesHold ∅ (t.readOut l) := h.of_lane l (fun _ => lane_readOut_ne t) machineSound_readOut
theorem cycleOut (l : LaneIx) : State.MachinesHold ∅ (t.cycleOut l) := h.of_lane l (fun _ => lane_cycleOut_ne t) machineSound_cycleOut
theorem warmUpOut (l : LaneIx) : State.MachinesHold ∅ (t.warmUpOut l) := h.of_lane l (fun _ => lane_warmUpOut_ne t) machineSound_warmUpOut
theorem testOnTime (l : LaneIx) : State.MachinesHold ∅ (t.testOnTime l) :=
  h.supervise (outside_testOnTime l t) machineSound_testOnTime
theorem testIdle (l : LaneIx) : State.MachinesHold ∅ (t.testIdle l) := h.supervise (outside_testIdle l t) machineSound_testIdle

theorem ballAtDeck (l : LaneIx) : State.MachinesHold ∅ (t.ballAtDeck l) := by
  simp only [State.ballAtDeck]
  split
  · rename_i turn ready _
    refine trackAppend (h.of_lane l (fun k e => ?_) fun own => ?_) l _
    · exact (lane_of_outside (outside_enter l _ _) e).trans ((lane_of_outside (outside_startTimer l _ _ _) e).trans
        (lane_of_outside (outside_modMachine l _ _) e))
    · have idle := (own.clear (by rw [ready]; decide)).inFlight
      have pending := own.unpending (by rw [ready]; decide)
      rw [machine_enter, State.startTimer, State.machine_modMachine_self, State.machine_modMachine_self]
      refine MachineRec.sound_enter ?_ ?_ ?_ (fun _ => rfl) (fun _ => .inl rfl) nofun
      · simp [pending]
      · simp [MachineRec.cycleInFlight, idle]
      · simp [idle]
  · exact (h.trackAppend l _).report _
  · exact (h.trackAppend l _).report _

end State.MachinesHold
end Sys2Proof.Machine
end

section
/-! SUPPORT. The machine records through the operations of the bus, of the seconds, of the link and of the sessions' ends. -/

namespace Sys2Proof.Machine

namespace State.MachinesHold

variable {t : State} (h : State.MachinesHold ∅ t)

include h

/-! ### The Station Bus Master -/

theorem openExchange (p : PairIx) (k : ExchangeKind) (f : BusFrame) : State.MachinesHold ∅ (t.openExchange p k f) := h.modBus _
theorem schedule (ds : List DueExchange) : State.MachinesHold ∅ (t.schedule ds) := h.modBus _
theorem closeExchange : State.MachinesHold ∅ t.closeExchange := h.modBus _

theorem sendPoll : State.MachinesHold ∅ t.sendPoll := by
  simp only [State.sendPoll]
  repeat' split
  · exact h
  · exact (h.modBus _).openExchange _ _ _
  · exact h.modBus _
  · exact h
  · exact h
  · exact (h.openExchange _ _ _).modBus _
  · exact h

theorem sendProbe : State.MachinesHold ∅ t.sendProbe := by
  unfold State.sendProbe
  repeat' split
  · exact h
  · exact (h.modBus _).openExchange _ _ _
  · exact h

theorem sendReset : State.MachinesHold ∅ t.sendReset := by
  unfold State.sendReset
  repeat' split
  · exact h
  · exact h.modBus _
  · exact h

theorem losePair (p : PairIx) : State.MachinesHold ∅ (t.losePair p) := h.modReturn p _

theorem handLoss (silent : Bool) (p : PairIx) : State.MachinesHold ∅ (t.handLoss silent p) :=
  (h.each _ fun l _ hu => hu.loseLane silent l).losePair p

theorem missAnswer (p : PairIx) : State.MachinesHold ∅ (t.missAnswer p) :=
  ite _ (((h.modStation p _).handLoss false p).report _) (h.modStation p _)

theorem probeAgain (p : PairIx) : State.MachinesHold ∅ (t.probeAgain p) := h.when _ (h.schedule _)

theorem missed (e : Exchange) : State.MachinesHold ∅ (t.missed e) := by
  unfold State.missed
  dsimp only
  repeat' split
  · exact h.missAnswer _
  · exact h
  · exact h
  · exact h
  · exact (h.missAnswer _).probeAgain _
  · exact h
  · exact (h.modStation _ _).report _
  · exact h

theorem resetOrders (ls : List LaneIx) : State.MachinesHold ∅ (t.resetOrders ls) := h.each _ fun l _ hu => hu.removalOrder l

theorem lateOrders (p : PairIx) : State.MachinesHold ∅ (t.lateOrders p) :=
  h.when _ ((h.resetOrders _).modStation p _)

theorem attached (p : PairIx) (a : HelloAnswer) (pass : Bool) :
    State.MachinesHold ∅ ((t.modStation p (Station.attach a pass)).darkTest p) := (h.modStation p _).darkTest p

theorem attachInPass (p : PairIx) (a : HelloAnswer) : State.MachinesHold ∅ (t.attachInPass p a) := (h.attached p a true).seedReturn p _

theorem attach (p : PairIx) (a : HelloAnswer) (withLoss : Bool) (cause : BackCause) : State.MachinesHold ∅ (t.attach p a withLoss cause) := by
  have seeded := ((h.attached p a false).when withLoss ((h.attached p a false).handLoss true p)).seedReturn p a.rackCount.toNat
  exact ((seeded.each _ fun l _ hu => hu.returnLane l _).lateOrders p).report _

theorem hello (e : Exchange) (a : HelloAnswer) : State.MachinesHold ∅ (t.hello e a) := by
  unfold State.hello
  dsimp only
  repeat' split
  · exact h.attach _ a _ _
  · exact h
  · exact h.attachInPass _ a
  · exact h
  · exact h.attach _ a _ _
  · exact h.attach _ a _ _
  · exact h
  · exact h
  · exact h
  · exact h.attach _ a _ _
  · exact h
  · exact h.attach _ a _ _
  · exact h

theorem endPass : State.MachinesHold ∅ t.endPass := (h.modBus _).each _ fun p _ hu => hu.lateOrders p
theorem passOver (e : Exchange) : State.MachinesHold ∅ (t.passOver e) := h.when _ h.endPass

theorem handEvent (p : PairIx) (e : BusEvent) : State.MachinesHold ∅ (t.handEvent p e) := by
  cases e with
  | ballAtDeck side => exact h.ballAtDeck _
  | foul side => exact h.foul _
  | deckImage side seq pins => exact ite _ h (h.deckImage _ _)
  | cycleDone side seq pins => exact ite _ h (h.cycleDone _ _)
  | machineJam side cause => exact h.machineJam _ _
  | ballAtRack => exact h.ballAtRack p
  | ballTaken => exact h.ballTaken p

theorem takeEvent (p : PairIx) (e : StationEvent) : State.MachinesHold ∅ (t.takeEvent p e) := by
  obtain e' | e' | e' := takeEvent_cases t p e <;> rw [e']
  · exact h
  · exact (h.modStation p _).handEvent p _
  · exact h.modStation p _

theorem eventsLost (p : PairIx) : State.MachinesHold ∅ (t.eventsLost p) := by
  unfold State.eventsLost
  split
  · exact h
  · exact ((h.modStation p _).modBus _).probeAgain p

theorem statusTaken (p : PairIx) (a : StatusAnswer) : State.MachinesHold ∅ (t.statusTaken p a) := by
  have marked := h.modStation p (Station.answered a)
  unfold State.statusTaken
  dsimp only
  repeat' split
  · exact marked.eventsLost p
  · exact marked
  · exact marked.takeEvent p _

theorem windowOut : State.MachinesHold ∅ t.windowOut := by
  unfold State.windowOut
  split
  · exact h
  · exact (h.closeExchange.missed _).passOver _

theorem helloIn (a : HelloAnswer) : State.MachinesHold ∅ (t.helloIn a) := by
  unfold State.helloIn
  repeat' split
  · exact h
  · exact (h.closeExchange.hello _ a).passOver _
  · exact h

theorem statusIn (a : StatusAnswer) : State.MachinesHold ∅ (t.statusIn a) := by
  unfold State.statusIn
  repeat' split
  · exact h
  · exact h.closeExchange.statusTaken _ a
  · exact h.closeExchange
  · exact h

/-- Time passing touches no lane. -/
theorem advance (n : Nat) : State.MachinesHold ∅ (t.advance n) := h.of_lanes rfl

theorem paceOut : State.MachinesHold ∅ t.paceOut := by
  unfold State.paceOut
  split
  · exact h
  · exact ((h.advance _).modBus _).schedule _

theorem holdOut (p : PairIx) : State.MachinesHold ∅ (t.holdOut p) := by
  unfold State.holdOut
  dsimp only
  split
  · exact ((h.advance _).modStation p _).schedule _
  · exact h

theorem resetStation (p : PairIx) (hold : Nat) : State.MachinesHold ∅ (t.resetStation p hold) := by
  have set := (h.modBus fun b => { b with due := b.due.filter (fun d => !d.cancelled p) ++ [⟨p, .resetPoll hold⟩] }).modStation p
    fun x => { x.detach .resetting with holdRemaining := hold, holding := true }
  exact set.when _ (set.handLoss false p)

/-! ### The seconds -/

theorem setMeter (m : Meter) : State.MachinesHold ∅ { t with meter := m } := h.of_lanes rfl
theorem setDue (d : DueSteps) : State.MachinesHold ∅ { t with due := d } := h.of_lanes rfl

/-- The table pending is installed where there is one, and the band then in force is noted (R155). -/
theorem minutePart : State.MachinesHold ∅ t.minutePart := by
  have noted {u : State} (hu : State.MachinesHold ∅ u) : State.MachinesHold ∅ (match u.bandInForce with
      | none => u
      | some note => if u.meter.bandNoted = some note then u
        else ({ u with meter := { u.meter with bandNoted := some note } } : State).report (.bandChange note)) := by
    split
    · exact hu
    · exact ite _ hu ((hu.setMeter _).report _)
  unfold State.minutePart
  cases t.meter.pendingTable with
  | none => exact noted h
  | some table => exact noted (h.setMeter _)

theorem perTimeMinute (l : LaneIx) : State.MachinesHold ∅ (t.perTimeMinute l) := (h.modAccount l _).chargeMinute l _

theorem prepaidTimeMinute (l : LaneIx) : State.MachinesHold ∅ (t.prepaidTimeMinute l) := by
  simp only [State.prepaidTimeMinute]
  split
  · exact h
  · have charged (c : Bool) := (h.modAccount l fun a => { a with used := min Config.countMax (a.used + 1) }).when c
      ((h.modAccount l _).chargeMinute l t.hourRate)
    have warned (c c' : Bool) (r : Report) := (charged c).when c'
      (f := fun u => (u.modAccount l fun a => { a with warned := true }).report r) (((charged c).modAccount l _).report r)
    exact (warned _ _ _).when _ (((warned _ _ _).allowanceOut l _).evaluateAccount l)

theorem dueMinute : State.MachinesHold ∅ t.dueMinute := ite _ (h.setDue _).minutePart h
theorem duePlay (l : LaneIx) : State.MachinesHold ∅ (t.duePlay l) := ite _ ((h.setDue _).perTimeMinute l) h
theorem duePrepaid (l : LaneIx) : State.MachinesHold ∅ (t.duePrepaid l) := ite _ ((h.setDue _).prepaidTimeMinute l) h

theorem loseDesk : State.MachinesHold ∅ t.loseDesk := h.of_lanes rfl

theorem dueSilence : State.MachinesHold ∅ t.dueSilence := ite _ (h.setDue _).loseDesk h

theorem dueOnTime (l : LaneIx) : State.MachinesHold ∅ (t.dueOnTime l) := ite _ ((h.setDue _).testOnTime l) h
theorem dueIdle (l : LaneIx) : State.MachinesHold ∅ (t.dueIdle l) := ite _ ((h.setDue _).testIdle l) h
theorem dueOldest (p : PairIx) : State.MachinesHold ∅ (t.dueOldest p) := ite _ ((h.setDue _).declareReturnJam p) h

theorem drain : State.MachinesHold ∅ t.drain := by
  unfold State.drain
  split
  · exact h
  · have metered := (h.dueMinute.each allLanes fun l _ hu => hu.duePlay l).each allLanes fun l _ hu => hu.duePrepaid l
    have machines := (metered.dueSilence.each allLanes fun l _ hu => hu.dueOnTime l).each allLanes fun l _ hu => hu.dueIdle l
    exact machines.each _ fun p _ hu => hu.dueOldest p

/-! ### The second event -/

/-- A second counts in the accounts, in the machines' on-time and idle counts and in the oldest-entry counts. -/
theorem countSecond : State.MachinesHold ∅ t.countSecond := by
  refine h.of_gist fun k => ?_
  have metered (grace : Nat) (x : Lane) : (x.countSecond grace).machine = x.machine := by
    unfold Lane.countSecond
    split <;> rfl
  simp only [State.countSecond, State.machine, State.lane, Fin.getElem_fin, mapLanes_get, Lane.countMachine, metered]
  rfl

theorem toSecond : State.MachinesHold ∅ t.toSecond := h.of_lanes rfl

theorem second : State.MachinesHold ∅ t.second := h.toSecond.countSecond.setDue _

theorem idleTenth : State.MachinesHold ∅ t.idleTenth := ite _ (h.advance 1) (h.drain.advance 1)

/-! ### The link -/

theorem endSilence : State.MachinesHold ∅ t.endSilence := by
  simp only [State.endSilence]
  split
  · exact h.modLink _
  · exact (((h.modLink _).modLink _).report _).clearHold

theorem receive (kind tag : Byte) (body : List Byte) (check : Byte) : State.MachinesHold ∅ (t.receive kind tag body check) := by
  unfold State.receive
  split
  · exact h
  · exact h
  · exact (ite _ (h.modLink _) (ite _ (h.modLink _) (h.endSilence.modLink _))).modLink _

theorem badByte (place : FaultPlace) : State.MachinesHold ∅ (t.badByte place) := by
  unfold State.badByte
  split
  · exact h
  · exact h.modLink _
  · exact h.modLink _

theorem badLength : State.MachinesHold ∅ t.badLength := by
  unfold State.badLength
  split
  · exact h
  · exact h
  · exact h.modLink _

theorem gap (tag : Option Byte) : State.MachinesHold ∅ (t.gap tag) := by
  unfold State.gap
  split
  · exact h
  · exact h.modLink _
  · exact h.modLink _

theorem huntByte (b : Byte) : State.MachinesHold ∅ (t.huntByte b) := by
  unfold State.huntByte
  split
  · exact ite _ (h.modLink _) h
  · exact h
  · exact h.modLink _

theorem refuseUnknown : State.MachinesHold ∅ t.refuseUnknown := by
  unfold State.refuseUnknown
  split
  · exact h
  · exact ite _ h (h.modLink _)

/-! ### Sessions -/

theorem finalise (l : LaneIx) : State.MachinesHold ∅ (t.finalise l) := by
  simp only [State.finalise]
  split
  · exact h
  · have minute (c : Bool) := h.when c (h.chargeMinute l t.hourRate)
    have fees {u : State} (hu : State.MachinesHold ∅ u) (due : List Nat) := (hu.each due fun n _ hv => hv.charge l n).modAccount l
    exact modAccount (when (when (minute _) _ (fees (minute _) _ _)) _ (charge (when (minute _) _ (fees (minute _) _ _)) l _)) l _

theorem testLane (l : LaneIx) (health : LaneHealth) (attrs : List Attribute) : State.MachinesHold ∅ (t.testLane l health attrs) :=
  (h.modLane l rfl).each _ fun _ _ hu => hu.report _

theorem orphan (l : LaneIx) : State.MachinesHold ∅ (t.orphan l) :=
  h.modMachine l (by simp [MachineRec.gist, MachineRec.cycleInFlight])


theorem orphanBalls (c : LaneIx) : State.MachinesHold ∅ (t.orphanBalls c) := (h.orphan c).when _ ((h.orphan c).orphan _)

theorem modLaneAll (l : LaneIx) {f : Lane → Lane} (same : ∀ x, (f x).machine.gist = x.machine.gist) : State.MachinesHold ∅ (t.modLane l f) :=
  h.modLane l (same _)

theorem closeLane (l : LaneIx) : State.MachinesHold ∅ (t.closeLane l) := by
  simp only [State.closeLane]
  refine setSession (modLaneAll (raiseReason (clearReason (finalise (modLaneAll (closeTurns (orphanBalls h l) l) l ?_) l) _ l) _ _ l) l ?_) l _
  · exact fun _ => rfl
  · exact fun _ => rfl

theorem closeStandby (l : LaneIx) : State.MachinesHold ∅ (t.closeStandby l) := by
  refine State.when_preserves (State.MachinesHold ∅) _ _ t h fun standby _ => ?_
  have asleep : (t.machine l).state = .standby := of_decide_eq_true standby
  refine h.supervise (l := l) (by simp) fun own => ?_
  have clear := own.clear (by rw [asleep]; decide)
  rw [machine_enter, machine_forgetDeck]
  refine MachineRec.Clear.settle (by decide) (own.unpending (by rw [asleep]; decide)) ?_
  exact ⟨clear.ball, clear.inFlight, clear.armed⟩

theorem closeSession (l : LaneIx) : State.MachinesHold ∅ (t.closeSession l) := (h.closeLane l).closeStandby l

theorem openLane (l : LaneIx) (c : SessionSettings) (mode : BillingMode) (roster : List SlotView) :
    State.MachinesHold ∅ (t.openLane l c mode roster) := by
  simp only [State.openLane]
  refine handHead (modLaneAll (reportHead (setQueue (modLaneAll (clearReason (setSession (modLaneAll h l ?_) l _) _ l) l ?_) l _) l) l ?_) l
  · exact fun _ => rfl
  · exact fun _ => rfl
  · exact fun _ => rfl

theorem addBowler (l : LaneIx) (v : SlotView) : State.MachinesHold ∅ (t.addBowler l v) := by
  simp only [State.addBowler]
  have added (b : Bowler) (e : BowlerEntry) : State.MachinesHold ∅ ((t.modLane l fun x => { x with roster := x.roster ++ [b] }).modAccount l
      fun a => { a with entries := a.entries ++ [e] }) := (h.modLane l rfl).modAccount l _
  simp only [State.when]
  exact ite _ (((added _ _).setQueue _ _).handOffs _ _) (added _ _)

theorem withdrawBowler (l : LaneIx) (slot : Nat) (playing : Bool) : State.MachinesHold ∅ (t.withdrawBowler l slot playing) :=
  ite _ ((((h.removeTurn l slot).modGame l slot _ _).modBowlerOf l slot _).testBoundary l) (h.modBowlerOf l slot _)

theorem blindBowler (l : LaneIx) (slot applied : Nat) : State.MachinesHold ∅ (t.blindBowler l slot applied) :=
  (((h.removeTurn l slot).modGame l slot _ _).modBowlerOf l slot _).testBoundary l

theorem cancelPending (p : PairIx) : State.MachinesHold ∅ (t.cancelPending p) := ite _ ((h.dropPending p).retakePair p) h

/-! ### Resets: every machine as at power-on (R123) -/

omit h in
theorem of_initial (machines : ∀ k, t.machine k = .initial) : State.MachinesHold ∅ t :=
  (machinesSound_iff t).1 fun k => by rw [machines]; exact initialMachine_sound

omit h in
theorem poweredOn (s : State) (rate1 rate0 : Bool) : State.MachinesHold ∅ (s.poweredOn rate1 rate0) :=
  of_initial fun k => congrArg Lane.machine (lane_powerOn rate1 rate0 k)

omit h in
theorem lineReset (s : State) (rate1 rate0 : Bool) : State.MachinesHold ∅ (s.lineReset rate1 rate0) :=
  of_initial fun k => congrArg Lane.machine (lane_lineReset rate1 rate0 s k)

omit h in
theorem resetCentre (t : State) : State.MachinesHold ∅ t.resetCentre :=
  of_initial fun k => congrArg Lane.machine (lane_resetCentre t k)

end State.MachinesHold

/-! ### What each request does -/

section Requests

variable {t : State} (h : State.MachinesHold ∅ t)

include h

theorem machinesHold_openSession (agrees : Bool) (f : OpenFields) (l : LaneIx) : State.MachinesHold ∅ (openSession agrees f l t).state := by
  unfold openSession
  split
  · exact h
  · split
    · exact h
    · split
      · exact h
      · split
        · exact h
        · dsimp only
          exact h.openLane l _ _ _

theorem machinesHold_holdLane (l : LaneIx) : State.MachinesHold ∅ (holdLane l t).state := by
  unfold holdLane
  repeat' split
  · exact h
  · exact h
  · exact h.raiseReason _ _ l

theorem machinesHold_releaseLane (l : LaneIx) : State.MachinesHold ∅ (releaseLane l t).state := by
  unfold releaseLane
  split
  · exact h.clearReason _ l
  · exact h

theorem machinesHold_addBowler (f : AddBowlerFields) (l : LaneIx) : State.MachinesHold ∅ (addBowler f l t).state := by
  unfold addBowler
  dsimp only
  split
  · exact h
  · split
    · exact h
    · dsimp only
      exact h.addBowler l _

theorem machinesHold_withdrawBowler (slot : Nat) (b : Bowler) (l : LaneIx) : State.MachinesHold ∅ (withdrawBowler slot b l t).state := by
  simp only [withdrawBowler]
  repeat' split
  · exact h
  · exact h
  · exact h.withdrawBowler l slot _

theorem machinesHold_markBlind (slot : Nat) (b : Bowler) (l : LaneIx) : State.MachinesHold ∅ (markBlind slot b l t).state := by
  simp only [markBlind]
  repeat' split
  · exact h
  · exact h
  · exact h
  · exact h.blindBowler l slot _
  · exact h.modBowlerOf l slot _

theorem machinesHold_skipTurn (l : LaneIx) : State.MachinesHold ∅ (skipTurn l t).state := by
  unfold skipTurn
  repeat' split
  · exact h
  · exact (h.setQueue l _).handOffs _ _
  · exact h

theorem machinesHold_pairMode (mode : Option PairMode) (p : PairIx) : State.MachinesHold ∅ (pairMode mode p t).state := by
  unfold pairMode
  repeat' split
  · exact h
  · exact h.cancelPending p
  · exact h
  · exact h.changeModeNow p _
  · dsimp only
    exact h.modPair p _

theorem machinesHold_correctFrame (slot frame : Nat) (balls : List BallField) (g : Game) (l : LaneIx) :
    State.MachinesHold ∅ (correctFrame slot frame balls g l t).state := by
  have corrected := h.modGame l slot g.number (Game.correct frame balls)
  simp only [correctFrame]
  repeat' split
  · exact h
  · exact h
  · exact h
  · exact h
  · exact corrected.when _ (corrected.report _)

theorem machinesHold_certifyGame (game : Nat) (l : LaneIx) : State.MachinesHold ∅ (certifyGame game l t).state := by
  simp only [certifyGame]
  repeat' split
  · exact h
  · exact h
  · exact h
  · exact h
  · dsimp only
    exact h.modLane l rfl

theorem machinesHold_ackCheck (slot frame : Nat) (ball : Option Nat) (g : Game) (l : LaneIx) :
    State.MachinesHold ∅ (ackCheck slot frame ball g l t).state := by
  simp only [ackCheck]
  repeat' split
  · exact h
  · exact h
  · exact h.modGame l _ _ _

theorem machinesHold_addCredit (amount : Nat) (l : LaneIx) : State.MachinesHold ∅ (addCredit amount l t).state := by
  unfold addCredit
  repeat' split
  · exact h
  · exact h
  · exact h
  · exact (h.modAccount l _).evaluateAccount l

theorem machinesHold_installTariff (weekday weekend : List Band) : State.MachinesHold ∅ (installTariff weekday weekend t).state := by
  simp only [installTariff]
  split
  · exact h.setMeter _
  · exact h.setMeter _

theorem machinesHold_wake {l : LaneIx} (asleep : (t.machine l).state = .poweredDown ∨ (t.machine l).state = .standby) :
    State.MachinesHold ∅ (t.wake l) :=
  h.supervise (outside_wake l t) fun own => machineSound_wake (own.clear (by rcases asleep with e | e <;> rw [e] <;> decide))
    (own.unpending (by rcases asleep with e | e <;> rw [e] <;> decide))

theorem machinesHold_powerOn (l : LaneIx) : State.MachinesHold ∅ (powerOn l t).state := by
  have clear : State.MachinesHold ∅ (t.pendPowerOff false l) := h.modMachine l rfl
  have state : ((t.pendPowerOff false l).machine l).state = (t.machine l).state := by rw [State.pendPowerOff, State.machine_modMachine_self]
  unfold powerOn
  cases e : (t.machine l).state with
  | poweredDown => exact machinesHold_wake clear (.inl (state.trans e))
  | standby => exact machinesHold_wake clear (.inr (state.trans e))
  | outOfService | linkLost => exact h
  | waking | deckEmpty | waiting | ready | ballDown | reading | cycling | jammed =>
    dsimp only
    split
    · exact clear
    · exact h

theorem machinesHold_powerOff (l : LaneIx) : State.MachinesHold ∅ (powerOff l t).state := by
  have pending : State.MachinesHold ∅ (t.pendPowerOff true l) := h.modMachine l rfl
  have down (resting : (t.machine l).state ∉ [.ballDown, .reading, .cycling, .linkLost]) : State.MachinesHold ∅ (t.powerDown l) :=
    h.supervise (outside_powerDown l t) fun own => machineSound_powerDown (own.clear resting)
  unfold powerOff
  cases e : (t.machine l).state with
  | ballDown | reading | cycling | linkLost | jammed | poweredDown | standby | outOfService => exact h
  | waking | deckEmpty | waiting | ready =>
    dsimp only
    repeat' split
    · exact h
    · exact h
    · exact down (by rw [e]; decide)
    · exact pending

theorem machinesHold_clearJam (l : LaneIx) : State.MachinesHold ∅ (clearJam l t).state := by
  unfold clearJam
  split
  · rename_i jammed
    exact h.supervise (outside_startCycle l _ t) fun own => machineSound_startCycle (own.clear (by rw [jammed]; decide)) _
  · exact h

theorem machinesHold_takeOut (l : LaneIx) : State.MachinesHold ∅ (takeOut l t).state := by
  have out : State.MachinesHold ∅ (t.modMachine l fun m => { m with service := .out }) := h.modMachine l rfl
  have later : State.MachinesHold ∅ ((t.modMachine l fun m => { m with service := .out }).modMachine l fun m => { m with removal := .desk }) :=
    out.modMachine l rfl
  have gone (resting : (t.machine l).state ∉ [.ballDown, .reading, .cycling, .linkLost]) :
      State.MachinesHold ∅ ((t.modMachine l fun m => { m with service := .out }).serviceOut l) := by
    refine out.supervise (outside_serviceOut l _) fun own => machineSound_serviceOut (own.clear ?_).ball
    rwa [State.machine_modMachine_self]
  unfold takeOut
  split
  · exact h
  · cases e : (t.machine l).state with
    | poweredDown | deckEmpty | waiting | ready | standby | jammed | waking => exact gone (by rw [e]; decide)
    | ballDown | reading | cycling => exact later
    | linkLost | outOfService => exact out

theorem machinesHold_bringIn (l : LaneIx) : State.MachinesHold ∅ (bringIn l t).state := by
  have back : State.MachinesHold ∅ (t.modMachine l fun m => { m with service := .in_, removal := .unordered }) := h.modMachine l rfl
  unfold bringIn
  split
  · exact h
  · dsimp only [serviceAnswer]
    split
    · rename_i gone
      refine back.supervise (l := l) (by simp) fun own => ?_
      have left : ((t.modMachine l fun m => { m with service := .in_, removal := .unordered }).machine l).state = .outOfService := by
        rwa [State.machine_modMachine_self]
      exact machineSound_sleep rfl (own.clear (by rw [left]; decide)) (own.unpending (by rw [left]; decide))
    · exact back

theorem machinesHold_setHealth (f : HealthFields) (l : LaneIx) : State.MachinesHold ∅ (setHealth f l t).state :=
  have lane := h.testLane l ((t.lane l).health.store f) (attributesChanged (t.lane l).health ((t.lane l).health.store f))
  have tested := lane.when _ (lane.testPair _ _)
  tested.when _ (tested.removalOrder l)

theorem machinesHold_setMachine (f : MachineFields) (p : PairIx) : State.MachinesHold ∅ (setMachine f p t).state :=
  h.modPair p fun x => { x with settings := settingsApplied f }

theorem machinesHold_stationReset (hold : Byte) (p : PairIx) : State.MachinesHold ∅ (stationReset hold p t).state := h.resetStation p _

theorem machinesHold_returnStatus (threshold timeout : Option Nat) (p : PairIx) :
    State.MachinesHold ∅ (returnStatus threshold timeout p t).state := by
  simp only [returnStatus]
  split
  · exact h
  · exact (h.modReturn p _).when _ ((h.modReturn p _).pauseTest p)

theorem machinesHold_clearReturnJam (balls : Nat) (p : PairIx) : State.MachinesHold ∅ (clearReturnJam balls p t).state := by
  simp only [clearReturnJam]
  repeat' split
  · exact h
  · exact h
  · exact h.clearJamOfReturn p _

end Requests

/-- Every command keeps the machine records sound: a request through its checks, any other by what its meaning does. -/
theorem machinesHold_exec (c : Instr) (s : State) (start : State.MachinesHold ∅ s) :
    ∃ t, exec c s = .next t ∧ State.MachinesHold ∅ t := by
  have live {f : State → State} (hf : ∀ t : State, State.MachinesHold ∅ t → State.MachinesHold ∅ (f t)) :
      State.MachinesHold ∅ (State.live f s) :=
    live_preserves start start.drain hf
  have request (kind : RequestKind) {f : List Byte → State → Answer}
      (hf : ∀ (body : List Byte) (t : State), State.MachinesHold ∅ t → State.MachinesHold ∅ (f body t).state) :
      State.MachinesHold ∅ (State.live (State.carryOut kind f) s) :=
    live fun t ht => carryOut_preserves kind ht (fun _ _ hu => hu.modLink _) fun body => hf body t ht
  have resetting (own other : Byte) {f : Bool → State → Answer}
      (hf : ∀ (force : Bool) (t : State), State.MachinesHold ∅ t → State.MachinesHold ∅ (f force t).state) :
      State.MachinesHold ∅ (State.live (State.resetRequest own other f) s) :=
    live fun t ht => resetRequest_preserves own other ht (fun _ _ hu => hu.modLink _) fun force => hf force t ht
  have part {t : State} (ht : State.MachinesHold ∅ t) : State.MachinesHold ∅ (if s.held then s else t) := .ite _ start ht
  cases c with
  | powerOn rate1 rate0 => exact ⟨_, rfl, .poweredOn s rate1 rate0⟩
  | resetLine rate1 rate0 => exact ⟨_, rfl, .lineReset s rate1 rate0⟩
  | resetLineAsserted => exact ⟨_, rfl, live fun _ ht => ht.of_lanes rfl⟩
  | frameReceived kind tag body check => exact ⟨_, rfl, live fun _ ht => ht.receive kind tag body check⟩
  | byteFault place => exact ⟨_, rfl, live fun _ ht => ht.badByte place⟩
  | lengthFault len => exact ⟨_, rfl, live fun _ ht => .ite _ ht ht.badLength⟩
  | gapFault tag => exact ⟨_, rfl, live fun _ ht => ht.gap tag⟩
  | huntStartByte byte => exact ⟨_, rfl, live fun _ ht => ht.huntByte byte⟩
  | transmitFrameStart => exact ⟨_, rfl, live fun _ ht => ht.modLink _⟩
  | transmitFrameEnd => exact ⟨_, rfl, live fun _ ht => ht.modLink _⟩
  | unknownKind => exact ⟨_, rfl, live fun _ ht => ht.refuseUnknown⟩
  | ping => exact ⟨_, rfl, request _ fun _ _ ht => checkLength_preserves _ ht ht⟩
  | status => exact ⟨_, rfl, request _ fun _ _ ht => checkLength_preserves _ ht (ht.modLink _)⟩
  | peek => exact ⟨_, rfl, request _ fun _ _ ht => checkLength_preserves _ ht ht⟩
  | resetCentre =>
    refine ⟨_, rfl, resetting _ _ fun _ t ht => ?_⟩
    split
    · exact ht
    · exact .resetCentre t
  | resetLink => exact ⟨_, rfl, resetting _ _ fun _ _ ht => ht.modLink _⟩
  | setLink =>
    refine ⟨_, rfl, request _ fun _ _ ht => ?_⟩
    split
    · exact ht.modLink fun k => { k with timeout := timeoutApplied _ }
    · exact ht
  | getLink => exact ⟨_, rfl, request _ fun _ _ ht => checkLength_preserves _ ht ht⟩
  | setClock agrees fields =>
    refine ⟨_, rfl, request _ fun _ _ ht => checkLength_preserves _ ht ?_⟩
    split
    · exact ht.of_lanes rfl
    · exact ht
  | getClock => exact ⟨_, rfl, request _ fun _ _ ht => checkLength_preserves _ ht ht⟩
  | setTariff agrees weekday weekend =>
    exact ⟨_, rfl, request _ fun _ _ ht => checkLength_preserves _ ht (machinesHold_installTariff ht _ _)⟩
  | getTariff => exact ⟨_, rfl, request _ fun _ _ ht => checkLength_preserves _ ht ht⟩
  | setBilling agrees fields => exact ⟨_, rfl, request _ fun _ _ ht => checkLength_preserves _ ht (ht.setMeter _)⟩
  | openSession agrees f =>
    exact ⟨_, rfl, request _ fun _ _ ht => checkLane_preserves _ ht fun l _ => machinesHold_openSession ht agrees f l⟩
  | closeSession agrees lane =>
    refine ⟨_, rfl, request _ fun _ _ ht => checkLength_preserves _ ht (checkLaneExempt_preserves _ ht fun l _ => ?_)⟩
    split
    · dsimp only
      exact ht.closeSession l
    · exact ht
  | addBowler agrees f =>
    exact ⟨_, rfl, request _ fun _ _ ht => checkLane_preserves _ ht fun l _ => checkRunning_preserves _ l ht
      (machinesHold_addBowler ht f l)⟩
  | setBowler agrees f =>
    exact ⟨_, rfl, request _ fun _ _ ht => checkLane_preserves _ ht fun l _ => checkRunning_preserves _ l ht
      (checkSlot_preserves _ l ht fun _ => ht.modBowlerOf l _ _)⟩
  | withdrawBowler agrees lane slot =>
    exact ⟨_, rfl, request _ fun _ _ ht => checkLane_preserves _ ht fun l _ => checkRunning_preserves _ l ht
      (checkSlot_preserves _ l ht fun b => machinesHold_withdrawBowler ht slot b l)⟩
  | markBlind agrees lane slot =>
    exact ⟨_, rfl, request _ fun _ _ ht => checkLane_preserves _ ht fun l _ => checkRunning_preserves _ l ht
      (checkSlot_preserves _ l ht fun b => machinesHold_markBlind ht slot b l)⟩
  | skipTurn agrees lane =>
    exact ⟨_, rfl, request _ fun _ _ ht => checkLane_preserves _ ht fun l _ => checkRunning_preserves _ l ht
      (machinesHold_skipTurn ht l)⟩
  | pairMode agrees pair mode =>
    exact ⟨_, rfl, request _ fun _ _ ht => checkLength_preserves _ ht (checkPair_preserves _ ht fun p _ =>
      machinesHold_pairMode ht mode p)⟩
  | holdLane agrees lane =>
    exact ⟨_, rfl, request _ fun _ _ ht => checkLength_preserves _ ht (checkLaneExempt_preserves _ ht fun l _ =>
      machinesHold_holdLane ht l)⟩
  | releaseLane agrees lane =>
    exact ⟨_, rfl, request _ fun _ _ ht => checkLength_preserves _ ht (checkLaneExempt_preserves _ ht fun l _ =>
      machinesHold_releaseLane ht l)⟩
  | laneStatus agrees lane =>
    exact ⟨_, rfl, request _ fun _ _ ht => checkLength_preserves _ ht (checkLaneExempt_preserves _ ht fun _ _ => ht)⟩
  | getGame agrees n =>
    refine ⟨_, rfl, request _ fun _ _ ht => checkLane_preserves _ ht fun l _ => checkHeld_preserves _ l ht
      (checkSlot_preserves _ l ht fun b => ?_)⟩
    split
    · exact ht
    · exact ht
  | correctFrame agrees n frame balls =>
    exact ⟨_, rfl, request _ fun _ _ ht => checkLane_preserves _ ht fun l _ => checkHeld_preserves _ l ht
      (checkOpenRecord_preserves _ _ l ht fun _ g => machinesHold_correctFrame ht _ _ _ g l)⟩
  | certifyGame agrees lane game =>
    exact ⟨_, rfl, request _ fun _ _ ht => checkLane_preserves _ ht fun l _ => checkHeld_preserves _ l ht
      (machinesHold_certifyGame ht game l)⟩
  | ackCheck agrees n frame ball =>
    exact ⟨_, rfl, request _ fun _ _ ht => checkLane_preserves _ ht fun l _ => checkHeld_preserves _ l ht
      (checkOpenRecord_preserves _ _ l ht fun _ g => machinesHold_ackCheck ht _ _ _ g l)⟩
  | getTeam agrees lane game =>
    refine ⟨_, rfl, request _ fun _ _ ht => checkLane_preserves _ ht fun l _ => checkHeld_preserves _ l ht ?_⟩
    unfold getTeam
    dsimp only
    split
    · exact ht
    · exact ht
  | getAccount agrees lane =>
    refine ⟨_, rfl, request _ fun _ _ ht => checkLength_preserves _ ht (checkLane_preserves _ ht fun l _ => ?_)⟩
    split
    · exact ht
    · exact ht
  | addCredit agrees lane amount =>
    refine ⟨_, rfl, request _ fun _ _ ht => checkLane_preserves _ ht fun l _ => checkLength_preserves _ ht ?_⟩
    split
    · exact machinesHold_addCredit ht amount l
    · exact ht
  | machinePowerOn agrees lane valid =>
    exact ⟨_, rfl, request _ fun _ _ ht => checkLength_preserves _ ht (checkLane_preserves _ ht fun l _ =>
      checkValid_preserves _ l ht (checkStation_preserves l ht (machinesHold_powerOn ht l)))⟩
  | machinePowerOff agrees lane valid =>
    exact ⟨_, rfl, request _ fun _ _ ht => checkLength_preserves _ ht (checkLane_preserves _ ht fun l _ =>
      checkValid_preserves _ l ht (checkStation_preserves l ht (machinesHold_powerOff ht l)))⟩
  | clearJam agrees lane =>
    exact ⟨_, rfl, request _ fun _ _ ht => checkLength_preserves _ ht (checkLane_preserves _ ht fun l _ =>
      checkStation_preserves l ht (machinesHold_clearJam ht l))⟩
  | serviceOut agrees lane valid =>
    exact ⟨_, rfl, request _ fun _ _ ht => checkLength_preserves _ ht (checkLane_preserves _ ht fun l _ =>
      checkValid_preserves _ l ht (checkStation_preserves l ht (machinesHold_takeOut ht l)))⟩
  | serviceIn agrees lane valid =>
    exact ⟨_, rfl, request _ fun _ _ ht => checkLength_preserves _ ht (checkLane_preserves _ ht fun l _ =>
      checkValid_preserves _ l ht (checkStation_preserves l ht (machinesHold_bringIn ht l)))⟩
  | setMachine agrees f =>
    exact ⟨_, rfl, request _ fun _ _ ht => checkLength_preserves _ ht (checkPair_preserves _ ht fun p _ =>
      machinesHold_setMachine ht f p)⟩
  | getHealth agrees lane =>
    exact ⟨_, rfl, request _ fun _ _ ht => checkLength_preserves _ ht (checkLane_preserves _ ht fun _ _ => ht)⟩
  | setHealth agrees f =>
    exact ⟨_, rfl, request _ fun _ _ ht => checkLane_preserves _ ht fun l _ => checkLength_preserves _ ht
      (machinesHold_setHealth ht f l)⟩
  | stationReset agrees pair hold =>
    exact ⟨_, rfl, request _ fun _ _ ht => checkLength_preserves _ ht (checkPair_preserves _ ht fun p _ =>
      machinesHold_stationReset ht hold p)⟩
  | returnStatus agrees pair threshold timeout =>
    exact ⟨_, rfl, request _ fun _ _ ht => checkPair_preserves _ ht fun p _ => checkLength_preserves _ ht
      (machinesHold_returnStatus ht threshold timeout p)⟩
  | clearReturnJam agrees pair balls =>
    exact ⟨_, rfl, request _ fun _ _ ht => checkPair_preserves _ ht fun p _ => checkLength_preserves _ ht
      (machinesHold_clearReturnJam ht balls p)⟩
  | secondEvent => exact ⟨_, rfl, .ite _ start.toSecond start.drain.second⟩
  | minuteEvent => exact ⟨_, rfl, part start.dueMinute⟩
  | playMinute lane => exact ⟨_, rfl, part (start.dueMinute.duePlay lane)⟩
  | prepaidMinute lane => exact ⟨_, rfl, part (start.dueMinute.duePrepaid lane)⟩
  | deskSilenceExpiry => exact ⟨_, rfl, part start.dueSilence⟩
  | idleTimerExpiry lane => exact ⟨_, rfl, part (start.dueIdle lane)⟩
  | onTimeElapsed lane => exact ⟨_, rfl, part (start.dueOnTime lane)⟩
  | oldestEntryExpiry pair => exact ⟨_, rfl, part (start.dueOldest pair)⟩
  | settleExpiry lane => exact ⟨_, rfl, live fun _ ht => ht.settleOut lane⟩
  | rereadSettleExpiry lane => exact ⟨_, rfl, live fun _ ht => ht.rereadOut lane⟩
  | readTimeout lane => exact ⟨_, rfl, live fun _ ht => ht.readOut lane⟩
  | cycleTimeout lane => exact ⟨_, rfl, live fun _ ht => ht.cycleOut lane⟩
  | warmUpExpiry lane => exact ⟨_, rfl, live fun _ ht => ht.warmUpOut lane⟩
  | paceTimerExpiry => exact ⟨_, rfl, live fun _ ht => ht.paceOut⟩
  | resetHoldExpiry pair => exact ⟨_, rfl, live fun _ ht => ht.holdOut pair⟩
  | sendPoll => exact ⟨_, rfl, live fun _ ht => ht.sendPoll⟩
  | sendProbe => exact ⟨_, rfl, live fun _ ht => ht.sendProbe⟩
  | sendResetPoll => exact ⟨_, rfl, live fun _ ht => ht.sendReset⟩
  | answerWindowExpiry => exact ⟨_, rfl, live fun _ ht => ht.windowOut⟩
  | helloAnswer answer => exact ⟨_, rfl, live fun _ ht => ht.helloIn answer⟩
  | statusAnswer answer => exact ⟨_, rfl, live fun _ ht => ht.statusIn answer⟩

/-- A step is a tenth passing with nothing waiting, or the front command taken off and carried out. -/
theorem machinesHold_step {s t : State} (sound : State.MachinesHold ∅ s) (h : step s = .next t) : State.MachinesHold ∅ t := by
  unfold step at h
  split at h
  · obtain ⟨rfl⟩ := h
    exact sound.idleTenth
  · rename_i c rest _
    obtain ⟨u, e, hu⟩ := machinesHold_exec c { s with pending := rest } (sound.of_lanes rfl)
    rw [e] at h
    obtain ⟨rfl⟩ := h
    exact hu

/-- Settles O55, by what every step leaves of each machine record. -/
theorem stepsKeepTheMachinesSound : Obligations.StepsKeepTheMachinesSound := by
  unfold Obligations.StepsKeepTheMachinesSound
  exact fun s t sound h => (machinesSound_iff t).2 (machinesHold_step ((machinesSound_iff s).1 sound) h)

end Sys2Proof.Machine
end

section
/-! SUPPORT. The requests of the Pinsetter Supervisor, from the records that a power-off, a wake and a service-out leave
(R112, R114 to R117). -/

namespace Sys2Proof.Machine

/-! ### The power order (R90) -/

section PowerOrder

variable (s : State) (l : LaneIx)

theorem powerOrder_setStation (p : PairIx) (st : StationState) : (s.setStation p st).powerOrder l = s.powerOrder l := by
  by_cases e : p = pairOf l
  · subst e
    rw [State.powerOrder, station_setStation]
    rfl
  · rw [State.powerOrder, State.setStation, State.station, State.modStation, State.pair_modPair_ne _ _ _ _ (Ne.symm e)]
    rfl

theorem powerOrder_darkTest (p : PairIx) : (s.darkTest p).powerOrder l = s.powerOrder l := by
  obtain e | ⟨-, -, e⟩ | ⟨-, -, e⟩ := darkTest_cases s p <;> rw [e]
  · exact powerOrder_setStation ..
  · exact powerOrder_setStation ..

@[simp] theorem powerOrder_enter (st : MachineState) : (s.enter l st).powerOrder l = s.powerOrder l := by
  rw [State.enter, State.when_keeps (fun u : State => u.powerOrder l) _ _ _ rfl, State.enterSilent,
    State.when_keeps (fun u : State => u.powerOrder l) _ _ _ (powerOrder_darkTest ..)]
  rfl

@[simp] theorem powerOrder_setPower (o : Power) : (s.setPower l o).powerOrder l = o := by
  rw [State.powerOrder, State.setPower, State.station_modStation_self]
  cases sideOf l <;> rfl

/-! What a power-off, a service-out and a wake leave of the lane's machine. -/

theorem powerDown_leaves : ((s.powerDown l).machine l).state = .poweredDown ∧ ((s.powerDown l).machine l).deck = .unknown
    ∧ ((s.powerDown l).machine l).warmed = false ∧ ((s.powerDown l).machine l).pendingCycle = none
    ∧ ((s.powerDown l).machine l).powerOffPending = false ∧ (s.powerDown l).powerOrder l = .off := by
  rw [machine_powerDown]
  refine ⟨?_, ?_, ?_, ?_, ?_, (powerOrder_enter ..).trans (powerOrder_setPower ..)⟩
  · rw [MachineRec.enter_state]
  · rw [MachineRec.enter_deck]
  · rw [MachineRec.enter_warmed]
  · rw [MachineRec.enter_pendingCycle]
  · rw [MachineRec.enter_powerOffPending]

theorem serviceOut_leaves : ((s.serviceOut l).machine l).state = .outOfService ∧ ((s.serviceOut l).machine l).deck = .unknown
    ∧ ((s.serviceOut l).machine l).warmed = false ∧ ((s.serviceOut l).machine l).pendingCycle = none
    ∧ ((s.serviceOut l).machine l).removal = .unordered ∧ (s.serviceOut l).powerOrder l = .off := by
  rw [machine_serviceOut]
  refine ⟨?_, ?_, ?_, ?_, ?_, (powerOrder_enter ..).trans (powerOrder_setPower ..)⟩
  · rw [MachineRec.enter_state]
  · rw [MachineRec.enter_deck]
  · rw [MachineRec.enter_warmed]
  · rw [MachineRec.enter_pendingCycle]
  · rw [MachineRec.enter_removal]

theorem wake_leaves : ((s.wake l).machine l).state = .waking ∧ ((s.wake l).machine l).warmed = false
    ∧ ((s.wake l).machine l).powerOffPending = (s.machine l).powerOffPending ∧ (s.wake l).powerOrder l = .on
    ∧ ((s.wake l).machine l).timer = some ⟨.warmUp, s.returnClock, (s.pair (pairOf l)).settings.warmUp⟩ := by
  rw [machine_wake]
  refine ⟨?_, ?_, ?_, (powerOrder_enter ..).trans (powerOrder_setPower ..), ?_⟩
  · rw [MachineRec.enter_state]
  · rw [MachineRec.enter_warmed]
  · rw [MachineRec.enter_powerOffPending]
  · rw [MachineRec.enter_timer]

end PowerOrder

/-! ### A machine request answered -/

section Requests

variable {s : State} {r : Slot} {l : LaneIx}

theorem checkStation_of_free (free : (s.station (pairOf l)).state ≠ .resetting) (f : LaneIx → State → Answer) :
    checkStation f l s = f l s := if_neg free

/-- A machine request on a lane that fits, whose station is not RESETTING. -/
theorem checks_of_station (fits : s.fits l) (free : (s.station (pairOf l)).state ≠ .resetting) (f : LaneIx → State → Answer) :
    checkLane (laneNumber l) (checkStation f) s = f l s := by
  rw [checkLane_of_fits fits, checkStation_of_free free]

theorem exec_machinePowerOn (front : s.front .machinePower r) (fits : s.fits l) (free : (s.station (pairOf l)).state ≠ .resetting) :
    exec (.machinePowerOn true (laneNumber l) true) s
      = .next ((powerOn l s).state.answered r (powerOn l s).status (powerOn l s).body) :=
  congrArg Host.Outcome.next (live_of_answer front (checks_of_station fits free powerOn))

theorem exec_machinePowerOff (front : s.front .machinePower r) (fits : s.fits l) (free : (s.station (pairOf l)).state ≠ .resetting) :
    exec (.machinePowerOff true (laneNumber l) true) s
      = .next ((powerOff l s).state.answered r (powerOff l s).status (powerOff l s).body) :=
  congrArg Host.Outcome.next (live_of_answer front (checks_of_station fits free powerOff))

theorem exec_clearJam (front : s.front .clearJam r) (fits : s.fits l) (free : (s.station (pairOf l)).state ≠ .resetting) :
    exec (.clearJam true (laneNumber l)) s = .next ((clearJam l s).state.answered r (clearJam l s).status (clearJam l s).body) :=
  congrArg Host.Outcome.next (live_of_answer front (checks_of_station fits free clearJam))

theorem exec_serviceOut (front : s.front .service r) (fits : s.fits l) (free : (s.station (pairOf l)).state ≠ .resetting) :
    exec (.serviceOut true (laneNumber l) true) s = .next ((takeOut l s).state.answered r (takeOut l s).status (takeOut l s).body) :=
  congrArg Host.Outcome.next (live_of_answer front (checks_of_station fits free takeOut))

theorem exec_serviceIn (front : s.front .service r) (fits : s.fits l) (free : (s.station (pairOf l)).state ≠ .resetting) :
    exec (.serviceIn true (laneNumber l) true) s = .next ((bringIn l s).state.answered r (bringIn l s).status (bringIn l s).body) :=
  congrArg Host.Outcome.next (live_of_answer front (checks_of_station fits free bringIn))

theorem next_of_refusal {kind : RequestKind} (front : s.front kind r) {f : List Byte → State → Answer} {st : Status}
    (refused : f r.body s = refuse st s) : (.next (State.live (State.carryOut kind f) s) : Host.Outcome State Fault Refusal)
      = .next (s.refusedWith r st) := by
  rw [live_of_answer front refused]
  rfl

/-- A value the request does not name is refused before the station is looked at (R116). -/
theorem machinePower_badValue (front : s.front .machinePower r) (fits : s.fits l) :
    exec (.machinePowerOn true (laneNumber l) false) s = .next (s.refusedWith r .badValue)
    ∧ exec (.machinePowerOff true (laneNumber l) false) s = .next (s.refusedWith r .badValue) :=
  ⟨next_of_refusal front (checkLane_of_fits fits _), next_of_refusal front (checkLane_of_fits fits _)⟩

/-- A request that PSV takes leaves the other lanes as they are, and marks its own slot built (R174). -/
theorem answered_of_outside {u : State} (h : u.outside l = s.outside l) (st : Status) (body : ReplyBody) :
    (∀ k : LaneIx, k ≠ l → (u.answered r st body).lane k = s.lane k)
    ∧ (u.answered r st body).link.slots = markBuilt s.link.slots :=
  ⟨fun _ other => (lane_of_outside h other :), (congrArg (fun k => markBuilt k.slots) (link_of_outside h) :)⟩

/-! ### MACHINE_POWER (R116) -/

theorem powerOn_wakes (asleep : (s.machine l).state = .poweredDown ∨ (s.machine l).state = .standby) :
    powerOn l s = powerAnswer .ok l ((s.pendPowerOff false l).wake l) := by
  unfold powerOn
  rcases asleep with e | e <;> rw [e]

theorem powerOn_refuses (gone : (s.machine l).state = .outOfService ∨ (s.machine l).state = .linkLost) :
    powerOn l s = refuse .wrongState s := by
  unfold powerOn
  rcases gone with e | e <;> rw [e]

theorem powerOff_refuses (busy : (s.machine l).state = .ballDown ∨ (s.machine l).state = .reading ∨ (s.machine l).state = .cycling
    ∨ (s.machine l).state = .linkLost ∨ (s.machine l).state = .jammed) : powerOff l s = refuse .wrongState s := by
  unfold powerOff
  rcases busy with e | e | e | e | e <;> rw [e]

/-- With the machine awake and at rest, the session and the minimum on-time decide. -/
theorem powerOff_awake (awake : (s.machine l).state = .waking ∨ (s.machine l).state = .deckEmpty ∨ (s.machine l).state = .waiting
    ∨ (s.machine l).state = .ready) : powerOff l s
      = if (s.lane l).session.running then refuse .sessionOpen s
        else if (s.machine l).powerOffPending then powerAnswer .noChange l s
        else if s.minOnElapsed l then powerAnswer .ok l (s.powerDown l)
        else powerAnswer .ok l (s.pendPowerOff true l) := by
  unfold powerOff
  rcases awake with e | e | e | e <;> rw [e]

end Requests

/-- Settles O30, from the record a wake and a power-off leave. -/
theorem machinePowerOnAndOff : Obligations.MachinePowerOnAndOff := by
  unfold Obligations.MachinePowerOnAndOff
  intro s r l front fits free
  have on := exec_machinePowerOn front fits free
  have off := exec_machinePowerOff front fits free
  refine ⟨fun asleep => ?_, fun gone => ?_, fun busy => ?_, fun awake => ⟨fun session => ?_, fun closed unpended =>
    ⟨fun elapsed => ?_, fun short => ?_⟩⟩, machinePower_badValue front fits⟩
  · rw [powerOn_wakes asleep] at on
    obtain ⟨state, warmed, pending, order, timer⟩ := wake_leaves (s.pendPowerOff false l) l
    have unpended := pending.trans (congrArg MachineRec.powerOffPending (State.machine_modMachine_self s l _))
    have outside : ((s.pendPowerOff false l).wake l).outside l = s.outside l := (outside_wake ..).trans (outside_modMachine ..)
    obtain ⟨others, slots⟩ := answered_of_outside (r := r) outside .ok (((s.pendPowerOff false l).wake l).powerReply l)
    generalize (s.pendPowerOff false l).wake l = u at *
    exact ⟨_, on, state, warmed, unpended, order, timer, others, slots⟩
  · rw [on, powerOn_refuses gone]
    rfl
  · rw [off, powerOff_refuses busy]
    rfl
  · rw [off, powerOff_awake awake, if_pos ((running_iff _).2 session)]
    rfl
  · rw [powerOff_awake awake, closed, if_neg (by decide), unpended, if_neg (by decide), if_pos elapsed] at off
    obtain ⟨others, slots⟩ := answered_of_outside (r := r) (outside_powerDown l s) .ok ((s.powerDown l).powerReply l)
    obtain ⟨state, deck, warmed, pending, -, order⟩ := powerDown_leaves s l
    generalize s.powerDown l = u at *
    exact ⟨_, off, state, deck, warmed, pending, order, others, slots⟩
  · rw [powerOff_awake awake, closed, if_neg (by decide), unpended, if_neg (by decide), short, if_neg (by decide)] at off
    exact ⟨_, _, rfl, off⟩

/-- Settles O31, from what starting a cycle against the gate does. -/
theorem clearJamStartsTheRecovery : Obligations.ClearJamStartsTheRecovery := by
  unfold Obligations.ClearJamStartsTheRecovery
  intro s r l front fits
  refine ⟨fun resetting => ?_, fun free => ⟨fun clear => ?_, fun jammed => ?_⟩⟩
  · exact next_of_refusal front ((checkLane_of_fits fits _).trans (if_pos resetting))
  · have refused : clearJam l s = refuse .wrongState s := if_neg clear
    rw [exec_clearJam front fits free, refused]
    rfl
  · obtain ⟨u, started⟩ : ∃ u, u = s.startCycle l .recover := ⟨_, rfl⟩
    have answer : clearJam l s = ⟨u, .ok, .jam l (u.machine l).state ((u.machine l).pendingCycle.map (·.cycle))⟩ := by
      rw [started]
      exact if_pos jammed
    have outside : u.outside l = s.outside l := started ▸ outside_startCycle l .recover s
    obtain ⟨lane, stands, took, -⟩ : s.Follows u l (.start .recover) := started ▸ startCycle_follows .recover
    have standing : (u.machine l).jamStanding = (s.machine l).jamStanding := congrArg (fun m => m.2.1) stands
    have replies := replies_of_outside outside
    rw [exec_clearJam front fits free, answer]
    refine ⟨_, rfl, standing, fun k other => (lane_of_outside outside other :), (congrArg Lane.gate lane :), (congrArg Lane.queue lane :), ?_⟩
    have blocks : (s.gate l).blocks .recover = true ↔ ¬((s.gate l).deskHold = none ∧ (s.gate l).returnBacklog = none) := by
      rw [Gate.blocks_iff, not_and_or, Option.isSome_iff_ne_none, Option.isSome_iff_ne_none]
      simp
    simp only [State.took, blocks, ite_not] at took
    split at took
    · rename_i clear
      rw [if_pos clear]
      obtain ⟨state, inFlight, pending⟩ := took
      refine ⟨state, inFlight, pending, (replies_answered replies front.2.2 _ _).trans ?_⟩
      rw [state, pending]
      rfl
    · rename_i blocked
      rw [if_neg blocked]
      obtain ⟨state, pending⟩ := took
      refine ⟨state, pending, (replies_answered replies front.2.2 _ _).trans ?_⟩
      rw [state, pending]
      rfl

/-! ### SERVICE (R117) -/

theorem MachineRec.enter_service (st : MachineState) (m : MachineRec) : (m.enter st).service = m.service := by
  unfold MachineRec.enter
  split <;> rfl

section Service

variable {s : State} {l : LaneIx}

/-- A lane in service is taken out at once, or with its removal marked while a ball or a cycle stands. -/
theorem takeOut_at_once (service : (s.machine l).service = .in_) (idle : (s.machine l).state = .poweredDown
    ∨ (s.machine l).state = .deckEmpty ∨ (s.machine l).state = .waiting ∨ (s.machine l).state = .ready ∨ (s.machine l).state = .standby
    ∨ (s.machine l).state = .jammed ∨ (s.machine l).state = .waking) :
    takeOut l s = serviceAnswer .ok l ((s.modMachine l fun m => { m with service := .out }).serviceOut l) := by
  unfold takeOut
  rw [service, if_neg (by decide)]
  rcases idle with e | e | e | e | e | e | e <;> rw [e]

theorem takeOut_later (service : (s.machine l).service = .in_) (busy : (s.machine l).state = .ballDown
    ∨ (s.machine l).state = .reading ∨ (s.machine l).state = .cycling) : takeOut l s
      = ⟨s.setLane l { s.lane l with machine := { s.machine l with service := .out, removal := .desk } }, .ok,
          .service l .out (s.machine l).state .desk⟩ := by
  have written : ((s.modMachine l fun m => { m with service := .out }).modMachine l fun m => { m with removal := .desk })
      = s.setLane l { s.lane l with machine := { s.machine l with service := .out, removal := .desk } } := by
    simp [State.modMachine, State.modLane, State.setLane, State.lane, State.machine]
  have later : takeOut l s = serviceAnswer .ok l
      ((s.modMachine l fun m => { m with service := .out }).modMachine l fun m => { m with removal := .desk }) := by
    unfold takeOut
    rw [service, if_neg (by decide)]
    rcases busy with e | e | e <;> rw [e]
  rw [later, written]
  simp only [serviceAnswer, State.machine, State.lane_setLane_self]

theorem bringIn_back (service : (s.machine l).service = .out) (gone : (s.machine l).state = .outOfService) :
    bringIn l s = serviceAnswer .ok l
      (((s.modMachine l fun m => { m with service := .in_, removal := .unordered }).enter l .poweredDown).wakeForHead l) := by
  simp only [bringIn, service, gone, if_true, reduceCtorEq, if_false]

theorem service_serviceOut (s : State) (l : LaneIx) : ((s.serviceOut l).machine l).service = (s.machine l).service := by
  rw [machine_serviceOut, MachineRec.enter_service]

theorem service_wakeForHead (s : State) (l : LaneIx) : ((s.wakeForHead l).machine l).service = (s.machine l).service :=
  State.when_keeps (fun u : State => (u.machine l).service) _ _ _ (by rw [machine_wake, MachineRec.enter_service])

/-- A turn at the head wakes a lane brought back (R114). -/
theorem state_wakeForHead (asleep : (s.machine l).state = .poweredDown) :
    ((s.wakeForHead l).machine l).state = if (s.headTurn l).isSome then .waking else .poweredDown := by
  unfold State.wakeForHead
  cases (s.headTurn l).isSome
  · exact asleep
  · exact (wake_leaves s l).1

end Service

/-- Settles O32, from what the two answers leave of the lane. -/
theorem serviceOutAndIn : Obligations.ServiceOutAndIn := by
  unfold Obligations.ServiceOutAndIn
  intro s r l front fits free
  have out := exec_serviceOut front fits free
  have in_ := exec_serviceIn front fits free
  refine ⟨fun service => ⟨fun busy => ?_, fun idle => ?_, ?_⟩, fun service => ⟨?_, fun gone => ?_⟩⟩
  · rw [takeOut_later service busy] at out
    exact ⟨_, rfl, out⟩
  · obtain ⟨u, taken⟩ : ∃ u, u = s.modMachine l fun m => { m with service := .out } := ⟨_, rfl⟩
    rw [takeOut_at_once service idle, ← taken] at out
    obtain ⟨state, deck, warmed, pending, removal, order⟩ := serviceOut_leaves u l
    have outside : (u.serviceOut l).outside l = s.outside l := (outside_serviceOut l u).trans (taken ▸ outside_modMachine ..)
    have gate : (u.serviceOut l).gate l = s.gate l := (gate_serviceOut ..).trans (taken ▸ gate_modMachine ..)
    have away : ((u.serviceOut l).machine l).service = .out := by
      rw [service_serviceOut, taken, State.machine_modMachine_self]
    have answer : serviceAnswer .ok l (u.serviceOut l) = ⟨u.serviceOut l, .ok, .service l .out .outOfService .unordered⟩ := by
      rw [serviceAnswer, away, state, removal]
    rw [answer] at out
    generalize u.serviceOut l = v at *
    exact ⟨_, out, state, away, deck, warmed, pending, removal, order, queue_of_outside outside l, gate,
      fun k other => (lane_of_outside outside other :), replies_answered (replies_of_outside outside) front.2.2 _ _⟩
  · have stands : bringIn l s = serviceAnswer .noChange l s := if_pos service
    rw [stands] at in_
    exact ⟨_, in_⟩
  · have stands : takeOut l s = serviceAnswer .noChange l s := if_pos service
    rw [stands] at out
    exact ⟨_, out⟩
  · obtain ⟨u, back⟩ : ∃ u, u = (s.modMachine l fun m => { m with service := .in_, removal := .unordered }).enter l .poweredDown :=
      ⟨_, rfl⟩
    rw [bringIn_back service gone, ← back] at in_
    have entered : u.outside l = s.outside l := back ▸ (outside_enter ..).trans (outside_modMachine ..)
    have outside : (u.wakeForHead l).outside l = s.outside l := (outside_wakeForHead l u).trans entered
    have asleep : (u.machine l).state = .poweredDown := by rw [back, machine_enter, MachineRec.enter_state]
    have state := state_wakeForHead asleep
    rw [State.headTurn, queue_of_outside entered l] at state
    have home : ((u.wakeForHead l).machine l).service = .in_ := by
      rw [service_wakeForHead, back, machine_enter, MachineRec.enter_service, State.machine_modMachine_self]
    obtain ⟨others, slots⟩ := answered_of_outside (r := r) outside .ok (serviceAnswer .ok l (u.wakeForHead l)).body
    generalize u.wakeForHead l = v at *
    exact ⟨_, in_, home, state, queue_of_outside outside l, others, slots⟩

end Sys2Proof.Machine
end

section
/-! SUPPORT. The second event, field by field: the clock, the lane's account and machine counts, and the pair's oldest-entry
count (R113, R115, R142, R149, R160). -/

namespace Sys2Proof.Machine

/-! ### A lane after a second -/

section CountedLane

variable (grace standby : Nat) (x : Lane)

/-- A second counts in the account alone (R160). -/
theorem countSecond_eq : x.countSecond grace = { x with account := (x.countSecond grace).account } := by
  unfold Lane.countSecond
  split <;> rfl

theorem account_countSecond_of_closed {x : Lane} (closed : x.session = .closed) : (x.countSecond grace).account = x.account := by
  simp [Lane.countSecond, Lane.metered, SessionState.running, closed]

theorem account_countSecond_of_final {x : Lane} {a : Account} (account : x.account = some a) (final : a.isFinal = true) :
    (x.countSecond grace).account = some a := by
  simp [Lane.countSecond, Lane.metered, account, final]

theorem account_countSecond_of_open {x : Lane} {a : Account} (account : x.account = some a) (running : x.session ≠ .closed)
    (opened : a.isFinal = false) : (x.countSecond grace).account = some (a.countSecond x.downtime grace) := by
  simp [Lane.countSecond, Lane.metered, account, opened, (running_iff _).2 running]

end CountedLane

/-! ### An account after a second (R160) -/

section CountedAccount

variable {a : Account} (down : Bool) (grace : Nat)

theorem countSecond_keeps : (a.countSecond down grace).sessionSeconds = min 4294967295 (a.sessionSeconds + 1)
    ∧ (a.countSecond down grace).used = a.used ∧ (a.countSecond down grace).accrued = a.accrued
    ∧ (a.countSecond down grace).carry = a.carry := by
  simp only [Account.countSecond]
  repeat' split
  all_goals exact ⟨rfl, rfl, rfl, rfl⟩

theorem countSecond_untimed (perTime : a.mode ≠ .perTime) (prepaid : a.mode ≠ .prepaidTime) :
    (a.countSecond down grace).playSeconds = a.playSeconds ∧ (a.countSecond down grace).downSeconds = a.downSeconds
      ∧ (a.countSecond down grace).episode = a.episode := by
  have untimed : a.mode.timed = false := by
    revert perTime prepaid
    cases a.mode <;> decide
  simp [Account.countSecond, untimed]

theorem timed_of_mode (timed : a.mode = .perTime ∨ a.mode = .prepaidTime) : a.mode.timed = true := by
  rcases timed with e | e <;> rw [e] <;> rfl

theorem countSecond_playing (timed : a.mode = .perTime ∨ a.mode = .prepaidTime) : (a.countSecond false grace).episode = 0
    ∧ (a.countSecond false grace).playSeconds = min 4294967295 (a.playSeconds + 1)
    ∧ (a.countSecond false grace).downSeconds = a.downSeconds := by
  simp [Account.countSecond, timed_of_mode timed, Config.secondsMax]

theorem countSecond_down (timed : a.mode = .perTime ∨ a.mode = .prepaidTime) :
    (a.countSecond true grace).episode = min 65535 (a.episode + 1)
    ∧ (if grace < (a.countSecond true grace).episode then
        (a.countSecond true grace).downSeconds = min 4294967295 (a.downSeconds + 1)
          ∧ (a.countSecond true grace).playSeconds = a.playSeconds
      else (a.countSecond true grace).playSeconds = min 4294967295 (a.playSeconds + 1)
          ∧ (a.countSecond true grace).downSeconds = a.downSeconds) := by
  by_cases past : grace < min 65535 (a.episode + 1)
  · simp [Account.countSecond, timed_of_mode timed, Config.countMax, Config.secondsMax, past]
  · simp [Account.countSecond, timed_of_mode timed, Config.countMax, Config.secondsMax, past]

end CountedAccount

/-! ### The part after a second -/

section Second

variable (s : State)

theorem pair_toSecond (p : PairIx) : ∃ left,
    s.toSecond.pair p = { s.pair p with station := { s.station p with holdRemaining := left } } := s.advance_pair _ p

theorem lane_second (l : LaneIx) : s.second.lane l
    = ((s.lane l).countSecond s.meter.settings.grace).countMachine (standbyTime (s.pair (pairOf l)).settings.standbyCode) := by
  obtain ⟨left, pair⟩ := pair_toSecond s (pairOf l)
  have counted : s.second.lane l = ((s.toSecond.lane l).countSecond s.toSecond.meter.settings.grace).countMachine
      (standbyTime (s.toSecond.pair (pairOf l)).settings.standbyCode) := mapLanes_get _ _ l
  rw [counted, pair]
  rfl

theorem oldestRuns_toSecond (p : PairIx) : s.toSecond.oldestRuns p = s.oldestRuns p := by
  obtain ⟨left, pair⟩ := pair_toSecond s p
  rw [State.oldestRuns, State.liftState, State.ret, State.station, pair]
  rfl

theorem ret_second (p : PairIx) :
    s.second.ret p = if s.oldestRuns p then { s.ret p with oldest := (s.ret p).oldest + 1 } else s.ret p := by
  obtain ⟨left, pair⟩ := pair_toSecond s p
  have counted : s.second.pair p = s.toSecond.countOldest p (s.toSecond.pair p) := mapPairs_get _ _ p
  rw [State.ret, counted, State.countOldest, oldestRuns_toSecond, pair]
  split <;> rfl

theorem countSilence_silence (k : Link) :
    k.countSilence.silence = if k.timeout ≠ 0 ∧ k.lost = none then k.silence + 1 else k.silence := by
  have runs : k.silenceRuns = true ↔ k.timeout ≠ 0 ∧ k.lost = none := by simp [Link.silenceRuns]
  unfold Link.countSilence
  by_cases e : k.silenceRuns = true
  · rw [if_pos e, if_pos (runs.1 e)]
  · rw [if_neg e, if_neg (mt runs.2 e)]

theorem countSilence_queues (k : Link) : k.countSilence.slots = k.slots ∧ k.countSilence.reports = k.reports := by
  unfold Link.countSilence
  split <;> exact ⟨rfl, rfl⟩

theorem oldestRuns_iff (p : PairIx) : s.oldestRuns p = true ↔ s.liftState p = .lifting ∧ (s.ret p).outOfReach = false := by
  simp [State.oldestRuns]

end Second

/-- The counts of a lane's machine after a second (R113, R115). -/
theorem machine_second (s : State) (l : LaneIx) : s.second.machine l = { s.machine l with
    onTime := if (s.machine l).warmed = true then min 600 ((s.machine l).onTime + 1) else (s.machine l).onTime
    idle := if ((s.machine l).state = .deckEmpty ∨ ((s.machine l).state = .ready ∧ (s.lane l).queue = []))
        ∧ (s.machine l).idle < standbyTime (s.pair (pairOf l)).settings.standbyCode then (s.machine l).idle + 1
      else (s.machine l).idle } := by
  have runs : (s.lane l).idleRuns = true ↔ (s.machine l).state = .deckEmpty ∨ ((s.machine l).state = .ready ∧ (s.lane l).queue = []) := by
    simp [Lane.idleRuns, State.machine]
  have idles : ((s.lane l).idleRuns && decide ((s.machine l).idle < standbyTime (s.pair (pairOf l)).settings.standbyCode)) = true
      ↔ ((s.machine l).state = .deckEmpty ∨ ((s.machine l).state = .ready ∧ (s.lane l).queue = []))
        ∧ (s.machine l).idle < standbyTime (s.pair (pairOf l)).settings.standbyCode := by
    rw [Bool.and_eq_true, runs, decide_eq_true_iff]
  simp only [← idles]
  rw [State.machine, lane_second, countSecond_eq]
  rfl

/-- Settles O36, field by field. -/
theorem secondEventCounts : Obligations.SecondEventCounts := by
  unfold Obligations.SecondEventCounts
  intro s free
  have taken : exec .secondEvent s = .next s.second := by
    show (.next (if s.held then s.toSecond else s.drain.second) : Host.Outcome State Fault Refusal) = _
    rw [free.1, if_neg (by decide), s.drain_of_free free]
  obtain ⟨slots, reports⟩ := countSilence_queues s.link
  refine ⟨s.second, taken, rfl, rfl, decide_eq_true_iff, countSilence_silence s.link, slots, reports, rfl, fun l => ?_, fun p => ?_⟩
  · have lane := lane_second s l
    have account : (s.second.lane l).account = ((s.lane l).countSecond s.meter.settings.grace).account := (congrArg Lane.account lane :)
    rw [countSecond_eq] at lane
    have machine := machine_second s l
    refine ⟨(congrArg Lane.queue lane :), (congrArg Lane.gate lane :), (congrArg MachineRec.state machine :), (congrArg Lane.roster lane :),
      (congrArg MachineRec.onTime machine :), (congrArg MachineRec.idle machine :), fun closed => ?_,
      fun a own => ⟨fun final => ?_, fun running opened => ?_⟩⟩
    · exact account.trans (account_countSecond_of_closed _ closed)
    · exact account.trans (account_countSecond_of_final _ own final)
    · obtain ⟨session, used, accrued, carry⟩ := countSecond_keeps (a := a) (s.lane l).downtime s.meter.settings.grace
      refine ⟨_, account.trans (account_countSecond_of_open _ own running opened), session, used, accrued, carry,
        countSecond_untimed _ _, fun timed => ⟨fun up => ?_, fun down => ?_⟩⟩
      · rw [up]
        exact countSecond_playing _ timed
      · rw [down]
        exact countSecond_down _ timed
  · have runs := oldestRuns_iff s p
    rw [ret_second]
    by_cases e : s.oldestRuns p = true
    · rw [if_pos e, if_pos (runs.1 e)]
      exact ⟨rfl, rfl, rfl⟩
    · rw [if_neg e, if_neg (mt runs.2 e)]
      exact ⟨rfl, rfl, rfl⟩

end Sys2Proof.Machine
end

section
/-! SUPPORT. The expiries of the second event: the idle timer, a pending power-off, and the oldest entry of a return (R113, R115,
R143, R181). -/

namespace Sys2Proof.Machine

/-! ### A return jam raised on both lanes (R143) -/

section ReturnJam

variable (s : State)

theorem link_raiseReason (r : Reason) (time : DateTime) (l : LaneIx) : (s.raiseReason r time l).link = s.link := by
  unfold State.raiseReason
  split <;> rfl

/-- A reason keeps the time it was first raised at (R12). -/
theorem returnJam_raiseReason_self (time : DateTime) (l : LaneIx) :
    ((s.raiseReason .returnJam time l).gate l).returnJam = some ((s.gate l).returnJam.getD time) := by
  rw [gate_raiseReason]
  cases e : (s.gate l).returnJam <;> simp [Gate.has, Gate.raisedAt, e]

theorem lane_raiseReason_ne (r : Reason) (time : DateTime) {l k : LaneIx} (h : k ≠ l) : (s.raiseReason r time l).lane k = s.lane k :=
  lane_of_outside (outside_raiseReason ..) h

theorem returnJam_raiseBoth {p : PairIx} {k : LaneIx} (own : pairOf k = p) :
    ((s.raiseBoth .returnJam p).gate k).returnJam = some ((s.gate k).returnJam.getD s.clock) := by
  obtain rfl | rfl := (pairOf_eq_lanes k p).1 own
  · rw [State.raiseBoth, State.gate, lane_raiseReason_ne _ _ _ (laneA_ne_laneB p)]
    exact returnJam_raiseReason_self ..
  · rw [State.raiseBoth, returnJam_raiseReason_self, State.gate, lane_raiseReason_ne _ _ _ (laneA_ne_laneB p).symm]
    rfl

theorem lane_raiseBoth_ne (r : Reason) {p : PairIx} {k : LaneIx} (other : pairOf k ≠ p) : (s.raiseBoth r p).lane k = s.lane k := by
  rw [Ne, pairOf_eq_lanes, not_or] at other
  rw [State.raiseBoth, lane_raiseReason_ne _ _ _ other.2, lane_raiseReason_ne _ _ _ other.1]

theorem queue_raiseBoth (r : Reason) (p : PairIx) (k : LaneIx) : ((s.raiseBoth r p).lane k).queue = (s.lane k).queue :=
  (queue_of_outside (outside_raiseReason ..) k).trans (queue_of_outside (outside_raiseReason ..) k)

theorem link_raiseBoth (r : Reason) (p : PairIx) : (s.raiseBoth r p).link = s.link := (link_raiseReason ..).trans (link_raiseReason ..)

theorem ret_declareReturnJam (p : PairIx) : (s.declareReturnJam p).ret p = { s.ret p with jamStanding := true } :=
  (ret_raiseBoth ..).trans (congrArg Pair.ret (State.pair_modPair_self ..))

end ReturnJam

/-! ### A power-off by the idle timer (R113) -/

/-- A running session sends the lane to STANDBY with its deck kept. -/
theorem idlePowerOff_leaves (s : State) (l : LaneIx) : (s.idlePowerOff l).powerOrder l = .off ∧ ((s.idlePowerOff l).machine l).warmed = false
    ∧ if (s.lane l).session = .closed then ((s.idlePowerOff l).machine l).state = .poweredDown ∧ ((s.idlePowerOff l).machine l).deck = .unknown
      else ((s.idlePowerOff l).machine l).state = .standby ∧ ((s.idlePowerOff l).machine l).deck = (s.machine l).deck := by
  by_cases closed : (s.lane l).session = .closed
  · have off : s.idlePowerOff l = ((s.cutPower l).forgetDeck l).enter l .poweredDown := if_neg (by rw [running_iff]; exact not_not.2 closed)
    rw [if_pos closed, off, machine_enter, machine_forgetDeck]
    exact ⟨(powerOrder_enter ..).trans (powerOrder_setPower ..), by rw [MachineRec.enter_warmed, machine_cutPower],
      MachineRec.enter_state .., by rw [MachineRec.enter_deck]⟩
  · have off : s.idlePowerOff l = (s.cutPower l).enter l .standby := if_pos ((running_iff _).2 closed)
    rw [if_neg closed, off, machine_enter, machine_cutPower]
    exact ⟨(powerOrder_enter ..).trans (powerOrder_setPower ..), by rw [MachineRec.enter_warmed], MachineRec.enter_state ..,
      by rw [MachineRec.enter_deck]⟩

/-! ### The parts due -/

section Due

variable {s : State} (running : s.held = false)

include running

theorem exec_deskSilence (due : s.due.deskSilence = true) :
    exec .deskSilenceExpiry s = .next ({ s with due := { s.due with deskSilence := false } } : State).loseDesk :=
  congrArg Host.Outcome.next ((if_neg (Bool.eq_false_iff.1 running)).trans (if_pos due))

theorem exec_idleTimer {l : LaneIx} (due : l ∈ s.due.idle) : exec (.idleTimerExpiry l) s
    = .next (({ s with due := { s.due with idle := s.due.idle.filter (· ≠ l) } } : State).testIdle l) :=
  congrArg Host.Outcome.next ((if_neg (Bool.eq_false_iff.1 running)).trans (if_pos (List.contains_iff_mem.2 due)))

theorem exec_onTime {l : LaneIx} (due : l ∈ s.due.onTime) : exec (.onTimeElapsed l) s
    = .next (({ s with due := { s.due with onTime := s.due.onTime.filter (· ≠ l) } } : State).testOnTime l) :=
  congrArg Host.Outcome.next ((if_neg (Bool.eq_false_iff.1 running)).trans (if_pos (List.contains_iff_mem.2 due)))

theorem exec_oldestEntry {p : PairIx} (due : p ∈ s.due.oldest) : exec (.oldestEntryExpiry p) s
    = .next (({ s with due := { s.due with oldest := s.due.oldest.filter (· ≠ p) } } : State).declareReturnJam p) :=
  congrArg Host.Outcome.next ((if_neg (Bool.eq_false_iff.1 running)).trans (if_pos (List.contains_iff_mem.2 due)))

end Due

/-- Settles O39, each expiry by the state its part leaves once it is no longer due. -/
theorem secondExpiriesAct : Obligations.SecondExpiriesAct := by
  unfold Obligations.SecondExpiriesAct
  intro s running
  refine ⟨fun due => ?_, fun l due idles waited elapsed => ?_, fun l due pending elapsed rests closed => ?_, fun p due => ?_⟩
  · exact ⟨_, exec_deskSilence running due, rfl, rfl, rfl, rfl⟩
  · obtain ⟨v, taken⟩ : ∃ v, v = ({ s with due := { s.due with idle := s.due.idle.filter (· ≠ l) } } : State) := ⟨_, rfl⟩
    have same : v.lane l = s.lane l := by rw [taken]; rfl
    have others : ∀ k, v.lane k = s.lane k := fun k => by rw [taken]; rfl
    have ready : v.testIdle l = v.idlePowerOff l := by
      refine if_pos ?_
      subst taken
      exact Bool.and_eq_true_iff.2 ⟨Bool.and_eq_true_iff.2 ⟨idles, decide_eq_true waited⟩, elapsed⟩
    obtain ⟨order, warmed, state⟩ := idlePowerOff_leaves v l
    have outside : (v.idlePowerOff l).outside l = v.outside l := outside_idlePowerOff l v
    rw [exec_idleTimer running due, ← taken, ready]
    have machine : v.machine l = s.machine l := congrArg Lane.machine same
    rw [same, machine] at state
    exact ⟨_, rfl, order, warmed, state, (queue_of_outside outside l).trans (congrArg Lane.queue same),
      fun k other => (lane_of_outside outside other).trans (others k)⟩
  · obtain ⟨v, taken⟩ : ∃ v, v = ({ s with due := { s.due with onTime := s.due.onTime.filter (· ≠ l) } } : State) := ⟨_, rfl⟩
    have others : ∀ k, v.lane k = s.lane k := fun k => by rw [taken]; rfl
    have ready : v.testOnTime l = v.powerDown l := by
      refine if_pos ?_
      subst taken
      have atRest : (s.machine l).state.atRest = true := by rcases rests with e | e | e <;> rw [e] <;> rfl
      exact Bool.and_eq_true_iff.2 ⟨Bool.and_eq_true_iff.2 ⟨Bool.and_eq_true_iff.2 ⟨pending, elapsed⟩, atRest⟩, decide_eq_true closed⟩
    obtain ⟨state, deck, -, -, unpended, order⟩ := powerDown_leaves v l
    have outside : (v.powerDown l).outside l = v.outside l := outside_powerDown l v
    rw [exec_onTime running due, ← taken, ready]
    exact ⟨_, rfl, order, state, deck, unpended, fun k other => (lane_of_outside outside other).trans (others k)⟩
  · obtain ⟨v, taken⟩ : ∃ v, v = ({ s with due := { s.due with oldest := s.due.oldest.filter (· ≠ p) } } : State) := ⟨_, rfl⟩
    have record : (v.declareReturnJam p).ret p = { s.ret p with jamStanding := true } := by
      rw [ret_declareReturnJam, taken]
      rfl
    obtain ⟨w, marked⟩ : ∃ w, w = v.modReturn p fun t => { t with jamStanding := true } := ⟨_, rfl⟩
    have lane (k : LaneIx) : w.lane k = s.lane k := by
      rw [marked, taken]
      rfl
    have clock : w.clock = s.clock := by
      rw [marked, taken]
      rfl
    have link : w.link = s.link := by
      rw [marked, taken]
      rfl
    have declared : v.declareReturnJam p = (w.raiseBoth .returnJam p).report
        (.returnJam p ((s.ret p).track.head?.map fun e => ⟨e.seq, e.origin, s.elapsed e.entry⟩) (s.ret p).track.length (s.ret p).rack) := by
      rw [marked, taken]
      rfl
    refine ⟨_, (exec_oldestEntry running due).trans (by rw [← taken]), by rw [record], by rw [record], by rw [record], fun l own =>
      ⟨?_, ?_, ?_⟩, fun k other => ?_, ?_⟩
    all_goals rw [declared]
    · exact (returnJam_raiseBoth w own).trans (by rw [State.gate, lane, clock]; rfl)
    · exact (machine_raiseBoth w .returnJam p l).trans (congrArg Lane.machine (lane l))
    · exact (queue_raiseBoth w .returnJam p l).trans (congrArg Lane.queue (lane l))
    · exact (lane_raiseBoth_ne w .returnJam other).trans (lane k)
    · exact congrArg (Link.queue _) ((link_raiseBoth w .returnJam p).trans link)

end Sys2Proof.Machine
end

section
/-! SUPPORT. The timers of a lane's machine: the settle, the re-read, the read and cycle timeouts, and the warm-up (R104, R105, R111,
R114). -/

namespace Sys2Proof.Machine

section Timers

variable {s : State} {l : LaneIx} {start : Reading} {length : Nat}

/-! ### What each timer does -/

theorem settleOut_of_ballDown (state : (s.machine l).state = .ballDown) (timer : (s.machine l).timer = some ⟨.settle, start, length⟩) :
    s.settleOut l = ((s.runOut start length).nextRead l).enter l .reading := by
  rw [State.settleOut, state, timer]

theorem rereadOut_of_reading (state : (s.machine l).state = .reading) (timer : (s.machine l).timer = some ⟨.reread, start, length⟩) :
    s.rereadOut l = (s.runOut start length).nextRead l := by
  rw [State.rereadOut, state, timer]

theorem readOut_of_reading {again : Bool} {turn : Option Turn} {need : Option Need} (state : (s.machine l).state = .reading)
    (inFlight : (s.machine l).inFlight = some ⟨.readDeck again, start, length, turn, need⟩) :
    s.readOut l = if again then (s.runOut start length).jam l .read else (s.runOut start length).issueRead l true := by
  rw [State.readOut, state, inFlight]

theorem cycleOut_of_cycling {c : Cycle} {turn : Option Turn} {need : Option Need} (state : (s.machine l).state = .cycling)
    (inFlight : (s.machine l).inFlight = some ⟨.cycle c, start, length, turn, need⟩) :
    s.cycleOut l = (s.runOut start length).jam l .timeout := by
  rw [State.cycleOut, state, inFlight]

/-- The machine warm, before its cycle is derived (R114). -/
def State.warmed (l : LaneIx) (s : State) : State := s.modMachine l fun m => { m with warmed := true, onTime := 0, timer := none }

theorem warmUpOut_of_waking (state : (s.machine l).state = .waking) (timer : (s.machine l).timer = some ⟨.warmUp, start, length⟩) :
    s.warmUpOut l = ((s.runOut start length).warmed l).derive l := by
  rw [State.warmUpOut, state, timer]
  rfl

/-! ### A read issued (R104) -/

theorem returnClock_of_outside {t : State} (h : t.outside l = s.outside l) : t.returnClock = s.returnClock :=
  (congrArg State.returnClock h :)

theorem machine_settleOut (state : (s.machine l).state = .ballDown) (timer : (s.machine l).timer = some ⟨.settle, start, length⟩) :
    (s.settleOut l).machine l = ((s.machine l).issue false (s.settleOut l).returnClock
      ((s.machine l).ball.map fun b => { b with reads := b.reads + 1 })).enter .reading := by
  rw [settleOut_of_ballDown state timer, machine_enter, machine_nextRead, machine_runOut,
    returnClock_of_outside ((outside_enter l _ _).trans (outside_nextRead l _))]

theorem machine_rereadOut (state : (s.machine l).state = .reading) (timer : (s.machine l).timer = some ⟨.reread, start, length⟩) :
    (s.rereadOut l).machine l = (s.machine l).issue false (s.rereadOut l).returnClock
      ((s.machine l).ball.map fun b => { b with reads := b.reads + 1 }) := by
  rw [rereadOut_of_reading state timer, machine_nextRead, machine_runOut, returnClock_of_outside (outside_nextRead l _)]

theorem machine_readOut_again {turn : Option Turn} {need : Option Need} (state : (s.machine l).state = .reading)
    (inFlight : (s.machine l).inFlight = some ⟨.readDeck false, start, length, turn, need⟩) :
    (s.readOut l).machine l = (s.machine l).issue true (s.readOut l).returnClock (s.machine l).ball := by
  rw [readOut_of_reading state inFlight, if_neg (by decide), machine_issueRead, machine_runOut,
    returnClock_of_outside (outside_issueRead l _ _)]

/-! ### A jam with no removal ordered and none to order (R111) -/

theorem jam_of_report (cause : JamCause) (removal : (s.machine l).removal = .unordered) (policy : (s.lane l).health.policy = .report) :
    s.jam l cause = (s.jamTaken l).report (s.jamReport l cause) := by
  rw [jam_eq, removal, outcomeOrders_of_report s l _ policy, State.when_false]
  rfl

theorem jam_leaves (cause : JamCause) (removal : (s.machine l).removal = .unordered) (policy : (s.lane l).health.policy = .report) :
    (s.jam l cause).machine l = (s.machine l).jam.enter .jammed
      ∧ ((s.jam l cause).lane l).health.cycles.value = min 16777215 ((s.lane l).health.cycles.value + 1) := by
  rw [jam_of_report cause removal policy, machine_report, State.lane_report]
  exact ⟨machine_jamTaken, cycles_jamTaken⟩

end Timers

/-- Settles O40, each timer by the record it leaves. -/
theorem readTimersAct : Obligations.ReadTimersAct := by
  unfold Obligations.ReadTimersAct
  intro s l b free ball
  have next {f : State → State} : (.next (State.live f s) : Host.Outcome State Fault Refusal) = .next (f s) :=
    congrArg Host.Outcome.next (State.live_of_free free f)
  refine ⟨fun start length state timer => ?_, fun start length state timer => ?_, fun start length turn need state =>
    ⟨fun inFlight => ?_, fun inFlight removal policy => ?_⟩⟩
  · have machine := machine_settleOut state timer
    rw [ball] at machine
    have others : ∀ k, k ≠ l → (s.settleOut l).lane k = s.lane k := fun _ e => lane_settleOut_ne s e
    refine ⟨_, next, ?_, ?_, ?_, ?_, ?_, others⟩ <;> rw [machine]
    · rw [MachineRec.enter_state]
    · rw [MachineRec.enter_ball]
      rfl
    · rw [MachineRec.enter_timer]
      rfl
    · rw [MachineRec.enter_inFlight]
      rfl
    · rw [MachineRec.enter_deck]
      rfl
  · have machine := machine_rereadOut state timer
    rw [ball] at machine
    have others : ∀ k, k ≠ l → (s.rereadOut l).lane k = s.lane k := fun _ e => lane_rereadOut_ne s e
    refine ⟨_, next, ?_, ?_, ?_, ?_, others⟩ <;> rw [machine]
    · exact state
    · rfl
    · rfl
    · rfl
  · have machine := machine_readOut_again state inFlight
    have others : ∀ k, k ≠ l → (s.readOut l).lane k = s.lane k := fun _ e => lane_readOut_ne s e
    refine ⟨_, next, ?_, ?_, ?_, others⟩ <;> rw [machine]
    · exact state
    · exact ball
    · rfl
  · have jammed : s.readOut l = (s.runOut start length).jam l .read := (readOut_of_reading state inFlight).trans (if_pos rfl)
    have outside := outside_jam l .read (s.runOut start length)
    obtain ⟨machine, -⟩ := jam_leaves (s := s.runOut start length) .read removal policy
    obtain ⟨state', inFlight', -, -, ball', -, deck, standing, -⟩ := MachineRec.jam_enter (s.machine l)
    rw [machine_runOut, ← jammed] at machine
    rw [← jammed] at outside
    rw [← machine] at state' inFlight' ball' deck standing
    exact ⟨_, next, state', ball', inFlight', deck, standing, (queue_of_outside outside l :), (roster_of_outside outside l :),
      fun _ e => lane_readOut_ne s e⟩

/-! ### The end of the warm-up (R114) -/

section WarmUp

variable {s : State} {l : LaneIx}

/-! No outcome of R108 starts a timer. -/

theorem timer_holdCycle (c : Cycle) (served : Bool) : ((s.holdCycle l c served).machine l).timer = (s.machine l).timer := by
  rw [State.holdCycle, machine_enter, MachineRec.enter_timer, State.machine_modMachine_self]

theorem timer_issueCycle (c : Cycle) (turn : Option Turn) (need : Option Need) :
    ((s.issueCycle l c turn need).machine l).timer = (s.machine l).timer := by
  rw [State.issueCycle, machine_enter, MachineRec.enter_timer, machine_handCommand, State.machine_modMachine_self]

theorem timer_makeReady : ((s.makeReady l).machine l).timer = (s.machine l).timer := by
  rw [State.makeReady, machine_enter, MachineRec.enter_timer, State.machine_modMachine_self]

theorem timer_makeEmpty : ((s.makeEmpty l).machine l).timer = (s.machine l).timer := by
  rw [State.makeEmpty, machine_enter, MachineRec.enter_timer, State.machine_modMachine_self]

theorem timer_startCycle (c : Cycle) : ((s.startCycle l c).machine l).timer = (s.machine l).timer := by
  unfold State.startCycle
  split
  · exact timer_holdCycle c false
  · exact timer_issueCycle c _ _

theorem timer_serve (c : Cycle) : ((s.serve l c).machine l).timer = (s.machine l).timer := by
  unfold State.serve
  split
  · exact timer_holdCycle c true
  · exact timer_makeReady

/-- An outcome followed by a lane that stays at rest. -/
theorem State.Follows.timer_rest {t : State} {d : Derived} (h : s.Follows t l d) (removal : (s.machine l).removal = .unordered)
    (pending : (s.machine l).powerOffPending = false) (timer : (t.machine l).timer = (s.machine l).timer) :
    ((t.rest l).machine l).timer = (s.machine l).timer := by
  obtain ⟨-, -, -, -, removal', pending'⟩ : _ ∧ _ ∧ _ ∧ _ ∧ _ ∧ _ := by simpa only [MachineRec.stands, Prod.mk.injEq] using h.stands
  rw [rest_of_unordered (removal'.trans removal) (pending'.trans pending), timer]

theorem timer_follow (removal : (s.machine l).removal = .unordered) (pending : (s.machine l).powerOffPending = false) (d : Derived) :
    ((s.follow l d).machine l).timer = (s.machine l).timer := by
  unfold State.follow
  cases d with
  | start c => exact (startCycle_follows c).timer_rest removal pending (timer_startCycle c)
  | serve c => exact (serve_follows c).timer_rest removal pending (timer_serve c)
  | deckEmpty => exact makeEmpty_follows.timer_rest removal pending timer_makeEmpty
  | ready =>
    exact (makeReady_follows (d := .ready) fun _ state none_held => ⟨state, none_held⟩).timer_rest removal pending timer_makeReady

/-- What an outcome reads of the state it is taken in: the gate, the head and its need. -/
theorem State.took_congr {w t : State} {d : Derived} (gate : w.gate l = s.gate l) (turn : w.headTurn l = s.headTurn l)
    (need : w.headNeed l = s.headNeed l) (h : w.took t l d) : s.took t l d := by
  cases d with
  | start c => simpa only [State.took, gate, turn, need] using h
  | serve c => simpa only [State.took, gate, turn, need] using h
  | deckEmpty => exact h
  | ready => exact h

/-- The warm-up's end changes of the lane its machine alone, and follows what R108 derives for it. -/
theorem warmUpOut_follows {start : Reading} {length : Nat} (state : (s.machine l).state = .waking)
    (timer : (s.machine l).timer = some ⟨.warmUp, start, length⟩) (removal : (s.machine l).removal = .unordered)
    (pending : (s.machine l).powerOffPending = false) :
    ((s.warmUpOut l).machine l).warmed = true ∧ ((s.warmUpOut l).machine l).onTime = 0 ∧ ((s.warmUpOut l).machine l).timer = none
      ∧ s.took (s.warmUpOut l) l (derived (s.headNeed l) (s.machine l).deck (s.machine l).rerack) := by
  obtain ⟨w, warm⟩ : ∃ w, w = (s.runOut start length).warmed l := ⟨_, rfl⟩
  have machine : w.machine l = { s.machine l with warmed := true, onTime := 0, timer := none } := by
    rw [warm, State.warmed, State.machine_modMachine_self, machine_runOut]
  have outside : w.outside l = (s.runOut start length).outside l := warm ▸ outside_modMachine ..
  have need : w.headNeed l = s.headNeed l := headNeed_of_outside outside l
  have turn : w.headTurn l = s.headTurn l := congrArg List.head? (queue_of_outside outside l)
  have gate : w.gate l = s.gate l := warm ▸ gate_modMachine ..
  have removal' : (w.machine l).removal = .unordered := by rw [machine, removal]
  have pending' : (w.machine l).powerOffPending = false := by rw [machine, pending]
  have ended : s.warmUpOut l = w.derive l := warm ▸ warmUpOut_of_waking state timer
  obtain ⟨-, stands, took, -⟩ := derive_follows removal' pending'
  obtain ⟨-, -, warmed, onTime, -⟩ : _ ∧ _ ∧ _ ∧ _ ∧ _ ∧ _ := by simpa only [MachineRec.stands, Prod.mk.injEq] using stands
  rw [need, machine] at took
  rw [ended]
  refine ⟨by rw [warmed, machine], by rw [onTime, machine], ?_, State.took_congr gate turn need took⟩
  rw [State.derive, timer_follow removal' pending', machine]

end WarmUp

/-- Settles O41, a cycle timeout by the jam it takes and the warm-up by what R108 derives. -/
theorem cycleTimeoutAndWarmUp : Obligations.CycleTimeoutAndWarmUp := by
  unfold Obligations.CycleTimeoutAndWarmUp
  intro s l free removal pending
  have next {f : State → State} : (.next (State.live f s) : Host.Outcome State Fault Refusal) = .next (f s) :=
    congrArg Host.Outcome.next (State.live_of_free free f)
  refine ⟨fun c start length turn need state inFlight policy => ?_, fun start length state timer => ?_⟩
  · have jammed : s.cycleOut l = (s.runOut start length).jam l .timeout := cycleOut_of_cycling state inFlight
    have outside := outside_jam l .timeout (s.runOut start length)
    obtain ⟨machine, cycles⟩ := jam_leaves (s := s.runOut start length) .timeout removal policy
    obtain ⟨state', inFlight', -, unpended, -, -, deck, standing, -⟩ := MachineRec.jam_enter (s.machine l)
    rw [machine_runOut, ← jammed] at machine
    rw [← jammed] at outside cycles
    rw [← machine] at state' inFlight' unpended deck standing
    exact ⟨_, next, state', inFlight', unpended, deck, standing, cycles, (queue_of_outside outside l :),
      fun _ e => lane_cycleOut_ne s e⟩
  · obtain ⟨warmed, onTime, stopped, took⟩ := warmUpOut_follows state timer removal pending
    refine ⟨_, next, warmed, onTime, stopped, fun _ e => lane_warmUpOut_ne s e, fun alone deck => ?_, fun alone deck clear => ?_,
      fun new stale => ?_⟩
    · rw [State.headNeed, alone, deck] at took
      exact took.1
    · rw [State.headNeed, alone, deck] at took
      obtain ⟨cycling, sweep, -⟩ := (if_neg (Bool.eq_false_iff.1 clear)).mp took
      exact ⟨cycling, sweep⟩
    · have start : derived (s.headNeed l) (s.machine l).deck (s.machine l).rerack = .start (.fullRack .newFrame) := by
        rw [new]
        exact if_neg stale
      rw [start, State.took, new] at took
      split
      · rename_i blocked
        exact (if_pos blocked).mp took
      · rename_i clear
        obtain ⟨cycling, rack, -⟩ := (if_neg clear).mp took
        exact ⟨cycling, rack⟩

end Sys2Proof.Machine
end
